-- ==== Sys2Proof/Word.lean ====
section
/-! DEFINITION. The words of the HD6 (bytes, 16-bit words, 32-bit values), the numbers of heads and links, and
the six-fold families its blocks come in (spec/00_scope.md Table 2.1: "×6"). -/

namespace Sys2Proof

/-- One data character, one byte of a frame. -/
abbrev Byte := BitVec 8
/-- A 16-bit word: trace record words (R183), raw sample counts (2.2), revisions (R8). -/
abbrev Word16 := BitVec 16
/-- A 32-bit value that wraps or is compared as a whole: timestamps (R87), cycle numbers (R88), serials. -/
abbrev Word32 := BitVec 32

/-- Heads H0 to H5 (00_scope.md section 5, "Numbering"). -/
abbrev HeadId := Fin 6
/-- Station links S0 to S5. Head Hn and link Sn share a number and are separate blocks (00_scope.md section 2). -/
abbrev LinkId := Fin 6

/-- Six of a kind, one for each head or each link. -/
structure PerSix (α : Type) where
  at0 : α
  at1 : α
  at2 : α
  at3 : α
  at4 : α
  at5 : α
  deriving DecidableEq, Repr

namespace PerSix

variable {α β : Type}

/-- The member with number `i`. -/
def get (p : PerSix α) (i : Fin 6) : α :=
  match i with
  | ⟨0, _⟩ => p.at0
  | ⟨1, _⟩ => p.at1
  | ⟨2, _⟩ => p.at2
  | ⟨3, _⟩ => p.at3
  | ⟨4, _⟩ => p.at4
  | ⟨_ + 5, _⟩ => p.at5

/-- Replace the member with number `i`. -/
def set (p : PerSix α) (i : Fin 6) (x : α) : PerSix α :=
  match i with
  | ⟨0, _⟩ => { p with at0 := x }
  | ⟨1, _⟩ => { p with at1 := x }
  | ⟨2, _⟩ => { p with at2 := x }
  | ⟨3, _⟩ => { p with at3 := x }
  | ⟨4, _⟩ => { p with at4 := x }
  | ⟨_ + 5, _⟩ => { p with at5 := x }

/-- Change the member with number `i`. -/
def modify (p : PerSix α) (i : Fin 6) (f : α → α) : PerSix α := p.set i (f (p.get i))

/-- The family made by a rule of the number. -/
def ofFn (f : Fin 6 → α) : PerSix α := ⟨f 0, f 1, f 2, f 3, f 4, f 5⟩

/-- Six equal members. -/
def const (x : α) : PerSix α := ⟨x, x, x, x, x, x⟩

/-- Each member changed in the same way. -/
def map (p : PerSix α) (f : α → β) : PerSix β :=
  ⟨f p.at0, f p.at1, f p.at2, f p.at3, f p.at4, f p.at5⟩

/-- The members in number order. -/
def toList (p : PerSix α) : List α := [p.at0, p.at1, p.at2, p.at3, p.at4, p.at5]

end PerSix

/-- The numbers 0 to 5 in order: heads and links are always listed so (R179, R68). -/
def sixInOrder : List (Fin 6) := [0, 1, 2, 3, 4, 5]

/-- The number after `i`, with 5 followed by 0 (R98: "from H5 on to H0"). -/
def nextOfSix (i : Fin 6) : Fin 6 := i + 1

end Sys2Proof
end

