-- ==== Sys2Proof/Syntax.lean ====
section
/-! DEFINITION. The commands of the HD6: one constructor for each row of spec/opcode_table.json, with what the event
carries, and the types of those operands. -/

namespace Sys2Proof

/-- One eleven-bit character as a receiver takes it: data, mark bit, and whether the stop bit was missing (R123). -/
structure Character where
  data : Byte
  mark : Bool
  framing : Bool
  deriving DecidableEq, Repr

/-- A character on the line, and whether it started while the HD6 drove the line (R159; no row marks a character's start, log entry
37). -/
structure LineCharacter where
  character : Character
  startedWhileDriven : Bool
  deriving DecidableEq, Repr

/-- Status of a pyrometer sample (2.2, Table 11.1). -/
inductive SampleStatus where
  | ok | low | high | weak
  deriving DecidableEq, Repr

/-- Status a drive reports (6.5, Table 11.10). -/
inductive DriveStatus where
  | ready | notReady | tripped
  deriving DecidableEq, Repr

/-- Level of the cabinet status input (R117). -/
inductive CabinetState where
  | ready | notReady
  deriving DecidableEq, Repr

/-- A frame completed on a sensor input, as R184 hands it on. -/
inductive SampleFrame where
  | bad
  | good (status : SampleStatus) (raw : Word16)
  deriving DecidableEq, Repr

/-- A frame completed on a drive status input, as R184 hands it on. -/
inductive StatusFrame where
  | bad
  | good (status : DriveStatus)
  deriving DecidableEq, Repr

/-- One ECC-protected word of the non-volatile memory (R20): what was written, and which of its bits differ now.
The width of a word is the model's (log entry 9). -/
structure NvCell where
  value : Byte
  flips : Byte
  deriving DecidableEq, Repr

/-- Bits of one word of a record found changed: the word's position and the mask of bits (R20, log entry 9). A bit that had changed
before stays changed. -/
structure CellFlip where
  cell : Nat
  mask : Byte
  deriving DecidableEq, Repr

/-- The same for the scan, which reads every slot. -/
structure SlotFlip where
  slot : Nat
  cell : Nat
  mask : Byte
  deriving DecidableEq, Repr

/-- What a slot holds when a write reads it back (R14): the record written, perhaps with changed bits, or something else. -/
inductive WriteResult where
  | asWritten (flips : List CellFlip)
  | other (held : List NvCell)
  deriving DecidableEq, Repr

/-- What an operation broken off by reset leaves in its slot (R24): its former contents, the finished operation's, or
contents with an uncorrectable word. -/
inductive AbandonedWrite where
  | former
  | finished
  | damaged (held : List NvCell)
  deriving DecidableEq, Repr

/-- What the completion of a settings write meets (R17): what slot 54 holds, and the receivers in the middle of a character, the
station links' and the line's (log entry 34). -/
structure SettingsCompletion where
  held : WriteResult
  onLinks : PerSix Bool
  onLine : Bool
  deriving DecidableEq, Repr

/-- The commands, in the order of the opcode table's families. A supervisor command carries the payload of its frame. -/
inductive Instr where
  -- reset and the recipe store
  /-- RESET (R24): the levels of the straps and the cabinet input at the release of reset, and what a broken-off write left. -/
  | reset (straps : BitVec 5) (cabinet : CabinetState) (left : AbandonedWrite)
  /-- START_UP_SCAN_COMPLETE (R23, R22): the bits the scan finds changed. -/
  | startUpScanComplete (flips : List SlotFlip)
  /-- RECIPE_WRITE_COMPLETE (R14). -/
  | recipeWriteComplete (readBack : WriteResult)
  /-- RECIPE_ERASE_COMPLETE (R15). -/
  | recipeEraseComplete
  /-- CALIBRATION_WRITE_COMPLETE (R16). -/
  | calibrationWriteComplete (readBack : WriteResult)
  /-- SETTINGS_WRITE_COMPLETE (R17). -/
  | settingsWriteComplete (readBack : SettingsCompletion)
  /-- RECIPE_READ_COMPLETE (R19). -/
  | recipeReadComplete (flips : List CellFlip)
  /-- LOOKUP_COMPLETE (R18). -/
  | lookupComplete (flips : List CellFlip)
  /-- STORE_PORT_START (R12). -/
  | storePortStart
  -- the sensor front ends
  /-- SAMPLE (R28). -/
  | sample (head : HeadId) (frame : SampleFrame)
  /-- REPLAY_STEP (R39). -/
  | replayStep (head : HeadId)
  /-- SENSOR_TIMER_EXPIRY (R36). -/
  | sensorTimerExpiry (head : HeadId)
  -- the heat cycle
  /-- CYCLE_TIME_EXPIRY (R60). -/
  | cycleTimeExpiry (head : HeadId)
  -- the dispatcher
  /-- DISPATCH_EXPIRY (R94). -/
  | dispatchExpiry
  -- the drives and the cabinet
  /-- WINDOW_START (R111). -/
  | windowStart (head : HeadId)
  /-- ON_PART_END (R111). -/
  | onPartEnd (head : HeadId)
  /-- DRIVE_FRAME_SENT (R108). -/
  | driveFrameSent (head : HeadId)
  /-- DRIVE_STATUS (R114). -/
  | driveStatus (head : HeadId) (frame : StatusFrame)
  /-- DRIVE_STATUS_TIMEOUT (R115). -/
  | driveStatusTimeout (head : HeadId)
  /-- CABINET_INPUT_CHANGE (R117). -/
  | cabinetInputChange (level : CabinetState)
  -- the station links
  /-- STATION_CHARACTER (R124). -/
  | stationCharacter (link : LinkId) (c : Character)
  /-- INTER_CHARACTER_TIMER_EXPIRY (R127). -/
  | interCharacterTimerExpiry (link : LinkId)
  /-- START (R45): the link takes a START from its FIFO. -/
  | start (link : LinkId)
  /-- ABORT (R67). -/
  | abort (link : LinkId)
  /-- RELEASE (R69). -/
  | release (link : LinkId)
  /-- QUERY (R70). -/
  | query (link : LinkId)
  /-- LINK_ERROR (R134). -/
  | linkError (link : LinkId)
  /-- FINISHED (R71). -/
  | finished (link : LinkId)
  /-- TRANSMIT_FRAME_SENT (R137). -/
  | transmitFrameSent (link : LinkId)
  /-- HOLD_INPUT_CHANGE (R138): the new level, and how far the transmitter has come in the oldest frame; at a release, whether the
  character the pause let finish is behind it (log entry 8). -/
  | holdInputChange (link : LinkId) (asserted : Bool) (position : Nat)
  -- the line link
  /-- FRAME_TIMER_EXPIRY (R161). -/
  | frameTimerExpiry
  /-- INDEX (R176): an INDEX frame to the indexer address in force, with the serial it carries. -/
  | index (serial : Word32)
  /-- TURNAROUND_EXPIRY (R163). -/
  | turnaroundExpiry
  /-- REPLY_SENT (R163). -/
  | replySent
  -- the supervisor commands (Table 9.2), each a whole frame to the strap address with a good check
  | status (payload : List Byte)
  | setBudget (payload : List Byte)
  | setMode (payload : List Byte)
  | ackRestart (payload : List Byte)
  | headEnable (payload : List Byte)
  | clear (payload : List Byte)
  | readHead (payload : List Byte)
  | readRecipe (payload : List Byte)
  | listCodes (payload : List Byte)
  | readCal (payload : List Byte)
  | readSettings (payload : List Byte)
  | writeRecipe (payload : List Byte)
  | eraseRecipe (payload : List Byte)
  | writeCal (payload : List Byte)
  | writeSettings (payload : List Byte)
  | traceInfo (payload : List Byte)
  | readTrace (payload : List Byte)
  | releaseTrace (payload : List Byte)
  | flushTrace (payload : List Byte)
  | loadReplay (payload : List Byte)
  -- receivers, character by character
  /-- LINE_CHARACTER (R161, R159). -/
  | lineCharacter (c : LineCharacter)
  /-- UNKNOWN_KIND (R165): a command frame whose kind names no supervisor command. -/
  | unknownKind (kind : Byte) (payload : List Byte)
  /-- SENSOR_CHARACTER (R184). -/
  | sensorCharacter (head : HeadId) (c : Character)
  /-- DRIVE_STATUS_CHARACTER (R184). -/
  | driveStatusCharacter (head : HeadId) (c : Character)
  /-- TIMESTAMP_TICK (R87). -/
  | timestampTick
  deriving DecidableEq, Repr

end Sys2Proof
end

