-- ==== Sys2Proof/Config.lean ====
section
/-! DEFINITION. What the HD6 fixes once for all, and the free values: what the spec leaves open and the model does not choose. -/

namespace Sys2Proof.Config

/-- Recipe slots 0 to 47 (R7). -/
def recipeSlots : Nat := 48
/-- Store slot of head H0's calibration record; Hn's is this plus n (R7). -/
def calibrationSlot : Nat := 48
/-- Store slot of the settings record (R7). -/
def settingsSlot : Nat := 54
/-- Store slots in all (R7). -/
def storeSlots : Nat := 55
/-- Entries of the replay table (R177). -/
def replayEntries : Nat := 256
/-- Characters a receive FIFO holds (R122). -/
def fifoSize : Nat := 64
/-- Frames a transmit queue holds (R122). -/
def transmitSize : Nat := 8
/-- Words of a trace buffer (R142). -/
def bufferWords : Nat := 4096
/-- Words of one reservation (R144, R145). -/
def reservationWords : Nat := 48
/-- Largest budget in power units (R90). -/
def maxBudget : Nat := 2400
/-- Highest temperature, 1200.0 °C (00_scope.md section 5). -/
def maxTemperature : Nat := 12000
/-- Saturation of the store's error counts (R20). -/
def maxCount : Nat := 65535
/-- Most entries a LIST_CODES reply carries (R19). -/
def listCodesMax : Nat := 40
/-- Most bytes a READ_TRACE reply carries (R152). -/
def readTraceBytes : Nat := 128
/-- Characters of the gap limit on a station link (R127). -/
def stationGapChars : Nat := 10
/-- Characters of the frame timer on the line (R161). -/
def lineGapChars : Nat := 4
/-- Bit times of one character (R123). -/
def charBits : Nat := 11
/-- Milliseconds between replay steps (R39). -/
def replayPace : Nat := 2

/-- FREE VALUE (log entry 13): where several heads end their cycles in one step and the rules leave the order open
(R118, R157, 10.3), the order is the permutation this number selects, drawn afresh at each such step. -/
opaque endOrder : Nat → Nat

/-- FREE VALUE (log entry 14): the detail byte of the store's BUSY refusal, which no rule gives (R11). -/
opaque busyDetail : Nat → Byte

/-- FREE VALUE (log entry 19): the in-band status of a sample in HOLD. Time in band is kept there (R53), but HOLD computes no
setpoint for the sample to be judged by (R59). -/
opaque holdInBand : Nat → Bool

end Sys2Proof.Config
end

