-- ==== Sys2Proof/Machine/State.lean ====
section
/-! DEFINITION. Everything the spec gives the HD6 to hold, block by block (spec/00_scope.md Table 2.1), the state after
reset, and the ways a step can stop (none does). -/

namespace Sys2Proof.Machine

/-! ## Records of the store (01_recipes_and_the_recipe_store.md) -/

/-- Kind of a segment (R2). -/
inductive SegmentKind where
  | ramp | soak | flow | hold
  deriving DecidableEq, Repr

/-- One entry of a segment list (Table 1.2). -/
structure Segment where
  kind : SegmentKind
  target : Nat
  duration : Nat
  ceiling : Nat
  feedForward : Nat
  band : Nat
  energyTarget : Nat
  deriving DecidableEq, Repr

/-- A recipe: header with its revision, and segment list (R1, R2). -/
structure Recipe where
  revision : Word16
  code : Nat
  maxTemp : Nat
  maxCycleTime : Nat
  energyMin : Nat
  energyMax : Nat
  kp : Nat
  ki : Nat
  lagLimit : Nat
  segments : List Segment
  deriving DecidableEq, Repr

/-- A calibration record: points T0 to T16 and the offset (R29). -/
structure Calibration where
  points : List Nat
  offset : Int
  deriving DecidableEq, Repr

inductive DriveType where
  | level | burst
  deriving DecidableEq, Repr

inductive SampleSource where
  | pyrometer | replay
  deriving DecidableEq, Repr

/-- The bit rates of the links (R123, R159). -/
inductive BitRate where
  | r57600 | r115200 | r230400 | r460800
  deriving DecidableEq, Repr

/-- The per-head fields of the settings (R6). -/
structure HeadFields where
  owner : Option LinkId
  enabledAtPowerOn : Bool
  maxPower : Nat
  driveType : DriveType
  burstWindow : Nat
  sensorTimeout : Nat
  source : SampleSource
  deriving DecidableEq, Repr

/-- The settings record (R6). -/
structure Settings where
  heads : PerSix HeadFields
  defaultBudget : Nat
  dispatchPeriod : Nat
  reliefThreshold : Nat
  driveTimeout : Nat
  stationRate : BitRate
  holdHigh : Nat
  holdLow : Nat
  lineRate : BitRate
  turnaround : Nat
  indexer : Nat
  deriving DecidableEq, Repr

/-- Table 1.6, the per-head rows for the head owned by `owner`. -/
def factoryHead (owner : Option LinkId) : HeadFields :=
  { owner := owner, enabledAtPowerOn := false, maxPower := 600, driveType := .level, burstWindow := 100,
    sensorTimeout := 50, source := .pyrometer }

/-- The factory settings (Table 1.6). -/
def factorySettings : Settings :=
  { heads := PerSix.ofFn fun n => factoryHead (some n)
    defaultBudget := 0, dispatchPeriod := 10, reliefThreshold := 4, driveTimeout := 50, stationRate := .r230400
    holdHigh := 48, holdLow := 16, lineRate := .r115200, turnaround := 2, indexer := 31 }

/-! ## The recipe store -/

/-- Status of a recipe slot (R7). -/
inductive SlotStatus where
  | empty | valid | damaged
  deriving DecidableEq, Repr

/-- An entry of the code index (R9). -/
structure IndexEntry where
  code : Nat
  slot : Nat
  deriving DecidableEq, Repr

/-- An entry of the lookup queue (R13). -/
structure LookupEntry where
  head : HeadId
  cycle : Word32
  code : Nat
  deriving DecidableEq, Repr

/-- A supervisor operation (R11), with the record it stores in the byte form R182 gives (for a recipe, from the code on). -/
inductive SupervisorOp where
  | recipeWrite (slot : Nat) (body : List Byte)
  | recipeErase (slot : Nat)
  | calibrationWrite (head : HeadId) (body : List Byte)
  | settingsWrite (body : List Byte)
  | recipeRead (slot : Nat)
  deriving DecidableEq, Repr

/-- The supervisor operation slot's content: waiting, or started (R11). -/
structure HeldOp where
  op : SupervisorOp
  started : Bool
  deriving DecidableEq, Repr

/-- The store port (R10): IDLE, or BUSY with the scan, a lookup (of the slot it reads) or the supervisor operation. -/
inductive Port where
  | idle
  | scan
  | lookup (entry : LookupEntry) (slot : Nat)
  | supervisor
  deriving DecidableEq, Repr

inductive ErrorKind where
  | corrected | uncorrectable
  deriving DecidableEq, Repr

inductive OpKind where
  | recipeWrite | recipeErase | calibrationWrite | settingsWrite
  deriving DecidableEq, Repr

inductive OpResult where
  | ok | failed
  deriving DecidableEq, Repr

/-- The recipe store (R7 to R13, R20, R25, R26). A slot of the memory is never written or erased (`none`), or holds words. -/
structure Store where
  nv : List (Option (List NvCell))
  slotStatus : List SlotStatus
  lastRevision : List Word16
  index : List IndexEntry
  port : Port
  supervisor : Option HeldOp
  queue : List LookupEntry
  corrected : Nat
  uncorrectable : Nat
  lastError : Option (Nat × ErrorKind)
  lastOpKind : Option OpKind
  lastOpResult : Option OpResult
  settingsDefaulted : Bool
  /-- The record in slot 54 was left by a write that completed FAILED: a reset finds it unreadable (R17, log entry 36). Kept with the
  memory. -/
  settingsFailed : Bool
  settings : Settings
  /-- The per-head fields in force for each head (R17). -/
  inForce : PerSix HeadFields
  /-- The deferred settings marks (R17). -/
  deferred : PerSix Bool
  deriving DecidableEq, Repr

/-! ## The sensor front ends (02_temperature_acquisition.md Table 2.1) -/

inductive SensorState where
  | fresh | stale
  deriving DecidableEq, Repr

/-- One sensor front end (R27), with its receiver (R184). -/
structure FrontEnd where
  temperature : Option Nat
  lastStatus : Option SampleStatus
  sensor : SensorState
  /-- Sensor timer: stopped, or the milliseconds that remain. -/
  timer : Option Nat
  calibration : Calibration
  calValid : Bool
  replayActive : Bool
  replayPos : Nat
  /-- The model's own: when the next replay step falls (R39, log entry 6). -/
  replayNext : Word32
  rx : Option (List Character)
  deriving DecidableEq, Repr

/-! ## The head sequencers (03_the_heat_cycle.md, 04_the_power_loop.md) -/

inductive HeadState where
  | idle | lookup | heating | hold | done | faulted
  deriving DecidableEq, Repr

inductive CycleResult where
  | good | warn | aborted
  deriving DecidableEq, Repr

/-- Reasons of ABORTED cycles (Table 3.6). -/
inductive Reason where
  | noRecipe | recipeDamaged | tooStrong | sensorLost | overtemp | underheat | cycleTime | driveTrip | driveLost
  | cabinet | indexed | disabled | cleared | mode | station | stationLine
  deriving DecidableEq, Repr

/-- The flags of a cycle (Table 3.5). -/
structure CycleFlags where
  dry : Bool
  sensorHeld : Bool
  starved : Bool
  relieved : Bool
  eccCorrected : Bool
  indexInHold : Bool
  hotRelease : Bool
  energyLow : Bool
  energyHigh : Bool
  deriving DecidableEq, Repr

/-- Why the last run froze the accumulator (Table 4.1). -/
inductive Freeze where
  | none | atCeiling | atZero | starved
  deriving DecidableEq, Repr

/-- The power loop state of a cycle (Table 4.1). -/
structure LoopState where
  accumulator : Int
  prevRequest : Nat
  prevCeiling : Nat
  lastSetpoint : Nat
  lastError : Int
  freeze : Freeze
  deriving DecidableEq, Repr

/-- A segment summary (R62). -/
structure Summary where
  kind : SegmentKind
  time : Nat
  peak : Nat
  energy : Nat
  deriving DecidableEq, Repr

/-- The cycle context (Table 3.2). Times are timestamps; energies are in 0.1 J. -/
structure Context where
  cycle : Word32
  joint : Word32
  coil : Word32
  link : LinkId
  code : Nat
  start : Word32
  dry : Bool
  recipe : Option Recipe
  revision : Word16
  segIndex : Nat
  clock : Option Word32
  origin : Nat
  inBand : Nat
  /-- Previous sample of the segment: its arrival and whether it was in band. -/
  prev : Option (Word32 × Bool)
  lagStart : Option Word32
  peak : Nat
  segEnergy : Nat
  totalEnergy : Nat
  summaries : List Summary
  loop : LoopState
  /-- Cycle-time timer: stopped, or the milliseconds that remain. -/
  cycleTimer : Option Nat
  flags : CycleFlags
  result : Option CycleResult
  reason : Option Reason
  deriving DecidableEq, Repr

/-- One head sequencer (R43, R44, R71). -/
structure Head where
  state : HeadState
  ctx : Option Context
  notice : Bool
  deriving DecidableEq, Repr

/-! ## The power dispatcher (05_power_dispatch.md Table 5.1) -/

/-- The class a request entry holds: 0 for RAMP and SOAK, 1 for FLOW (R80). -/
inductive RequestClass where
  | class0 | class1
  deriving DecidableEq, Repr

/-- A present request entry (R92). -/
structure RequestEntry where
  request : Nat
  cls : RequestClass
  deriving DecidableEq, Repr

/-- A grant entry (R93). -/
structure GrantEntry where
  grant : Nat
  served : Nat
  deriving DecidableEq, Repr

/-- The power dispatcher (R86). -/
structure Dispatcher where
  timestamp : Word32
  cycleCounter : Word32
  period : Nat
  lastExpiry : Word32
  nextExpiry : Word32
  budgetSetting : Nat
  budget : Nat
  lastTotal : Nat
  request : PerSix (Option RequestEntry)
  grant : PerSix GrantEntry
  shortfall : PerSix Nat
  pointer : HeadId
  deriving DecidableEq, Repr

/-! ## The drive line units (06_head_drives_and_the_cabinet_line.md Table 6.1) -/

/-- A command on a drive line: a level for a LEVEL drive, the gate for a BURST drive (R107, R184). -/
inductive DriveCommand where
  | level (power : Nat)
  | gate (on : Bool)
  deriving DecidableEq, Repr

inductive DriveState where
  | ready | notReady | tripped | unknown
  deriving DecidableEq, Repr

/-- One drive line unit (R107), with the frame now on its line (R108) and its receiver (R184). -/
structure DriveUnit where
  output : DriveCommand
  inProgress : Option DriveCommand
  waiting : Option DriveCommand
  state : DriveState
  /-- Drive status timer: stopped, or the milliseconds that remain. -/
  timer : Option Nat
  windowStart : Option Word32
  onTime : Nat
  onRunning : Bool
  rx : Option (List Character)
  deriving DecidableEq, Repr

/-! ## The station link units (07_station_links.md Table 7.1) -/

inductive LinkState where
  | halted | running
  deriving DecidableEq, Repr

/-- Error tag of a stored character (R122). -/
inductive ErrorTag where
  | clean | framing | overrunFollow
  deriving DecidableEq, Repr

/-- A character in the receive FIFO (R122). -/
structure FifoChar where
  data : Byte
  mark : Bool
  tag : ErrorTag
  deriving DecidableEq, Repr

/-- A running timer counted in character times (R127, R161, R164): the bit times it was started with and their rate. -/
structure CharTimer where
  bits : Nat
  rate : BitRate
  deriving DecidableEq, Repr

/-- Refusal reasons of station requests (11.2). -/
inductive StationRefusal where
  | badRequest | mode | notOwner | headDisabled | busy | calInvalid | noSensor | cabinetDown | driveNotReady | traceFull | state
  deriving DecidableEq, Repr

/-- LINK_ERROR reasons (R133, 11.2). -/
inductive LinkErrorReason where
  | overrun | format | check | unknownKind
  deriving DecidableEq, Repr

/-- A frame the HD6 sends to a station (Table 11.3). Head bytes of replies stand as the request carried them. -/
inductive StationFrame where
  | accept (head : Byte) (cycle : Word32)
  | refuse (head : Byte) (reason : StationRefusal)
  | state (head : Byte) (state : HeadState) (segment : Nat) (temperature : Nat) (grant : Nat) (cycle : Word32)
      (result : Option CycleResult) (reason : Option Reason)
  | finished (head : HeadId) (cycle : Word32) (result : Option CycleResult) (reason : Option Reason)
  | linkError (reason : LinkErrorReason) (lead : Byte)
  deriving DecidableEq, Repr

/-- One station link unit (R122). The FIFO is its closed units, oldest first, then the open one (R125). -/
structure StationLink where
  state : LinkState
  closed : List (List FifoChar)
  opened : Option (List FifoChar)
  interTimer : Option CharTimer
  discard : Bool
  holdOut : Bool
  txQueue : List StationFrame
  /-- Character in progress: a position in the oldest queued frame; on a paused link, of the character the pause let finish (log entry
  8). -/
  sending : Option Nat
  paused : Bool
  /-- Level of the hold input pin. -/
  holdIn : Bool
  /-- The character being received takes a framing error: new settings came into force during it (R17, log entry 34). -/
  spoiled : Bool
  deriving DecidableEq, Repr

/-! ## The line link unit (09_line_link_modes_and_supervision.md Table 9.1) -/

inductive PendingReply where
  | none | forming | waiting | sending
  deriving DecidableEq, Repr

/-- A formed reply: its kind and payload; it is addressed to 0 (R164). -/
structure LineReply where
  kind : Byte
  payload : List Byte
  deriving DecidableEq, Repr

/-- The line link unit (R158). The frame in reception is the characters stored so far, the address first. -/
structure LineLink where
  strap : BitVec 5
  rx : Option (List Byte)
  frameTimer : Option CharTimer
  reply : PendingReply
  turnaround : Option CharTimer
  replyFrame : Option LineReply
  txEnable : Bool
  /-- The character being received takes a framing error: new settings came into force during it (R17, log entry 34). -/
  spoiled : Bool
  deriving DecidableEq, Repr

/-! ## The supervision unit (09_..., 9.5 to 9.10) -/

inductive Mode where
  | starting | standby | production | draining | service
  deriving DecidableEq, Repr

/-- An entry of the replay table (R177). -/
structure ReplayEntry where
  raw : Word16
  status : SampleStatus
  deriving DecidableEq, Repr

/-- The supervision unit (Table 9.5). -/
structure Supervision where
  mode : Mode
  restart : Bool
  coil : Word32
  indexCount : Word16
  enable : PerSix Bool
  replayTable : List ReplayEntry
  deriving DecidableEq, Repr

/-! ## The trace unit (08_trace_buffers.md) -/

inductive BufferId where
  | a | b
  deriving DecidableEq, Repr

inductive BufferState where
  | empty | filling | closing | full
  deriving DecidableEq, Repr

/-- One trace buffer (Table 8.1). Its records stand in the order they were written, each a list of words. -/
structure TraceBuffer where
  state : BufferState
  used : Nat
  reserved : Nat
  count : Nat
  first : Word32
  last : Word32
  records : List (List Word16)
  deriving DecidableEq, Repr

/-- A present entry of the reservation table (R142). -/
structure Reservation where
  buffer : BufferId
  cycle : Word32
  deriving DecidableEq, Repr

/-- The trace unit (R142). -/
structure TraceUnit where
  a : TraceBuffer
  b : TraceBuffer
  reservation : PerSix (Option Reservation)
  deriving DecidableEq, Repr

end Sys2Proof.Machine

namespace Sys2Proof.Machine

/-- The whole HD6. `pending` and `freeCount` are the model's own: the commands that wait, and the counter free values are drawn with. -/
structure State where
  store : Store
  fronts : PerSix FrontEnd
  heads : PerSix Head
  disp : Dispatcher
  drives : PerSix DriveUnit
  cabinet : CabinetState
  links : PerSix StationLink
  line : LineLink
  sup : Supervision
  trace : TraceUnit
  freeCount : Nat
  pending : List Instr
  deriving DecidableEq, Repr

/-- Faults: none. The spec gives every event of the HD6 an effect on its state, so nothing raises a fault. -/
inductive Fault where
  deriving DecidableEq, Repr

/-- Refusals. -/
inductive Refusal where
  /-- Raised by an arm of `exec` that has no meaning yet; no arm of this model uses it. Safe: the machine stops. -/
  | notModelled (mnemonic : String)
  deriving DecidableEq, Repr

/-! ## The state after reset -/

/-- The store after reset, over a memory `nv` whose settings record stands as `settingsFailed` says (R26, R17). What the scan has yet
to build stands at the values of log entry 16. -/
def Store.reset (nv : List (Option (List NvCell))) (settingsFailed : Bool) : Store :=
  { nv := nv
    slotStatus := List.replicate Config.recipeSlots .empty
    lastRevision := List.replicate Config.recipeSlots 0
    index := []
    port := .scan
    supervisor := none
    queue := []
    corrected := 0
    uncorrectable := 0
    lastError := none
    lastOpKind := none
    lastOpResult := none
    settingsDefaulted := false
    settingsFailed := settingsFailed
    settings := factorySettings
    inForce := PerSix.const (factoryHead none)
    deferred := PerSix.const false }

/-- A calibration copy with all points 0 and offset 0 (R29). -/
def Calibration.zero : Calibration := { points := List.replicate 17 0, offset := 0 }

/-- A sensor front end after reset (Table 2.4). -/
def FrontEnd.reset : FrontEnd :=
  { temperature := none, lastStatus := none, sensor := .stale, timer := none, calibration := Calibration.zero
    calValid := false, replayActive := false, replayPos := 0, replayNext := 0, rx := none }

/-- A head after reset (R72). -/
def Head.reset : Head := { state := .idle, ctx := none, notice := false }

/-- The dispatcher after reset (Table 5.3). -/
def Dispatcher.reset : Dispatcher :=
  { timestamp := 0, cycleCounter := 0, period := 10, lastExpiry := 0, nextExpiry := 10, budgetSetting := 0
    budget := 0, lastTotal := 0, request := PerSix.const none, grant := PerSix.const { grant := 0, served := 0 }
    shortfall := PerSix.const 0, pointer := 0 }

/-- A drive line unit after reset (Table 6.3). -/
def DriveUnit.reset : DriveUnit :=
  { output := .level 0, inProgress := none, waiting := none, state := .unknown, timer := none
    windowStart := none, onTime := 0, onRunning := false, rx := none }

/-- A station link unit after reset (Table 7.5), with its hold input at the level the pin has. -/
def StationLink.reset (holdIn : Bool) : StationLink :=
  { state := .halted, closed := [], opened := none, interTimer := none, discard := false, holdOut := false
    txQueue := [], sending := none, paused := false, holdIn := holdIn, spoiled := false }

/-- The line link unit after reset (Table 9.5), with the address the straps give. -/
def LineLink.reset (strap : BitVec 5) : LineLink :=
  { strap := strap, rx := none, frameTimer := none, reply := .none, turnaround := none, replyFrame := none
    txEnable := false, spoiled := false }

/-- The supervision unit after reset (Table 9.5, R177). -/
def Supervision.reset : Supervision :=
  { mode := .starting, restart := true, coil := 0, indexCount := 0, enable := PerSix.const false
    replayTable := List.replicate Config.replayEntries { raw := 0, status := .low } }

/-- An empty trace buffer in a given state. -/
def TraceBuffer.blank (st : BufferState) : TraceBuffer :=
  { state := st, used := 0, reserved := 0, count := 0, first := 0, last := 0, records := [] }

/-- The trace unit after reset (R156): A FILLING, B EMPTY. -/
def TraceUnit.reset : TraceUnit :=
  { a := TraceBuffer.blank .filling, b := TraceBuffer.blank .empty, reservation := PerSix.const none }

/-- The part after a reset that found this memory and these input levels. -/
def State.resetWith (nv : List (Option (List NvCell))) (settingsFailed : Bool) (straps : BitVec 5) (cabinet : CabinetState)
    (holdIn : PerSix Bool) (freeCount : Nat) (pending : List Instr) : State :=
  { store := Store.reset nv settingsFailed
    fronts := PerSix.const FrontEnd.reset
    heads := PerSix.const Head.reset
    disp := Dispatcher.reset
    drives := PerSix.const DriveUnit.reset
    cabinet := cabinet
    links := holdIn.map StationLink.reset
    line := LineLink.reset straps
    sup := Supervision.reset
    trace := TraceUnit.reset
    freeCount := freeCount
    pending := pending }

/-- A part fresh from its first reset: a memory never written (log entry 10), straps unconnected, the cabinet NOT_READY and
every hold input released (log entry 15), and no command waiting. -/
def State.reset : State :=
  State.resetWith (List.replicate Config.storeSlots none) false 0 .notReady (PerSix.const false) 0 []

end Sys2Proof.Machine
end

