-- ==== Sys2Proof/Machine/Bytes.lean ====
section
/-! DEFINITION. Byte order, check characters and bit counts (R179, R124's check rule, R20). -/

namespace Sys2Proof.Machine

/-- The byte at a position of a payload; 0 beyond its end (every caller has checked the length first). -/
def byteAt (bs : List Byte) (i : Nat) : Nat := (bs.getD i 0).toNat

/-- Two bytes from a position, least significant first (R179). -/
def u16At (bs : List Byte) (i : Nat) : Nat := byteAt bs i + 256 * byteAt bs (i + 1)

/-- Four bytes from a position, least significant first (R179). -/
def u32At (bs : List Byte) (i : Nat) : Nat := u16At bs i + 65536 * u16At bs (i + 2)

/-- Two bytes read as a two's complement value (R179). -/
def s16At (bs : List Byte) (i : Nat) : Int :=
  if u16At bs i < 32768 then (u16At bs i : Int) else (u16At bs i : Int) - 65536

/-- A value as one byte. -/
def le8 (n : Nat) : List Byte := [BitVec.ofNat 8 n]

/-- A value as two bytes, least significant first (R179). -/
def le16 (n : Nat) : List Byte := [BitVec.ofNat 8 n, BitVec.ofNat 8 (n / 256)]

/-- A value as four bytes, least significant first (R179). -/
def le32 (n : Nat) : List Byte := le16 n ++ le16 (n / 65536)

/-- A signed value as two bytes of two's complement (R179). -/
def leSigned16 (i : Int) : List Byte := le16 (i % 65536).toNat

/-- A 32-bit word of the machine as four bytes. -/
def leWord32 (w : Word32) : List Byte := le32 w.toNat

/-- A yes/no item as one byte (Table 11.1). -/
def leBool (b : Bool) : List Byte := [if b then 1 else 0]

/-- A set of per-head yes-or-no items: bit n for head Hn (R179). -/
def leHeadSet (p : PerSix Bool) : List Byte :=
  le8 ((sixInOrder.map fun i => if p.get i then 2 ^ i.val else 0).sum)

/-- The 8-bit sum of a frame's characters (7.3, R161, R184). -/
def byteSum (bs : List Byte) : Byte := bs.foldl (· + ·) 0

/-- The check character that brings the 8-bit sum to 0 (7.3, R161, R184). -/
def checkByte (bs : List Byte) : Byte := 0 - byteSum bs

/-- A frame's characters on a wire, sent or taken: the first carries the mark bit, and it alone (R137, R161, R184). -/
def asCharacters (bs : List Byte) : List Character :=
  match bs with
  | [] => []
  | b :: rest => { data := b, mark := true, framing := false } ::
      rest.map fun d => { data := d, mark := false, framing := false }

/-- A character as its receiver takes it: one that new settings came into force during has a framing error (R17). -/
def taken (c : Character) (spoiled : Bool) : Character := { c with framing := c.framing || spoiled }

/-- The low and the high half of a 32-bit value as record words, low word first (R179). -/
def wordsOf32 (w : Word32) : List Word16 := [BitVec.ofNat 16 w.toNat, BitVec.ofNat 16 (w.toNat / 65536)]

/-- The number of ones in a byte. -/
def popCount (b : Byte) : Nat := (List.range 8).countP fun i => b.getLsbD i

/-- A count that stops at its maximum (00_scope.md section 5, "Saturating"). -/
def saturate (limit n : Nat) : Nat := min n limit

end Sys2Proof.Machine
end

