-- ==== Sys2Proof/Machine/Operands.lean ====
section
/-! DEFINITION. The operand forms: value codes (Tables 11.1, 11.2, 11.5), the field tests of WRITE_RECIPE, WRITE_CAL and
WRITE_SETTINGS (R3, R5, R6), and the byte layouts of their records (R182). -/

namespace Sys2Proof.Machine

/-! ## Value codes -/

def HeadState.code : HeadState → Nat
  | .idle => 0 | .lookup => 1 | .heating => 2 | .hold => 3 | .done => 4 | .faulted => 5

def Mode.code : Mode → Nat
  | .starting => 0 | .standby => 1 | .production => 2 | .draining => 3 | .service => 4

/-- Code of a result; 0 is none (Table 11.1). -/
def resultCode : Option CycleResult → Nat
  | none => 0 | some .good => 1 | some .warn => 2 | some .aborted => 3

/-- Code of a reason; 0 is no reason (Table 11.2). -/
def reasonCode : Option Reason → Nat
  | none => 0
  | some .noRecipe => 1 | some .recipeDamaged => 2 | some .tooStrong => 3 | some .sensorLost => 4
  | some .overtemp => 5 | some .underheat => 6 | some .cycleTime => 7 | some .driveTrip => 8
  | some .driveLost => 9 | some .cabinet => 10 | some .indexed => 11 | some .disabled => 12
  | some .cleared => 13 | some .mode => 14 | some .station => 15 | some .stationLine => 16

def SegmentKind.code : SegmentKind → Nat
  | .ramp => 0 | .soak => 1 | .flow => 2 | .hold => 3

/-- The kind a code names, if any. -/
def segmentKindOf (n : Nat) : Option SegmentKind :=
  match n with | 0 => some .ramp | 1 => some .soak | 2 => some .flow | 3 => some .hold | _ => none

def sampleStatusOf (n : Nat) : Option SampleStatus :=
  match n with | 0 => some .ok | 1 => some .low | 2 => some .high | 3 => some .weak | _ => none

/-- Code of a last sample status; none is 0xFF (R179). -/
def sampleStatusCode : Option SampleStatus → Nat
  | some .ok => 0 | some .low => 1 | some .high => 2 | some .weak => 3 | none => 0xFF

def driveStatusCodeOf (n : Nat) : Option DriveStatus :=
  match n with | 0 => some .ready | 1 => some .notReady | 2 => some .tripped | _ => none

/-- The drive state a status sets (R114). -/
def driveStateOf : DriveStatus → DriveState
  | .ready => .ready | .notReady => .notReady | .tripped => .tripped

def DriveState.code : DriveState → Nat
  | .ready => 0 | .notReady => 1 | .tripped => 2 | .unknown => 3

def SensorState.code : SensorState → Nat
  | .fresh => 0 | .stale => 1

def cabinetCode : CabinetState → Nat
  | .ready => 0 | .notReady => 1

def BufferState.code : BufferState → Nat
  | .empty => 0 | .filling => 1 | .closing => 2 | .full => 3

/-- The buffer a command names: 0 for A and 1 for B (8.5). -/
def bufferOf (n : Nat) : Option BufferId :=
  match n with | 0 => some .a | 1 => some .b | _ => none

def BufferId.code : BufferId → Nat
  | .a => 0 | .b => 1

def DriveType.code : DriveType → Nat
  | .level => 0 | .burst => 1

def SampleSource.code : SampleSource → Nat
  | .pyrometer => 0 | .replay => 1

/-- Code of an owner link; NONE is 0xFF (Table 11.1). -/
def ownerCode : Option LinkId → Nat
  | some l => l.val | none => 0xFF

/-- The owner link a code names; an inner none is NONE. -/
def ownerOf (n : Nat) : Option (Option LinkId) :=
  if h : n < 6 then some (some ⟨n, h⟩) else if n = 0xFF then some none else none

def BitRate.code : BitRate → Nat
  | .r57600 => 0 | .r115200 => 1 | .r230400 => 2 | .r460800 => 3

def bitRateOf (n : Nat) : Option BitRate :=
  match n with | 0 => some .r57600 | 1 => some .r115200 | 2 => some .r230400 | 3 => some .r460800 | _ => none

def SlotStatus.code : SlotStatus → Nat
  | .empty => 0 | .valid => 1 | .damaged => 2

/-- Code of the last operation kind; none is 0xFF (R179). -/
def opKindCode : Option OpKind → Nat
  | some .recipeWrite => 0 | some .recipeErase => 1 | some .calibrationWrite => 2 | some .settingsWrite => 3 | none => 0xFF

/-- Code of the last operation result; none is 0xFF (R179). -/
def opResultCode : Option OpResult → Nat
  | some .ok => 0 | some .failed => 1 | none => 0xFF

def ErrorKind.code : ErrorKind → Nat
  | .corrected => 0 | .uncorrectable => 1

def Freeze.code : Freeze → Nat
  | .none => 0 | .atCeiling => 1 | .atZero => 2 | .starved => 3

def LinkState.code : LinkState → Nat
  | .halted => 0 | .running => 1

/-- REFUSE reasons (11.2). -/
def StationRefusal.code : StationRefusal → Nat
  | .badRequest => 1 | .mode => 2 | .notOwner => 3 | .headDisabled => 4 | .busy => 5 | .calInvalid => 6
  | .noSensor => 7 | .cabinetDown => 8 | .driveNotReady => 9 | .traceFull => 10 | .state => 11

/-- LINK_ERROR reasons (11.2). -/
def LinkErrorReason.code : LinkErrorReason → Nat
  | .overrun => 1 | .format => 2 | .check => 3 | .unknownKind => 4

/-- Refusal reasons of line commands (Table 11.5). -/
inductive LineRefusal where
  | unknownKind | format | starting | mode | busy | inUse | invalid | duplicateCode | damaged | noRecord | notFull
  | restartPending
  deriving DecidableEq, Repr

def LineRefusal.code : LineRefusal → Nat
  | .unknownKind => 1 | .format => 2 | .starting => 3 | .mode => 4 | .busy => 5 | .inUse => 6 | .invalid => 7
  | .duplicateCode => 8 | .damaged => 9 | .noRecord => 10 | .notFull => 11 | .restartPending => 12

/-- The head a byte names; none above 5. -/
def headOf (n : Nat) : Option HeadId := if h : n < 6 then some ⟨n, h⟩ else none

/-! ## Field tests -/

/-- The number of the first test that fails, of tests listed in checking order (R3, R5, R6). -/
def firstFailing (tests : List (Nat × Bool)) : Option Nat := (tests.find? fun t => !t.2).map Prod.fst

/-- `a to b` (00_scope.md section 5, "Ranges"). -/
def within (lo hi n : Nat) : Bool := decide (lo ≤ n) && decide (n ≤ hi)

/-! ### Recipes

A recipe's `body` is Table 11.6 without its slot byte: 19 header bytes, then 13 for each segment. -/

/-- Bytes of the header from the code on. -/
def recipeHeaderBytes : Nat := 19
/-- Bytes of a segment. -/
def segmentBytes : Nat := 13
/-- The position of segment `s` in a body. -/
def segmentAt (s : Nat) : Nat := recipeHeaderBytes + segmentBytes * s
/-- The segment count a body states. -/
def bodyCount (b : List Byte) : Nat := byteAt b 2
/-- The duration of segment `s` of a body. -/
def bodyDuration (b : List Byte) (s : Nat) : Nat := u16At b (segmentAt s + 3)

/-- Tests 2 to 9 of Table 1.3; `held` is the number of segment entries the payload holds. -/
def headerTests (b : List Byte) (held : Nat) : List (Nat × Bool) :=
  [ (0, within 1 65534 (u16At b 0)),
    (1, within 1 8 (bodyCount b) && bodyCount b == held),
    (2, within 1000 12000 (u16At b 3)),
    (3, within 1000 120000 (u32At b 5)),
    (5, u16At b 9 == 0 || u16At b 11 == 0 || decide (u16At b 9 ≤ u16At b 11)),
    (6, decide (u16At b 13 ≤ 4095)),
    (7, decide (u16At b 15 ≤ 4095)),
    (8, decide (u16At b 17 ≤ 10000)) ]

/-- Tests 10 to 16 of Table 1.3 for segment `s` of `count`. -/
def segmentTests (b : List Byte) (count s : Nat) : List (Nat × Bool) :=
  let at_ := segmentAt s
  let kind := byteAt b at_
  let isHold := kind == 3
  let ceiling := u16At b (at_ + 5)
  let f := 16 + 8 * s
  [ (f, decide (kind ≤ 3) && (!isHold || (s + 1 == count && decide (2 ≤ count)))),
    (f + 1, decide (u16At b (at_ + 1) ≤ u16At b 3)),
    (f + 2, within 1 60000 (u16At b (at_ + 3))),
    (f + 3, if isHold then ceiling == 0 else within 1 600 ceiling),
    (f + 4, decide (u16At b (at_ + 7) ≤ ceiling)),
    (f + 5, within 10 500 (u16At b (at_ + 9))),
    (f + 6, kind == 2 || u16At b (at_ + 11) == 0) ]

/-- Tests 2 to 17 of Table 1.3. -/
def recipeTests (b : List Byte) (held : Nat) : List (Nat × Bool) :=
  headerTests b held
    ++ ((List.range (bodyCount b)).map (segmentTests b (bodyCount b))).flatten
    ++ [(3, decide (((List.range (bodyCount b)).map (bodyDuration b)).sum ≤ u32At b 5))]

/-- The number of segment entries a payload of this length holds (R181). -/
def entriesHeld (bodyLength : Nat) : Nat := (bodyLength - recipeHeaderBytes) / segmentBytes

/-- Validation of a WRITE_RECIPE payload (R3): the field number of the first failing test. -/
def recipeFailure (slot : Nat) (b : List Byte) : Option Nat :=
  if 47 < slot then some 255 else firstFailing (recipeTests b (entriesHeld b.length))

/-- Segment `s` of a body (Table 11.6). -/
def decodeSegment (b : List Byte) (s : Nat) : Segment :=
  let at_ := segmentAt s
  { kind := (segmentKindOf (byteAt b at_)).getD .ramp
    target := u16At b (at_ + 1)
    duration := u16At b (at_ + 3)
    ceiling := u16At b (at_ + 5)
    feedForward := u16At b (at_ + 7)
    band := u16At b (at_ + 9)
    energyTarget := u16At b (at_ + 11) }

/-- A recipe from its body and revision (Tables 1.1, 1.2, 11.6). -/
def decodeRecipe (revision : Word16) (b : List Byte) : Recipe :=
  { revision := revision
    code := u16At b 0
    maxTemp := u16At b 3
    maxCycleTime := u32At b 5
    energyMin := u16At b 9
    energyMax := u16At b 11
    kp := u16At b 13
    ki := u16At b 15
    lagLimit := u16At b 17
    segments := (List.range (bodyCount b)).map (decodeSegment b) }

/-- The record a recipe slot stores: the revision ahead of the code (R182). -/
def storedRecipe (revision : Word16) (body : List Byte) : List Byte := le16 revision.toNat ++ body

/-- Bytes of a stored recipe's header: the revision, then the header of the body. -/
def storedHeaderBytes : Nat := 2 + recipeHeaderBytes

/-- The revision in a stored recipe. -/
def storedRevision (rec : List Byte) : Word16 := BitVec.ofNat 16 (u16At rec 0)

/-- Whether a stored recipe is one an accepted write could have left (log entry 11). -/
def storedRecipeOk (rec : List Byte) : Bool :=
  let b := rec.drop 2
  b.length == segmentAt (bodyCount b) && (firstFailing (recipeTests b (bodyCount b))).isNone

/-- The same of its header alone, which is all the scan reads (R22). -/
def storedHeaderOk (hdr : List Byte) : Bool :=
  let b := hdr.drop 2
  b.length == recipeHeaderBytes && (firstFailing (headerTests b (bodyCount b))).isNone

/-! ### Calibration

A calibration's `body` is Table 11.7 without its head byte: 17 points, then the offset. -/

/-- Bytes of a stored calibration record. -/
def calibrationBytes : Nat := 36

/-- The tests of R5 after its head number and IN_USE. -/
def calibrationTests (b : List Byte) : List (Nat × Bool) :=
  ((List.range 17).map fun k =>
      (k, decide (u16At b (2 * k) ≤ 12000) && (k == 0 || decide (u16At b (2 * (k - 1)) ≤ u16At b (2 * k)))))
    ++ [(17, decide (-500 ≤ s16At b 34) && decide (s16At b 34 ≤ 500))]

/-- A calibration record from its body (Table 11.7). -/
def decodeCalibration (b : List Byte) : Calibration :=
  { points := (List.range 17).map fun k => u16At b (2 * k), offset := s16At b 34 }

/-- Whether a stored calibration is one an accepted write could have left (log entry 11). -/
def storedCalibrationOk (b : List Byte) : Bool :=
  b.length == calibrationBytes && (firstFailing (calibrationTests b)).isNone

/-- A calibration copy as READ_CAL returns it: the points, then the offset (Table 11.7). -/
def Calibration.bytes (c : Calibration) : List Byte := (c.points.map le16).flatten ++ leSigned16 c.offset

/-! ### Settings (Table 11.8) -/

/-- Bytes of a settings record. -/
def settingsBytes : Nat := 65
/-- Bytes of the fields of one head. -/
def headFieldBytes : Nat := 9

/-- The tests of head `n`'s fields, field numbers 7 × n + j (R6). -/
def headFieldTests (b : List Byte) (n : Nat) : List (Nat × Bool) :=
  let at_ := headFieldBytes * n
  [ (7 * n, (ownerOf (byteAt b at_)).isSome),
    (7 * n + 1, decide (byteAt b (at_ + 1) ≤ 1)),
    (7 * n + 2, within 10 600 (u16At b (at_ + 2))),
    (7 * n + 3, decide (byteAt b (at_ + 4) ≤ 1)),
    (7 * n + 4, within 20 500 (u16At b (at_ + 5))),
    (7 * n + 5, within 10 250 (byteAt b (at_ + 7))),
    (7 * n + 6, decide (byteAt b (at_ + 8) ≤ 1)) ]

/-- The tests of the global fields, field numbers 42 to 51 (R6). -/
def globalFieldTests (b : List Byte) : List (Nat × Bool) :=
  [ (42, decide (u16At b 54 ≤ 2400)),
    (43, [5, 10, 20, 40].contains (byteAt b 56)),
    (44, within 2 15 (byteAt b 57)),
    (45, within 20 200 (byteAt b 58)),
    (46, decide (byteAt b 59 ≤ 3)),
    (47, within 8 63 (byteAt b 60)),
    (48, decide (byteAt b 61 + 8 ≤ byteAt b 60)),
    (49, decide (byteAt b 62 ≤ 2)),
    (50, decide (byteAt b 63 ≤ 15)),
    (51, within 1 31 (byteAt b 64)) ]

/-- All tests of WRITE_SETTINGS in field-number order (R6). -/
def settingsTests (b : List Byte) : List (Nat × Bool) :=
  ((List.range 6).map (headFieldTests b)).flatten ++ globalFieldTests b

/-- The fields of head `n` (Table 11.8). -/
def decodeHeadFields (b : List Byte) (n : Nat) : HeadFields :=
  let at_ := headFieldBytes * n
  { owner := (ownerOf (byteAt b at_)).getD none
    enabledAtPowerOn := byteAt b (at_ + 1) == 1
    maxPower := u16At b (at_ + 2)
    driveType := if byteAt b (at_ + 4) = 1 then .burst else .level
    burstWindow := u16At b (at_ + 5)
    sensorTimeout := byteAt b (at_ + 7)
    source := if byteAt b (at_ + 8) = 1 then .replay else .pyrometer }

/-- The settings of a record (Table 11.8). -/
def decodeSettings (b : List Byte) : Settings :=
  { heads := PerSix.ofFn fun n => decodeHeadFields b n.val
    defaultBudget := u16At b 54
    dispatchPeriod := byteAt b 56
    reliefThreshold := byteAt b 57
    driveTimeout := byteAt b 58
    stationRate := (bitRateOf (byteAt b 59)).getD .r230400
    holdHigh := byteAt b 60
    holdLow := byteAt b 61
    lineRate := (bitRateOf (byteAt b 62)).getD .r115200
    turnaround := byteAt b 63
    indexer := byteAt b 64 }

/-- Whether a stored settings record is one an accepted write could have left (log entry 11). -/
def storedSettingsOk (b : List Byte) : Bool :=
  b.length == settingsBytes && (firstFailing (settingsTests b)).isNone

/-- The per-head fields as bytes (Table 11.8). -/
def HeadFields.bytes (f : HeadFields) : List Byte :=
  le8 (ownerCode f.owner) ++ leBool f.enabledAtPowerOn ++ le16 f.maxPower ++ le8 f.driveType.code
    ++ le16 f.burstWindow ++ le8 f.sensorTimeout ++ le8 f.source.code

/-- The settings as bytes (Table 11.8). -/
def Settings.bytes (s : Settings) : List Byte :=
  (s.heads.map HeadFields.bytes).toList.flatten ++ le16 s.defaultBudget ++ le8 s.dispatchPeriod ++ le8 s.reliefThreshold
    ++ le8 s.driveTimeout ++ le8 s.stationRate.code ++ le8 s.holdHigh ++ le8 s.holdLow ++ le8 s.lineRate.code
    ++ le8 s.turnaround ++ le8 s.indexer

end Sys2Proof.Machine
end

