-- ==== Sys2Proof/Machine/Flags.lean ====
section
/-! DEFINITION. The flags of a cycle: which are warnings (Table 3.5), the result they give (R61), their bits in a trace
record (R183), and the energy window's flags (R58). -/

namespace Sys2Proof.Machine

/-- The flags at creation: DRY when dry, else none (Table 3.2). -/
def CycleFlags.initial (dry : Bool) : CycleFlags :=
  { dry := dry, sensorHeld := false, starved := false, relieved := false, eccCorrected := false, indexInHold := false
    hotRelease := false, energyLow := false, energyHigh := false }

/-- Whether any warning flag of Table 3.5 is set. -/
def CycleFlags.warns (f : CycleFlags) : Bool := f.indexInHold || f.hotRelease || f.energyLow || f.energyHigh

/-- The result of a cycle (R61): ABORTED when it ends by a reason, else GOOD or WARN by its flags. -/
def cycleResult (reason : Option Reason) (f : CycleFlags) : CycleResult :=
  match reason with
  | some _ => .aborted
  | none => if f.warns then .warn else .good

/-- The flags in the order of their bits (R183): flag k stands at bit 6 + k of word 1. -/
def CycleFlags.toList (f : CycleFlags) : List Bool :=
  [f.dry, f.sensorHeld, f.starved, f.relieved, f.eccCorrected, f.indexInHold, f.hotRelease, f.energyLow, f.energyHigh]

/-- The value of a list of bits, the first the least significant. -/
def bitsValue : List Bool → Nat
  | [] => 0
  | b :: bs => (if b then 1 else 0) + 2 * bitsValue bs

/-- The flags as bits 0 to 8 (R183). -/
def CycleFlags.code (f : CycleFlags) : Nat := bitsValue f.toList

/-- The energy window's judgement of a total in 0.1 J (R58 step 3). -/
def CycleFlags.judgeEnergy (f : CycleFlags) (r : Recipe) (total : Nat) : CycleFlags :=
  { f with
    energyLow := f.energyLow || (r.energyMin != 0 && decide (total / 10 < r.energyMin * 100))
    energyHigh := f.energyHigh || (r.energyMax != 0 && decide (r.energyMax * 100 < total / 10)) }

/-- What READ_TRACE and R183 call the record of a cycle: the words of Table 11.9. -/
def traceRecord (head : HeadId) (c : Context) : List Word16 :=
  let n := c.summaries.length
  [ BitVec.ofNat 16 (22 * 2048 + n * 128 + resultCode c.result * 32 + reasonCode c.reason),
    BitVec.ofNat 16 (head.val + c.link.val * 8 + c.flags.code * 64) ]
    ++ wordsOf32 c.cycle ++ wordsOf32 c.joint ++ wordsOf32 c.coil
    ++ [BitVec.ofNat 16 c.code, c.revision]
    ++ wordsOf32 (BitVec.ofNat 32 (c.totalEnergy / 10)) ++ wordsOf32 c.start
    ++ (c.summaries.map fun m =>
          [BitVec.ofNat 16 m.kind.code, BitVec.ofNat 16 m.time, BitVec.ofNat 16 m.peak, BitVec.ofNat 16 m.energy]).flatten
    ++ [BitVec.ofNat 16 (0xEE00 + head.val), BitVec.ofNat 16 c.cycle.toNat]

end Sys2Proof.Machine
end

