-- ==== Sys2Proof/Machine/Ops.lean ====
section
/-! DEFINITION. The shared operations: named updates of the state, time, ECC reads, character timers, the trace buffers,
the drive command line, cuts, and the end of a cycle. -/

namespace Sys2Proof.Machine

/-! ## Named updates -/

def State.modStore (s : State) (f : Store → Store) : State := { s with store := f s.store }
def State.modDisp (s : State) (f : Dispatcher → Dispatcher) : State := { s with disp := f s.disp }
def State.modLine (s : State) (f : LineLink → LineLink) : State := { s with line := f s.line }
def State.modSup (s : State) (f : Supervision → Supervision) : State := { s with sup := f s.sup }
def State.modTrace (s : State) (f : TraceUnit → TraceUnit) : State := { s with trace := f s.trace }
def State.modFront (s : State) (h : HeadId) (f : FrontEnd → FrontEnd) : State := { s with fronts := s.fronts.modify h f }
def State.modHead (s : State) (h : HeadId) (f : Head → Head) : State := { s with heads := s.heads.modify h f }
def State.modDrive (s : State) (h : HeadId) (f : DriveUnit → DriveUnit) : State := { s with drives := s.drives.modify h f }
def State.modLink (s : State) (l : LinkId) (f : StationLink → StationLink) : State := { s with links := s.links.modify l f }

/-- Change the cycle context of a head, where it has one. -/
def State.modCtx (s : State) (h : HeadId) (f : Context → Context) : State :=
  s.modHead h fun hd => { hd with ctx := hd.ctx.map f }

/-- Change the flags of a head's cycle, where it has one. -/
def State.modFlags (s : State) (h : HeadId) (f : CycleFlags → CycleFlags) : State :=
  s.modCtx h fun c => { c with flags := f c.flags }

/-- One more free value drawn. -/
def State.drawFree (s : State) : State := { s with freeCount := s.freeCount + 1 }

/-- The per-head fields in force for a head (R17). -/
def State.fields (s : State) (h : HeadId) : HeadFields := s.store.inForce.get h

/-! ## Time (R87) -/

/-- The interval between two timestamps: their difference modulo 2³² (R87). -/
def elapsed (now start : Word32) : Nat := (now - start).toNat

/-- A scheduled time has come: the timestamp stands at it or past it (R89; the half range is log entry 6's). -/
def reached (now due : Word32) : Bool := decide (elapsed now due < 2 ^ 31)

/-- A time some milliseconds later. -/
def later (t : Word32) (ms : Nat) : Word32 := t + BitVec.ofNat 32 ms

/-- A timer in milliseconds after one more millisecond; it stays at 0 until its expiry is taken. -/
def runDown (t : Option Nat) : Option Nat := t.map (· - 1)

/-- A character timer just started (R127, R161, R164). -/
def charTimer (chars : Nat) (rate : BitRate) : CharTimer := { bits := chars * Config.charBits, rate := rate }

/-! ## Heads -/

/-- LOOKUP, HEATING or HOLD: a head with an active cycle (R43). -/
def HeadState.active : HeadState → Bool
  | .lookup => true | .heating => true | .hold => true | .idle => false | .done => false | .faulted => false

def State.isActive (s : State) (h : HeadId) : Bool := (s.heads.get h).state.active

/-- Whether any head is in LOOKUP, HEATING or HOLD (R170). -/
def State.anyActive (s : State) : Bool := sixInOrder.any s.isActive

/-- The lowest head in LOOKUP, HEATING or HOLD (R6, R177). -/
def State.lowestActive (s : State) : Option HeadId := sixInOrder.find? s.isActive

/-- Whether a head's cycle is dry (R46); a head with no context runs none. -/
def State.isDry (s : State) (h : HeadId) : Bool :=
  match (s.heads.get h).ctx with
  | some c => c.dry
  | none => false

/-! ## ECC (R20) -/

/-- The read of a record word by word: whether it made a correction, and the words, none when it met an uncorrectable
word. It stops there, so only corrections before it count. -/
def eccRead : List NvCell → Bool × Option (List Byte)
  | [] => (false, some [])
  | c :: cs =>
    if 2 ≤ popCount c.flips then (false, none)
    else
      let r := eccRead cs
      (popCount c.flips == 1 || r.1, r.2.map (c.value :: ·))

/-- A record just written. -/
def cleanCells (bs : List Byte) : List NvCell := bs.map fun b => { value := b, flips := 0 }

/-- A record after bits of one of its words have changed. A changed bit does not change back without a write, so a record found
uncorrectable stays so until it is written: the model's choice (log entry 9), with which each reset defaults a damaged settings
record as R21 says. -/
def flipCell (cells : List NvCell) (f : CellFlip) : List NvCell :=
  cells.modify f.cell fun c => { c with flips := c.flips ||| f.mask }

def flipCells (cells : List NvCell) (flips : List CellFlip) : List NvCell := flips.foldl flipCell cells

/-- The words of a store slot; a slot never written has none. -/
def Store.cells (st : Store) (slot : Nat) : List NvCell := (st.nv.getD slot none).getD []

def Store.setCells (st : Store) (slot : Nat) (cells : Option (List NvCell)) : Store := { st with nv := st.nv.set slot cells }

/-- Bits of a slot have changed. -/
def Store.flip (st : Store) (slot : Nat) (flips : List CellFlip) : Store :=
  { st with nv := st.nv.modify slot (Option.map (flipCells · flips)) }

/-- Count a correction made in a read of a slot (R20). -/
def Store.countCorrected (st : Store) (slot : Nat) : Store :=
  { st with corrected := saturate Config.maxCount (st.corrected + 1), lastError := some (slot, .corrected) }

/-- Count an uncorrectable read of a slot (R20). -/
def Store.countUncorrectable (st : Store) (slot : Nat) : Store :=
  { st with uncorrectable := saturate Config.maxCount (st.uncorrectable + 1), lastError := some (slot, .uncorrectable) }

/-- Count what one read of a slot met, at most one of each kind (R20). -/
def Store.countRead (st : Store) (slot : Nat) (corrected uncorrectable : Bool) : Store :=
  let st1 := if corrected then st.countCorrected slot else st
  if uncorrectable then st1.countUncorrectable slot else st1

/-- A read through the ECC of `cells`, of a record kind whose good records pass `ok` (log entry 11). -/
def readRecord (ok : List Byte → Bool) (cells : List NvCell) : Bool × Option (List Byte) :=
  let r := eccRead cells
  (r.1, r.2.filter ok)

/-! ## The code index (R9) -/

/-- The slot a code stands against. -/
def Store.slotOf (st : Store) (code : Nat) : Option Nat := (st.index.find? fun e => e.code == code).map (·.slot)

/-- Put an entry into its place in ascending code order. -/
def insertEntry (e : IndexEntry) : List IndexEntry → List IndexEntry
  | [] => [e]
  | x :: xs => if e.code < x.code then e :: x :: xs else x :: insertEntry e xs

/-- Remove any entry of a slot. -/
def Store.dropIndex (st : Store) (slot : Nat) : Store := { st with index := st.index.filter fun e => e.slot != slot }

/-- Enter a code against a slot, after any entry of that slot has gone. -/
def Store.enterIndex (st : Store) (code slot : Nat) : Store :=
  let st1 := st.dropIndex slot
  { st1 with index := insertEntry { code := code, slot := slot } st1.index }

def Store.setStatus (st : Store) (slot : Nat) (v : SlotStatus) : Store := { st with slotStatus := st.slotStatus.set slot v }

def Store.setRevision (st : Store) (slot : Nat) (v : Word16) : Store := { st with lastRevision := st.lastRevision.set slot v }

/-- An uncorrectable error in a recipe slot: it becomes DAMAGED and its entry leaves the index (R21). -/
def Store.damage (st : Store) (slot : Nat) : Store := (st.setStatus slot .damaged).dropIndex slot

/-! ## Trace buffers (08_trace_buffers.md) -/

def TraceUnit.get (t : TraceUnit) : BufferId → TraceBuffer
  | .a => t.a
  | .b => t.b

def TraceUnit.set (t : TraceUnit) (i : BufferId) (x : TraceBuffer) : TraceUnit :=
  match i with
  | .a => { t with a := x }
  | .b => { t with b := x }

def TraceUnit.modify (t : TraceUnit) (i : BufferId) (f : TraceBuffer → TraceBuffer) : TraceUnit := t.set i (f (t.get i))

def BufferId.other : BufferId → BufferId
  | .a => .b
  | .b => .a

/-- The FILLING buffer; at most one is (R143). -/
def TraceUnit.filling (t : TraceUnit) : Option BufferId :=
  if t.a.state = .filling then some .a else if t.b.state = .filling then some .b else none

/-- Free space of a buffer (R142). -/
def TraceBuffer.free (x : TraceBuffer) : Nat := Config.bufferWords - x.used - x.reserved

/-- The state a buffer leaves FILLING for (R144 case 2, R154 step 3). -/
def TraceBuffer.closed (x : TraceBuffer) : TraceBuffer := { x with state := if 0 < x.reserved then .closing else .full }

/-- The FILLING buffer stops taking reservations, and the other becomes FILLING when it is EMPTY (R144, R154). -/
def TraceUnit.closeFilling (t : TraceUnit) (i : BufferId) : TraceUnit :=
  let t1 := t.modify i TraceBuffer.closed
  if (t1.get i.other).state = .empty then t1.modify i.other fun x => { x with state := .filling } else t1

/-- Condition 9: the trace unit's judgement of a START, which may change buffer states (R144), and the buffer a
reservation can be made in. -/
def TraceUnit.judgeStart (t : TraceUnit) : TraceUnit × Option BufferId :=
  match t.filling with
  | none => (t, none)
  | some i =>
    if Config.reservationWords ≤ (t.get i).free then (t, some i)
    else
      let t1 := t.closeFilling i
      (t1, t1.filling)

/-- Take a cycle's reservation in a buffer (R145). -/
def TraceUnit.reserve (t : TraceUnit) (h : HeadId) (i : BufferId) (cycle : Word32) : TraceUnit :=
  let t1 := t.modify i fun x => { x with reserved := x.reserved + Config.reservationWords }
  { t1 with reservation := t1.reservation.set h (some { buffer := i, cycle := cycle }) }

/-- Steps 2 to 4 and 6 of R147 on the buffer that holds the reservation. -/
def TraceBuffer.append (x : TraceBuffer) (cycle : Word32) (record : List Word16) : TraceBuffer :=
  let reserved := x.reserved - Config.reservationWords
  { state := if x.state = .closing ∧ reserved = 0 then .full else x.state
    used := x.used + record.length
    reserved := reserved
    count := x.count + 1
    first := if x.count = 0 then cycle else x.first
    last := cycle
    records := x.records ++ [record] }

/-- The append of a record into the head's reservation, which it consumes (R147). -/
def TraceUnit.append (t : TraceUnit) (h : HeadId) (cycle : Word32) (record : List Word16) : TraceUnit :=
  match t.reservation.get h with
  | none => t
  | some r =>
    let t1 := t.modify r.buffer fun x => x.append cycle record
    { t1 with reservation := t1.reservation.set h none }

/-! ## The drive command line (R108) -/

/-- A command event: the output takes the new value at once; the frame starts on an idle line, or waits, replacing one that waits. -/
def DriveUnit.command (d : DriveUnit) (v : DriveCommand) : DriveUnit :=
  match d.inProgress with
  | none => { d with output := v, inProgress := some v }
  | some _ => { d with output := v, waiting := some v }

/-- The command that stands for no power with a drive type (R107). -/
def DriveType.zero : DriveType → DriveCommand
  | .level => .level 0
  | .burst => .gate false

/-- The four characters of a command frame (Table 11.10, R184). -/
def DriveCommand.frame (v : DriveCommand) : List Byte :=
  let body : List Byte := match v with
    | .level p => [0x60] ++ le16 p
    | .gate on => [0x61] ++ le16 (if on then 1 else 0)
  body ++ [checkByte body]

/-- A command frame on the wire: its lead carries the mark bit (R184). -/
def DriveCommand.characters (v : DriveCommand) : List Character := asCharacters v.frame

/-! ## Energy and cuts -/

/-- Add energy to a cycle's total and its current segment, in 0.1 J (5.9). -/
def Context.accrue (c : Context) (amount : Nat) : Context :=
  { c with totalEnergy := c.totalEnergy + amount, segEnergy := c.segEnergy + amount }

/-- The energy accrued at a head's cut: a LEVEL head's grant since the last expiry (R102), a BURST head's running on part (R112). -/
def State.cutEnergy (s : State) (h : HeadId) : Nat :=
  let d := s.drives.get h
  match (s.fields h).driveType with
  | .level => (s.disp.grant.get h).grant * elapsed s.disp.timestamp s.disp.lastExpiry
  | .burst =>
    match d.windowStart with
    | some w => if d.onRunning then (s.fields h).maxPower * elapsed s.disp.timestamp w else 0
    | none => 0

/-- The drive line unit's part of a cut (R109, R112): the command output 0 or OFF; a burst window stops. -/
def DriveUnit.cut (d : DriveUnit) (ty : DriveType) : DriveUnit :=
  { d.command ty.zero with windowStart := none, onTime := 0, onRunning := false }

/-- A head cuts its drive (R58 step 1, R93, R102, R112): energy accrued, request absent, grant 0 / 0, output 0 or OFF. -/
def State.cut (s : State) (h : HeadId) : State :=
  let ty := (s.fields h).driveType
  ((s.modCtx h fun c => c.accrue (s.cutEnergy h)).modDisp fun d =>
      { d with request := d.request.set h none, grant := d.grant.set h { grant := 0, served := 0 } }).modDrive h
    fun d => d.cut ty

/-! ## Segment summaries (R62) -/

/-- The segment a context stands in, where it has its recipe copy. -/
def Context.segment (c : Context) : Option Segment := c.recipe.bind fun r => r.segments[c.segIndex]?

/-- The summary of the current segment, ended at `now` (R62). -/
def Context.summary (c : Context) (now : Word32) : Summary :=
  { kind := (c.segment.map (·.kind)).getD .ramp
    time := match c.clock with
      | some t => saturate 65535 (elapsed now t)
      | none => 0
    peak := c.peak
    energy := saturate 65535 (c.segEnergy / 100) }

def Context.appendSummary (c : Context) (now : Word32) : Context := { c with summaries := c.summaries ++ [c.summary now] }

/-- The current segment's summary has not yet been appended: one stands for each segment entered before (R62). -/
def Context.summaryDue (c : Context) : Bool := decide (c.summaries.length ≤ c.segIndex)

/-! ## The end of a cycle (R62) -/

/-- Remove a head's queued lookup (R13). A lookup in flight runs on. -/
def State.dropLookup (s : State) (h : HeadId) : State :=
  s.modStore fun st => { st with queue := st.queue.filter fun e => e.head != h }

/-- The drain watch (R170): in DRAINING, the end after which no head is active moves the mode to STANDBY. -/
def State.watchDrain (s : State) : State :=
  if s.sup.mode = .draining ∧ s.anyActive = false then s.modSup fun u => { u with mode := .standby } else s

/-- The context of a cycle at its end: timer stopped, summary of the segment in progress, result and reason (R61, R62 steps 1, 2, 4). -/
def Context.ended (c : Context) (st : HeadState) (now : Word32) (reason : Option Reason) : Context :=
  let c1 := if (st = .heating ∨ st = .hold) ∧ c.summaryDue = true then c.appendSummary now else c
  { c1 with cycleTimer := none, result := some (cycleResult reason c1.flags), reason := reason }

/-- The state a cycle's end leaves its head in (R62 step 7). -/
def endState : CycleResult → HeadState
  | .good => .done
  | .warn => .done
  | .aborted => .faulted

/-- Steps 2 to 7 of the end of a cycle (R62), and the drain watch (R170). -/
def State.finishCycle (s : State) (h : HeadId) (reason : Option Reason) : State :=
  let hd := s.heads.get h
  match hd.ctx with
  | none => s
  | some c =>
    let c1 := c.ended hd.state s.disp.timestamp reason
    let s1 := s.modFront h fun fe => { fe with replayActive := false }
    let s2 := s1.modTrace fun t => t.append h c1.cycle (traceRecord h c1)
    (s2.modHead h fun _ =>
      { state := endState (cycleResult reason c1.flags), ctx := some c1, notice := true }).watchDrain

/-- However a cycle ends (R62): the cut from HEATING, the lookup from LOOKUP, then the other steps. On a head with no
active cycle nothing happens (R66). -/
def State.endCycle (s : State) (h : HeadId) (reason : Option Reason) : State :=
  match (s.heads.get h).state with
  | .lookup => (s.dropLookup h).finishCycle h reason
  | .heating => (s.cut h).finishCycle h reason
  | .hold => s.finishCycle h reason
  | .idle => s
  | .done => s
  | .faulted => s

/-! ## The free order of heads (log entry 13) -/

/-- Put an element at a position, at the end when it lies beyond. -/
def insertAt {α : Type} (x : α) : Nat → List α → List α
  | 0, ys => x :: ys
  | _ + 1, [] => [x]
  | n + 1, y :: ys => y :: insertAt x n ys

/-- The permutation of a list that a number selects; every permutation is selected by some number. -/
def permute {α : Type} : Nat → List α → List α
  | _, [] => []
  | k, x :: xs => insertAt x (k % (xs.length + 1)) (permute (k / (xs.length + 1)) xs)

/-- The six heads in the order this step takes them. -/
def State.headOrder (s : State) : List HeadId := permute (Config.endOrder s.freeCount) sixInOrder

/-- One action on every head, in an order the rules leave open. -/
def State.forHeads (s : State) (f : HeadId → State → State) : State := s.headOrder.foldl (fun t h => f h t) s.drawFree

/-- One action on every head in head-number order (R68). -/
def State.forHeadsInOrder (s : State) (f : HeadId → State → State) : State := sixInOrder.foldl (fun t h => f h t) s

end Sys2Proof.Machine
end

