-- ==== Sys2Proof/Machine/Dispatcher.lean ====
section
/-! DEFINITION. The power dispatcher (05_power_dispatch.md): the division of the budget, the dispatch expiry, the burst windows it
starts (06_..., 6.4), and the timestamp. -/

namespace Sys2Proof.Machine

/-! ## The division of a budget (R95 to R98) -/

/-- The class a participant is served in (R95): 2 is relief. -/
inductive ServeClass where
  | class0 | class1 | class2
  deriving DecidableEq, Repr

/-- A participant of an expiry: its request and the class it is served in. -/
structure Participant where
  request : Nat
  cls : ServeClass
  deriving DecidableEq, Repr

/-- The participants of an expiry, one place per head (R94 step 4). -/
abbrev Participants := PerSix (Option Participant)

/-- Whether a head takes part in a class. -/
def memberOf (ps : Participants) (c : ServeClass) (h : HeadId) : Bool :=
  match ps.get h with
  | some p => p.cls == c
  | none => false

/-- A head's request; 0 where it takes no part. -/
def requestOf (ps : Participants) (h : HeadId) : Nat :=
  match ps.get h with
  | some p => p.request
  | none => 0

/-- The sum of six values. -/
def sumSix (f : HeadId → Nat) : Nat := (sixInOrder.map f).sum

/-- Sc: the sum of the requests of a class (R96). -/
def classSum (ps : Participants) (c : ServeClass) : Nat := sumSix fun h => if memberOf ps c h then requestOf ps h else 0

/-- The division so far: the grants, the remainder R, and the rotation pointer. -/
structure Division where
  grants : PerSix Nat
  remainder : Nat
  pointer : HeadId
  deriving DecidableEq, Repr

/-- The head numbers cyclically from a pointer (R98). -/
def walkFrom (p : HeadId) : List HeadId := sixInOrder.map fun i => p + i

/-- The walk of the leftover (R98): one unit to each member of the class whose grant is below its request, until none is
left. The pointer becomes the number after the last head served. -/
def handOut (ps : Participants) (c : ServeClass) : List HeadId → Nat → PerSix Nat → HeadId → PerSix Nat × HeadId
  | [], _, grants, pointer => (grants, pointer)
  | h :: hs, leftover, grants, pointer =>
    if leftover = 0 then (grants, pointer)
    else if memberOf ps c h && decide (grants.get h < requestOf ps h) then
      handOut ps c hs (leftover - 1) (grants.set h (grants.get h + 1)) (nextOfSix h)
    else handOut ps c hs leftover grants pointer

/-- The proportional shares of a short class (R97). -/
def shareOf (ps : Participants) (c : ServeClass) (remainder : Nat) (grants : PerSix Nat) : PerSix Nat :=
  PerSix.ofFn fun h => if memberOf ps c h then requestOf ps h * remainder / classSum ps c else grants.get h

/-- What the shares of a class come to. -/
def classGrants (ps : Participants) (c : ServeClass) (grants : PerSix Nat) : Nat :=
  sumSix fun h => if memberOf ps c h then grants.get h else 0

/-- One class served (R96, R97, R98): whole when it fits, else shared with the leftover handed out. A class served after
the short class finds R at 0, so its members get 0 and nothing is handed out. -/
def serveClass (ps : Participants) (d : Division) (c : ServeClass) : Division :=
  if classSum ps c ≤ d.remainder then
    { d with
      grants := PerSix.ofFn fun h => if memberOf ps c h then requestOf ps h else d.grants.get h
      remainder := d.remainder - classSum ps c }
  else
    let shares := shareOf ps c d.remainder d.grants
    let r := handOut ps c (walkFrom d.pointer) (d.remainder - classGrants ps c shares) shares d.pointer
    { grants := r.1, remainder := 0, pointer := r.2 }

/-- The whole division: class 2, then 1, then 0 (R96). -/
def divideBudget (budget : Nat) (pointer : HeadId) (ps : Participants) : Division :=
  [ServeClass.class2, .class1, .class0].foldl (serveClass ps)
    { grants := PerSix.const 0, remainder := budget, pointer := pointer }

/-! ## The steps of an expiry (R94) -/

/-- Step 1 (R89): the schedule is advanced. -/
def Dispatcher.advance (d : Dispatcher) (period : Nat) : Dispatcher :=
  { d with lastExpiry := d.nextExpiry, period := period, nextExpiry := later d.nextExpiry period }

/-- Step 2 (R91): the budget in force from the budget setting and the cabinet state. -/
def budgetFor (setting : Nat) (cabinet : CabinetState) : Nat :=
  match cabinet with
  | .ready => setting
  | .notReady => 0

/-- The class found for a present request entry (R95). -/
def serveClassOf (e : RequestEntry) (counter threshold : Nat) : ServeClass :=
  if counter = threshold ∧ 0 < e.request then .class2
  else match e.cls with
    | .class0 => .class0
    | .class1 => .class1

/-- Step 4: the participants. -/
def State.participants (s : State) : Participants :=
  PerSix.ofFn fun h => (s.disp.request.get h).map fun e =>
    { request := e.request, cls := serveClassOf e (s.disp.shortfall.get h) s.store.settings.reliefThreshold }

/-- Step 3 (R101): a LEVEL participant accrues its former grant for the period just ended. -/
def State.accruePeriod (length : Nat) (h : HeadId) (s : State) : State :=
  if (s.disp.request.get h).isSome ∧ (s.fields h).driveType = .level then
    s.modCtx h fun c => c.accrue ((s.disp.grant.get h).grant * length)
  else s

/-- The shortfall counter of a participant after an expiry (R99). -/
def nextShortfall (p : Participant) (grant counter threshold : Nat) : Nat :=
  if p.cls = .class2 then 0
  else if p.request = 0 then 0
  else if grant < p.request then min (counter + 1) threshold
  else 0

/-- Steps 6 and 7 for the tables: grant entries, last dispatch total, counters, pointer (R94, R99). -/
def Dispatcher.writeGrants (d : Dispatcher) (ps : Participants) (v : Division) (threshold : Nat) : Dispatcher :=
  { d with
    grant := PerSix.ofFn fun h =>
      match ps.get h with
      | some p => { grant := v.grants.get h, served := p.request }
      | none => d.grant.get h
    lastTotal := sumSix v.grants.get
    shortfall := PerSix.ofFn fun h =>
      match ps.get h with
      | some p => nextShortfall p (v.grants.get h) (d.shortfall.get h) threshold
      | none => d.shortfall.get h
    pointer := v.pointer }

/-- Step 7 for a participant's cycle: STARVED and RELIEVED (R100). -/
def State.markParticipant (ps : Participants) (v : Division) (h : HeadId) (s : State) : State :=
  match ps.get h with
  | none => s
  | some p =>
    s.modFlags h fun f =>
      { f with
        starved := f.starved || decide (v.grants.get h < p.request)
        relieved := f.relieved || p.cls == .class2 }

/-! ## Burst windows (R110, R111) -/

/-- The on-time latched at a window start (R110). -/
def latchOf (grant window maxPower : Nat) : Nat := grant * window / maxPower

/-- The gate set at a window start, after the latch (R111): `d` the on-time, `dry` the cycle's. -/
def DriveUnit.startWindow (u : DriveUnit) (start : Word32) (d : Nat) (dry : Bool) : DriveUnit :=
  { u.command (.gate (decide (0 < d) && !dry)) with
    windowStart := some start, onTime := d, onRunning := decide (0 < d) }

/-- Step 8 for a participant (R103, R109, R110): a LEVEL head's output takes the grant, 0 when dry; a BURST head's first
window starts, at the expiry's time. -/
def State.handGrant (ps : Participants) (h : HeadId) (s : State) : State :=
  if (ps.get h).isSome then
    let g := (s.disp.grant.get h).grant
    match (s.fields h).driveType with
    | .level => s.modDrive h fun u => u.command (.level (if s.isDry h then 0 else g))
    | .burst =>
      match (s.drives.get h).windowStart with
      | some _ => s
      | none =>
        s.modDrive h fun u =>
          u.startWindow s.disp.lastExpiry (latchOf g (s.fields h).burstWindow (s.fields h).maxPower) (s.isDry h)
  else s

/-- The dispatch expiry, its eight steps in order (R94). -/
def State.expire (s : State) : State :=
  let length := elapsed s.disp.nextExpiry s.disp.lastExpiry
  let s1 := s.modDisp fun d => d.advance s.store.settings.dispatchPeriod
  let s2 := s1.modDisp fun d => { d with budget := budgetFor d.budgetSetting s.cabinet }
  let s3 := s2.forHeadsInOrder (State.accruePeriod length)
  let ps := s3.participants
  let v := divideBudget s3.disp.budget s3.disp.pointer ps
  let s4 := s3.modDisp fun d => d.writeGrants ps v s.store.settings.reliefThreshold
  let s5 := s4.forHeadsInOrder (State.markParticipant ps v)
  s5.forHeadsInOrder (State.handGrant ps)

/-- DISPATCH_EXPIRY (R94), when the timestamp has reached the scheduled time (R89). -/
def execDispatchExpiry (s : State) : Host.Outcome State Fault Refusal :=
  if reached s.disp.timestamp s.disp.nextExpiry then .next s.expire else .next s

/-! ## TIMESTAMP_TICK -/

/-- One millisecond (R87): the timestamp goes up by 1, and every timer kept in milliseconds runs down by 1 (log entry 6). -/
def execTimestampTick (s : State) : Host.Outcome State Fault Refusal :=
  .next { s with
    disp := { s.disp with timestamp := s.disp.timestamp + 1 }
    fronts := s.fronts.map fun fe => { fe with timer := runDown fe.timer }
    drives := s.drives.map fun u => { u with timer := runDown u.timer }
    heads := s.heads.map fun hd => { hd with ctx := hd.ctx.map fun c => { c with cycleTimer := runDown c.cycleTimer } } }

end Sys2Proof.Machine
end

