-- ==== Sys2Proof/Machine/PowerLoop.lean ====
section
/-! DEFINITION. The power loop (04_the_power_loop.md): error, freeze, accumulator and request, and its state at segment
changes. Divisors here are positive, where Lean's `/` on Int rounds toward minus infinity (00_scope.md section 5). -/

namespace Sys2Proof.Machine

/-- The loop state at context creation (Table 4.1). -/
def LoopState.created : LoopState :=
  { accumulator := 0, prevRequest := 0, prevCeiling := 0, lastSetpoint := 0, lastError := 0, freeze := .none }

/-- A value replaced by the nearer end of a range (00_scope.md section 5, "Clamped"). -/
def clampInt (lo hi x : Int) : Int := max lo (min hi x)

/-- The range of the accumulator under a ceiling (R78). -/
def clampAccumulator (ceiling : Nat) (a : Int) : Int := clampInt (-(ceiling * 4096 : Int)) (ceiling * 4096) a

/-- The class of a segment's kind (R80). -/
def SegmentKind.requestClass : SegmentKind → RequestClass
  | .ramp => .class0 | .soak => .class0 | .flow => .class1 | .hold => .class0

/-- The error (R75). -/
def loopError (setpoint temperature : Nat) : Int := (setpoint : Int) - temperature

/-- The proportional term (R75). -/
def proportional (kp : Nat) (e : Int) : Int := kp * e / 256

/-- The grant is below the served request (R76). -/
def GrantEntry.starves (g : GrantEntry) : Bool := decide (g.grant < g.served)

/-- The freeze judged at a run (R77), the first that holds in the order of its table. -/
def judgeFreeze (l : LoopState) (g : GrantEntry) (e : Int) : Freeze :=
  if l.prevRequest = l.prevCeiling ∧ 0 < e then .atCeiling
  else if l.prevRequest = 0 ∧ e < 0 then .atZero
  else if g.starves = true ∧ 0 < e then .starved
  else .none

/-- The accumulator after a run (R78). -/
def nextAccumulator (l : LoopState) (fz : Freeze) (ki ceiling : Nat) (e : Int) : Int :=
  if fz = .none then clampAccumulator ceiling (l.accumulator + ki * e) else l.accumulator

/-- The integral term (R79). -/
def integralTerm (a : Int) : Int := a / 4096

/-- The request of a run (R79): the raw request clamped to 0 to the ceiling. -/
def loopRequest (feedForward ceiling : Nat) (p i : Int) : Nat := (clampInt 0 ceiling (feedForward + p + i)).toNat

/-- One run of the loop (R74, steps 1 to 5 and 7): the loop state it leaves; its previous request is the request to write. -/
def LoopState.run (l : LoopState) (r : Recipe) (g : Segment) (gr : GrantEntry) (temperature setpoint : Nat) : LoopState :=
  let e := loopError setpoint temperature
  let fz := judgeFreeze l gr e
  let a := nextAccumulator l fz r.ki g.ceiling e
  { accumulator := a
    prevRequest := loopRequest g.feedForward g.ceiling (proportional r.kp e) (integralTerm a)
    prevCeiling := g.ceiling
    lastSetpoint := setpoint
    lastError := e
    freeze := fz }

/-- The loop state prepared for a new cycle (R81). -/
def LoopState.first (g : Segment) : LoopState := { LoopState.created with prevCeiling := g.ceiling }

/-- The loop state at entry to a later heating segment (R82). -/
def LoopState.next (l : LoopState) (g : Segment) : LoopState :=
  { l with accumulator := clampAccumulator g.ceiling l.accumulator }

/-- The loop state at entry to HOLD (R83). -/
def LoopState.hold (l : LoopState) : LoopState := { l with accumulator := 0, prevRequest := 0 }

/-- A run of a head's loop for segment `g` (R74): its state and its request entry (R80). -/
def State.runLoop (s : State) (h : HeadId) (r : Recipe) (g : Segment) (temperature setpoint : Nat) : State :=
  match (s.heads.get h).ctx with
  | none => s
  | some c =>
    let l := c.loop.run r g (s.disp.grant.get h) temperature setpoint
    (s.modCtx h fun c => { c with loop := l }).modDisp fun d =>
      { d with request := d.request.set h (some { request := l.prevRequest, cls := g.kind.requestClass }) }

end Sys2Proof.Machine
end

