-- ==== Sys2Proof/Machine/Heat.lean ====
section
/-! DEFINITION. The heat cycle (03_the_heat_cycle.md): samples in HEATING and HOLD, segments, lookup results, reports, and
the cycle-time expiry. -/

namespace Sys2Proof.Machine

/-! ## Segments -/

/-- A segment is entered: its index, and the per-segment state cleared (R50). -/
def Context.enter (c : Context) (i : Nat) : Context :=
  { c with segIndex := i, clock := none, inBand := 0, prev := none, lagStart := none, peak := 0, segEnergy := 0 }

/-- The clock starts at a sample, and S0 with it in a RAMP (R50, R51). -/
def Context.startClock (c : Context) (g : Segment) (now : Word32) (origin : Nat) : Context :=
  { c with clock := some now, origin := if g.kind = .ramp then origin else c.origin }

/-- Steps 1 and 2 of R52: segment 0's clock starts at its first sample; the peak follows the sample. -/
def Context.atSample (c : Context) (g : Segment) (now : Word32) (t : Nat) : Context :=
  let c1 := match c.clock with
    | none => c.startClock g now t
    | some _ => c
  { c1 with peak := max c1.peak t }

/-- Elapsed segment time; 0 before the clock starts (R50). -/
def Context.elapsedSegment (c : Context) (now : Word32) : Nat :=
  match c.clock with
  | some t => elapsed now t
  | none => 0

/-- The setpoint of a segment (R51). -/
def Context.setpoint (c : Context) (g : Segment) (now : Word32) : Nat :=
  match g.kind with
  | .ramp =>
    let e := min (c.elapsedSegment now) g.duration
    ((c.origin : Int) + ((g.target : Int) - c.origin) * e / g.duration).toNat
  | .soak => g.target
  | .flow => g.target
  | .hold => g.target

/-- A sample is in band of a setpoint (R53). -/
def inBandOf (g : Segment) (t setpoint : Nat) : Bool := decide (t ≤ setpoint + g.band) && decide (setpoint ≤ t + g.band)

/-- The interval a sample adds to time in band: from the previous sample, when that was in band (R53). -/
def Context.bandInterval (c : Context) (now : Word32) : Nat :=
  match c.prev with
  | some (t, true) => elapsed now t
  | _ => 0

/-- Time in band brought up to date, and the sample recorded with its in-band status (R53). -/
def Context.recordAs (c : Context) (now : Word32) (inBand : Bool) : Context :=
  { c with inBand := c.inBand + c.bandInterval now, prev := some (now, inBand) }

/-- A sample in HEATING recorded: its in-band status by the setpoint computed at it (R53). -/
def Context.record (c : Context) (g : Segment) (now : Word32) (t setpoint : Nat) : Context :=
  c.recordAs now (inBandOf g t setpoint)

/-- A sample is lagging (R55). -/
def lagging (g : Segment) (t setpoint : Nat) : Bool := decide (t + g.band < setpoint)

/-- Ramp lag is judged in a RAMP with a limit above 0 (R55). -/
def lagJudged (r : Recipe) (g : Segment) : Bool := g.kind == .ramp && decide (0 < r.lagLimit)

/-- A lagging sample whose run exceeds the limit (R55): the cycle ends UNDERHEAT. -/
def Context.lagExceeded (c : Context) (r : Recipe) (g : Segment) (now : Word32) (t setpoint : Nat) : Bool :=
  lagJudged r g && lagging g t setpoint &&
    match c.lagStart with
    | some t0 => decide (r.lagLimit < elapsed now t0)
    | none => false

/-- The lag start after a sample that ends nothing (R55). -/
def Context.updateLag (c : Context) (r : Recipe) (g : Segment) (now : Word32) (t setpoint : Nat) : Context :=
  if lagJudged r g then
    if lagging g t setpoint then { c with lagStart := some (c.lagStart.getD now) } else { c with lagStart := none }
  else c

/-- Completion of a heating segment (R54). A HOLD is judged by R59. -/
def Context.completes (c : Context) (g : Segment) (now : Word32) : Bool :=
  match g.kind with
  | .ramp => decide (g.duration ≤ c.elapsedSegment now)
  | .soak => decide (g.duration ≤ c.inBand)
  | .flow => decide (g.duration ≤ c.inBand) || (g.energyTarget != 0 && decide (g.energyTarget * 1000 ≤ c.segEnergy))
  | .hold => false

/-- Overtemperature (R56). -/
def overtemp (r : Recipe) (t : Nat) (overRange : Bool) : Bool := overRange || decide (r.maxTemp < t)

/-- The context that enters heating segment `g` at index `i` at the sample that completed segment `old` (R57): clock,
S0, first sample, and the accumulator clamped (R82). The sample is not judged for ramp lag (log entry 18). -/
def Context.enterHeating (c : Context) (i : Nat) (old g : Segment) (now : Word32) (t : Nat) : Context :=
  let c1 := ((c.enter i).startClock g now old.target)
  let c2 := { c1 with peak := t, loop := c.loop.next g }
  c2.record g now t (c2.setpoint g now)

/-- The context that enters HOLD at index `i` at a sample (R58 step 4, R50, R83), the sample recorded as the segment's first (R53)
with an in-band status `inBand` that is free (log entry 19). -/
def Context.enterHold (c : Context) (i : Nat) (now : Word32) (t : Nat) (inBand : Bool) : Context :=
  { c.enter i with clock := some now, peak := t, loop := c.loop.hold }.recordAs now inBand

/-! ## The end of heating (R58) -/

/-- Steps 2 and 3 of R58 on the context. -/
def Context.judgeWindow (c : Context) (r : Recipe) : Context := { c with flags := c.flags.judgeEnergy r c.totalEnergy }

/-- The in-band status of a sample in HOLD, by the counter the free values are drawn with (log entry 19). -/
def State.holdInBand (s : State) : Bool := Config.holdInBand s.freeCount

/-- The last heating segment completes at a sample (R58). With no HOLD behind, the cut of step 1 is the cycle end's cut too: the
model cuts once, and one 0 or OFF command frame is sent (log entry 30). -/
def State.endHeating (s : State) (h : HeadId) (r : Recipe) (t : Nat) : State :=
  let now := s.disp.timestamp
  let s1 := (s.cut h).modCtx h fun c => (c.appendSummary now).judgeWindow r
  match (s1.heads.get h).ctx with
  | none => s1
  | some c =>
    match r.segments[c.segIndex + 1]? with
    | some _ =>
      s1.drawFree.modHead h fun hd =>
        { hd with state := .hold, ctx := some (c.enterHold (c.segIndex + 1) now t s.holdInBand) }
    | none => s1.finishCycle h none

/-! ## Sample events -/

/-- Steps 7 and 8 of R52, on a context brought up to date: completion, the next segment or the end of heating, the power loop. -/
def State.completeOrRun (s : State) (h : HeadId) (c : Context) (r : Recipe) (g : Segment) (t setpoint : Nat) : State :=
  let now := s.disp.timestamp
  let s1 := s.modHead h fun hd => { hd with ctx := some c }
  if c.completes g now then
    match r.segments[c.segIndex + 1]? with
    | none => s1.endHeating h r t
    | some g2 =>
      if g2.kind = .hold then s1.endHeating h r t
      else
        let c2 := (c.appendSummary now).enterHeating (c.segIndex + 1) g g2 now t
        (s1.modHead h fun hd => { hd with ctx := some c2 }).runLoop h r g2 t (c2.setpoint g2 now)
  else s1.runLoop h r g t setpoint

/-- A usable sample of a head in HEATING with its context, recipe and segment (R52). -/
def State.heatSample (s : State) (h : HeadId) (c : Context) (r : Recipe) (g : Segment) (t : Nat) (overRange : Bool) : State :=
  let now := s.disp.timestamp
  let c1 := c.atSample g now t
  if overtemp r t overRange then (s.modHead h fun hd => { hd with ctx := some c1 }).endCycle h (some .overtemp)
  else
    let sp := c1.setpoint g now
    let c2 := c1.record g now t sp
    if c2.lagExceeded r g now t sp then (s.modHead h fun hd => { hd with ctx := some c2 }).endCycle h (some .underheat)
    else s.completeOrRun h (c2.updateLag r g now t sp) r g t sp

/-- A usable sample of a head in HOLD (R59): the peak, overtemperature, then time in band kept as in the other segments (R53, R56),
the sample's in-band status free (log entry 19), and the release condition. -/
def State.holdSample (s : State) (h : HeadId) (c : Context) (r : Recipe) (g : Segment) (t : Nat) (overRange : Bool) : State :=
  let now := s.disp.timestamp
  let c1 := { c with peak := max c.peak t }
  if overtemp r t overRange then (s.modHead h fun hd => { hd with ctx := some c1 }).endCycle h (some .overtemp)
  else
    let c2 := c1.recordAs now s.holdInBand
    let s1 := s.drawFree.modHead h fun hd => { hd with ctx := some c2 }
    if g.duration ≤ c2.elapsedSegment now ∧ t ≤ g.target then s1.endCycle h none else s1

/-- A head's context with the recipe copy and the segment it stands in. -/
def State.running (s : State) (h : HeadId) : Option (Context × Recipe × Segment) :=
  match (s.heads.get h).ctx with
  | none => none
  | some c =>
    match c.recipe with
    | none => none
    | some r =>
      match r.segments[c.segIndex]? with
      | none => none
      | some g => some (c, r, g)

/-- A sample event at the head sequencer (R34): acted on in HEATING and HOLD alone. -/
def State.sampleEvent (s : State) (h : HeadId) (t : Nat) (overRange : Bool) : State :=
  match (s.heads.get h).state, s.running h with
  | .heating, some (c, r, g) => s.heatSample h c r g t overRange
  | .hold, some (c, r, g) => s.holdSample h c r g t overRange
  | _, _ => s

/-! ## Lookup results (R47 to R49) -/

/-- What a lookup gives its head (R18). -/
inductive LookupResult where
  | noRecipe
  | recipeDamaged
  | tooStrong (revision : Word16)
  | good (recipe : Recipe)
  deriving DecidableEq, Repr

/-- The checks at entry to HEATING (R49): the reason of the first that fails. The sensor's state alone is judged, so a replay begun
STALE on WEAK entries ends here though its restarted timer still runs (log entry 35). -/
def State.entryFailure (s : State) (h : HeadId) (dry : Bool) : Option Reason :=
  if (s.fronts.get h).sensor = .stale then some .sensorLost
  else if dry then none
  else if s.cabinet = .notReady then some .cabinet
  else match (s.drives.get h).state with
    | .tripped => some .driveTrip
    | .unknown => some .driveLost
    | .ready => none
    | .notReady => none

/-- The context a good result makes: recipe copy, revision, cycle-time timer, segment 0 entered (R47, R50, R81). -/
def Context.startHeating (c : Context) (r : Recipe) : Context :=
  { c.enter 0 with
    recipe := some r
    revision := r.revision
    cycleTimer := some r.maxCycleTime
    loop := match r.segments.head? with
      | some g => LoopState.first g
      | none => LoopState.created }

/-- A good lookup result (R47): the head enters HEATING, the checks of R49, then the request entry with request 0 and
the shortfall counter at 0 (R92). -/
def State.enterHeating (s : State) (h : HeadId) (r : Recipe) : State :=
  let s1 := s.modHead h fun hd => { hd with state := .heating, ctx := hd.ctx.map (·.startHeating r) }
  match s1.entryFailure h (s.isDry h) with
  | some reason => s1.endCycle h (some reason)
  | none =>
    let cls := match r.segments.head? with
      | some g => g.kind.requestClass
      | none => .class0
    s1.modDisp fun d =>
      { d with request := d.request.set h (some { request := 0, cls := cls }), shortfall := d.shortfall.set h 0 }

/-- Whether a lookup's result is taken: the head is in LOOKUP with the cycle the lookup carries (R47, R13). -/
def State.takesLookup (s : State) (e : LookupEntry) : Bool :=
  match (s.heads.get e.head).state, (s.heads.get e.head).ctx with
  | .lookup, some c => c.cycle == e.cycle
  | _, _ => false

/-- A taken result acts (R47, R48). -/
def State.actOnLookup (s : State) (h : HeadId) (result : LookupResult) : State :=
  match result with
  | .noRecipe => s.endCycle h (some .noRecipe)
  | .recipeDamaged => s.endCycle h (some .recipeDamaged)
  | .tooStrong rev => (s.modCtx h fun c => { c with revision := rev }).endCycle h (some .tooStrong)
  | .good r => s.enterHeating h r

/-- A lookup's result reaches its head (R47): taken, with its ECC_CORRECTED flag first, or discarded. -/
def State.deliverLookup (s : State) (e : LookupEntry) (result : LookupResult) (corrected : Bool) : State :=
  if s.takesLookup e then
    (s.modFlags e.head fun f => { f with eccCorrected := f.eccCorrected || corrected }).actOnLookup e.head result
  else s

/-! ## Reports that end cycles (R63 to R65) -/

/-- A drive or cabinet report at a head (R63): a non-dry cycle in HEATING ends. -/
def State.reportToHead (s : State) (h : HeadId) (reason : Reason) : State :=
  if (s.heads.get h).state = .heating ∧ s.isDry h = false then s.endCycle h (some reason) else s

/-- An INDEX event at a head (R64). -/
def State.indexHead (s : State) (h : HeadId) : State :=
  match (s.heads.get h).state with
  | .lookup => s.endCycle h (some .indexed)
  | .heating => s.endCycle h (some .indexed)
  | .hold => s.modFlags h fun f => { f with indexInHold := true }
  | .idle => s
  | .done => s
  | .faulted => s

/-! ## CYCLE_TIME_EXPIRY -/

/-- The HOT_RELEASE judgement at an expiry in HOLD (R60). -/
def hotRelease (temperature : Option Nat) (target : Nat) : Bool :=
  match temperature with
  | some t => decide (target < t)
  | none => false

/-- The expiry of a running cycle-time timer acts by the head state (R60). -/
def State.cycleTimeUp (s : State) (h : HeadId) : State :=
  let s1 := s.modCtx h fun c => { c with cycleTimer := none }
  match (s.heads.get h).state with
  | .heating => s1.endCycle h (some .cycleTime)
  | .hold =>
    let hot := match s.running h with
      | some (_, _, g) => hotRelease (s.fronts.get h).temperature g.target
      | none => false
    (s1.modFlags h fun f => { f with hotRelease := f.hotRelease || hot }).endCycle h none
  | _ => s1

/-- The cycle-time timer of a head has run out and its expiry is due. -/
def State.cycleTimeDue (s : State) (h : HeadId) : Bool :=
  match (s.heads.get h).ctx with
  | some c => c.cycleTimer == some 0
  | none => false

/-- CYCLE_TIME_EXPIRY (R60). -/
def execCycleTimeExpiry (h : HeadId) (s : State) : Host.Outcome State Fault Refusal :=
  if s.cycleTimeDue h then .next (s.cycleTimeUp h) else .next s

end Sys2Proof.Machine
end

