-- ==== Sys2Proof/Machine/Drive.lean ====
section
/-! DEFINITION. The drive line units and the cabinet input (06_head_drives_and_the_cabinet_line.md): later burst windows, command
frames, drive status, the cabinet level, and the drive status receiver (R184). -/

namespace Sys2Proof.Machine

/-! ## Burst windows (R110, R111) -/

/-- A later window starts (R111): it first closes a window still on, then latches and sets the gate. -/
def State.nextWindow (s : State) (h : HeadId) (start : Word32) : State :=
  let f := s.fields h
  let u := s.drives.get h
  let s1 := if u.onRunning then s.modCtx h fun c => c.accrue (f.maxPower * u.onTime) else s
  s1.modDrive h fun u => u.startWindow (later start f.burstWindow)
    (latchOf (s.disp.grant.get h).grant f.burstWindow f.maxPower) (s.isDry h)

/-- WINDOW_START (R111): due at the window's start plus W (R110). -/
def execWindowStart (h : HeadId) (s : State) : Host.Outcome State Fault Refusal :=
  match (s.drives.get h).windowStart with
  | none => .next s
  | some start =>
    if reached s.disp.timestamp (later start (s.fields h).burstWindow) then .next (s.nextWindow h start) else .next s

/-- The on part of a window ends (R111): gate OFF, and Pmax × d accrued. -/
def State.endOnPart (s : State) (h : HeadId) : State :=
  (s.modCtx h fun c => c.accrue ((s.fields h).maxPower * (s.drives.get h).onTime)).modDrive h fun u =>
    { u.command (.gate false) with onRunning := false }

/-- Whether the on-part end of a head's window is due: inside the window, so with d below W (R111). -/
def State.onPartDue (s : State) (h : HeadId) : Bool :=
  let u := s.drives.get h
  match u.windowStart with
  | none => false
  | some start =>
    u.onRunning && decide (u.onTime < (s.fields h).burstWindow) && reached s.disp.timestamp (later start u.onTime)

/-- ON_PART_END (R111). -/
def execOnPartEnd (h : HeadId) (s : State) : Host.Outcome State Fault Refusal :=
  if s.onPartDue h then .next (s.endOnPart h) else .next s

/-! ## Command frames (R108) -/

/-- The frame in progress has been sent, and the waiting one follows (R108). -/
def DriveUnit.frameSent (u : DriveUnit) : DriveUnit := { u with inProgress := u.waiting, waiting := none }

/-- DRIVE_FRAME_SENT (R108). -/
def execDriveFrameSent (h : HeadId) (s : State) : Host.Outcome State Fault Refusal :=
  match (s.drives.get h).inProgress with
  | some _ => .next (s.modDrive h DriveUnit.frameSent)
  | none => .next s

/-! ## Drive status (R114 to R116) -/

/-- The report a change into a drive state makes (R116): TRIPPED and UNKNOWN alone are reported. -/
def reportOf (was now : DriveState) : Option Reason :=
  if was = now then none
  else match now with
    | .tripped => some .driveTrip
    | .unknown => some .driveLost
    | .ready => none
    | .notReady => none

/-- A head's drive takes a state, with its timer, and reports the change (R114, R116). -/
def State.setDrive (s : State) (h : HeadId) (st : DriveState) (timer : Option Nat) : State :=
  let s1 := s.modDrive h fun u => { u with state := st, timer := timer }
  match reportOf (s.drives.get h).state st with
  | some reason => s1.reportToHead h reason
  | none => s1

/-- A completed status frame is judged (R114). -/
def State.statusFrame (s : State) (h : HeadId) (frame : StatusFrame) : State :=
  match frame with
  | .bad => s
  | .good status =>
    if s.sup.mode = .starting then s
    else s.setDrive h (driveStateOf status) (some s.store.settings.driveTimeout)

/-- DRIVE_STATUS (R114): the whole frame, so no frame is in reception after it (log entry 4). -/
def execDriveStatus (h : HeadId) (frame : StatusFrame) (s : State) : Host.Outcome State Fault Refusal :=
  .next ((s.modDrive h fun u => { u with rx := none }).statusFrame h frame)

/-- A completed status frame's characters as R184 hands them on. -/
def statusOf (cs : List Character) : StatusFrame :=
  let bs := cs.map (·.data)
  if cs.any (·.framing) || byteSum bs != 0 || byteAt bs 0 != 0x70 then .bad
  else match driveStatusCodeOf (byteAt bs 1) with
    | some status => .good status
    | none => .bad

/-- DRIVE_STATUS_CHARACTER (R184). -/
def execDriveStatusCharacter (h : HeadId) (c : Character) (s : State) : Host.Outcome State Fault Refusal :=
  if c.mark then .next (s.modDrive h fun u => { u with rx := some [c] })
  else
    match (s.drives.get h).rx with
    | none => .next s
    | some cs =>
      if 3 ≤ cs.length + 1 then
        .next ((s.modDrive h fun u => { u with rx := none }).statusFrame h (statusOf (cs ++ [c])))
      else .next (s.modDrive h fun u => { u with rx := some (cs ++ [c]) })

/-- DRIVE_STATUS_TIMEOUT (R115): the timer stops, and the state becomes UNKNOWN. -/
def execDriveStatusTimeout (h : HeadId) (s : State) : Host.Outcome State Fault Refusal :=
  if (s.drives.get h).timer = some 0 then .next (s.setDrive h .unknown none) else .next s

/-! ## The cabinet input (R117, R118) -/

/-- A cabinet event at a head (R118). -/
def State.cabinetHead (h : HeadId) (s : State) : State := s.reportToHead h .cabinet

/-- CABINET_INPUT_CHANGE (R117): the state follows the level; a change to NOT_READY reaches all six heads (R118). -/
def execCabinetInputChange (level : CabinetState) (s : State) : Host.Outcome State Fault Refusal :=
  if s.cabinet = level then .next s
  else
    match level with
    | .ready => .next { s with cabinet := .ready }
    | .notReady => .next (State.forHeads { s with cabinet := .notReady } State.cabinetHead)

end Sys2Proof.Machine
end

