-- ==== Sys2Proof/Machine/Sensor.lean ====
section
/-! DEFINITION. The sensor front ends (02_temperature_acquisition.md): conversion, the hand-on of samples, the sensor timer,
replay, and the sensor input's receiver (R184). -/

namespace Sys2Proof.Machine

/-! ## Conversion (R30 to R32) -/

/-- Point Tk of a calibration copy. -/
def Calibration.point (cal : Calibration) (k : Nat) : Int := (cal.points.getD k 0 : Nat)

/-- The table value of an OK sample (R30). -/
def Calibration.interpolate (cal : Calibration) (raw : Nat) : Int :=
  let k := raw / 4096
  let f := raw - 4096 * k
  cal.point k + (cal.point (k + 1) - cal.point k) * f / 4096

/-- The table value of a usable sample, none for WEAK (R30, R31, R33). -/
def Calibration.tableValue (cal : Calibration) (status : SampleStatus) (raw : Word16) : Option Int :=
  match status with
  | .ok => some (cal.interpolate raw.toNat)
  | .low => some (cal.point 0)
  | .high => some (cal.point 16)
  | .weak => none

/-- The temperature of a usable sample: offset added, clamped to 0 to 12000 (R32). -/
def Calibration.convert (cal : Calibration) (status : SampleStatus) (raw : Word16) : Option Nat :=
  (cal.tableValue status raw).map fun v => (clampInt 0 Config.maxTemperature (v + cal.offset)).toNat

/-! ## Taking a sample -/

/-- A usable sample in the front end (R32, R34, R35): temperature, FRESH, timer restarted. -/
def FrontEnd.usable (fe : FrontEnd) (t timeout : Nat) : FrontEnd :=
  { fe with temperature := some t, sensor := .fresh, timer := some timeout }

/-- A WEAK sample sets SENSOR_HELD in HEATING and HOLD (R33). -/
def State.holdWeak (s : State) (h : HeadId) : State :=
  match (s.heads.get h).state with
  | .heating => s.modFlags h fun f => { f with sensorHeld := true }
  | .hold => s.modFlags h fun f => { f with sensorHeld := true }
  | _ => s

/-- A sample is taken: its status stored, then converted and handed on, or held (R28 from its third point on). -/
def State.takeSample (s : State) (h : HeadId) (status : SampleStatus) (raw : Word16) : State :=
  let s1 := s.modFront h fun fe => { fe with lastStatus := some status }
  match (s.fronts.get h).calibration.convert status raw with
  | none => s1.holdWeak h
  | some t => (s1.modFront h fun fe => fe.usable t (s.fields h).sensorTimeout).sampleEvent h t (status == .high)

/-- A completed sample frame is judged (R28). -/
def State.sampleFrame (s : State) (h : HeadId) (frame : SampleFrame) : State :=
  match frame with
  | .bad => s
  | .good status raw =>
    if s.sup.mode = .starting then s
    else if (s.fronts.get h).replayActive then s
    else s.takeSample h status raw

/-- SAMPLE (R28): the whole frame, so no frame is in reception after it (log entry 4). -/
def execSample (h : HeadId) (frame : SampleFrame) (s : State) : Host.Outcome State Fault Refusal :=
  .next ((s.modFront h fun fe => { fe with rx := none }).sampleFrame h frame)

/-- A completed sample frame's characters as R184 hands them on: bad, or good with status and raw count. -/
def sampleOf (cs : List Character) : SampleFrame :=
  let bs := cs.map (·.data)
  if cs.any (·.framing) || byteSum bs != 0 then .bad
  else
    match sampleStatusOf (byteAt bs 0 - 0x50), decide (0x50 ≤ byteAt bs 0) with
    | some status, true => .good status (BitVec.ofNat 16 (u16At bs 1))
    | _, _ => .bad

/-- SENSOR_CHARACTER (R184). -/
def execSensorCharacter (h : HeadId) (c : Character) (s : State) : Host.Outcome State Fault Refusal :=
  if c.mark then .next (s.modFront h fun fe => { fe with rx := some [c] })
  else
    match (s.fronts.get h).rx with
    | none => .next s
    | some cs =>
      if 4 ≤ cs.length + 1 then
        .next ((s.modFront h fun fe => { fe with rx := none }).sampleFrame h (sampleOf (cs ++ [c])))
      else .next (s.modFront h fun fe => { fe with rx := some (cs ++ [c]) })

/-! ## The sensor timer -/

/-- The sensor timer expires (R36): STALE, and a cycle in HEATING or HOLD ends SENSOR_LOST. -/
def State.sensorLost (s : State) (h : HeadId) : State :=
  let s1 := s.modFront h fun fe => { fe with timer := none, sensor := .stale }
  match (s.heads.get h).state with
  | .heating => s1.endCycle h (some .sensorLost)
  | .hold => s1.endCycle h (some .sensorLost)
  | _ => s1

/-- SENSOR_TIMER_EXPIRY (R36). -/
def execSensorTimerExpiry (h : HeadId) (s : State) : Host.Outcome State Fault Refusal :=
  if (s.fronts.get h).timer = some 0 then .next (s.sensorLost h) else .next s

/-! ## Replay -/

/-- A replay entry is taken as a sample (R28, R38, R39). -/
def State.takeReplay (s : State) (h : HeadId) : State :=
  let e := s.sup.replayTable.getD (s.fronts.get h).replayPos { raw := 0, status := .low }
  s.takeSample h e.status e.raw

/-- Replay begins (R38): active at position 0, the sensor timer restarted, entry 0 taken; the next step falls 2 ms on (R39). -/
def State.beginReplay (s : State) (h : HeadId) : State :=
  (s.modFront h fun fe =>
    { fe with
      replayActive := true
      replayPos := 0
      replayNext := later s.disp.timestamp Config.replayPace
      timer := some (s.fields h).sensorTimeout }).takeReplay h

/-- The next replay step: the position moves on, to 255 at most, and its entry is taken (R39). Its arrival time is the timestamp
when it is taken, a step commanded late included (R34, log entry 6). -/
def State.stepReplay (s : State) (h : HeadId) : State :=
  (s.modFront h fun fe =>
    { fe with replayPos := min (fe.replayPos + 1) 255, replayNext := later fe.replayNext Config.replayPace }).takeReplay h

/-- REPLAY_STEP (R39). -/
def execReplayStep (h : HeadId) (s : State) : Host.Outcome State Fault Refusal :=
  let fe := s.fronts.get h
  if fe.replayActive = true ∧ reached s.disp.timestamp fe.replayNext = true then .next (s.stepReplay h) else .next s

end Sys2Proof.Machine
end

