-- ==== Sys2Proof/Machine/Reply.lean ====
section
/-! DEFINITION. What a supervisor command comes to, and the forming of line replies (R163, R164). -/

namespace Sys2Proof.Machine

/-- What performing a taken command comes to (R164, R165): success with a payload, a refusal with a detail byte, or a
reply that an operation will form (R11). -/
inductive CommandOutcome where
  | success (payload : List Byte)
  | refused (reason : LineRefusal) (detail : Byte)
  | forming
  deriving DecidableEq, Repr

/-- The REFUSED reply (R164). -/
def refusedReply (reason : LineRefusal) (detail : Byte) : LineReply :=
  { kind := 0xFF, payload := [BitVec.ofNat 8 reason.code, detail] }

/-- The success reply to a command kind (R164). -/
def successReply (kind : Byte) (payload : List Byte) : LineReply := { kind := kind + 0x80, payload := payload }

/-- The characters of a reply frame, addressed to 0 (R164, R161). -/
def LineReply.frame (r : LineReply) : List Byte :=
  let body : List Byte := [0, r.kind, BitVec.ofNat 8 r.payload.length] ++ r.payload
  body ++ [checkByte body]

/-- A reply frame on the line: its address character carries the mark bit (R161). -/
def LineReply.characters (r : LineReply) : List Character := asCharacters r.frame

/-- The transmit enable is asserted and the reply goes out (R163, R164); the receiver takes nothing from here on (R159). -/
def LineLink.send (k : LineLink) : LineLink := { k with reply := .sending, txEnable := true, spoiled := false }

/-- A reply is formed (R163): WAITING while the turnaround timer runs, SENDING at once when it has expired. -/
def LineLink.form (k : LineLink) (r : LineReply) : LineLink :=
  match k.turnaround with
  | some _ => { k with reply := .waiting, replyFrame := some r }
  | none => { k with replyFrame := some r }.send

/-- The reply of the command that is FORMING is formed (R163). -/
def State.formReply (s : State) (r : LineReply) : State :=
  if s.line.reply = .forming then s.modLine fun k => k.form r else s

/-- A refusal for a field (R166): INVALID with its detail. -/
def invalid (detail : Nat) : CommandOutcome := .refused .invalid (BitVec.ofNat 8 detail)

end Sys2Proof.Machine
end

