-- ==== Sys2Proof/Machine/Store.lean ====
section
/-! DEFINITION. The recipe store (01_recipes_and_the_recipe_store.md): the port, its operations and their completions, and
the supervisor's store commands. -/

namespace Sys2Proof.Machine

/-! ## The port (R10, R12) -/

/-- The port starts a lookup (R18 step 1): a code not in the index completes at once with NO_RECIPE. -/
def State.startLookup (s : State) (e : LookupEntry) : State :=
  match s.store.slotOf e.code with
  | none => s.deliverLookup e .noRecipe false
  | some slot => s.modStore fun st => { st with port := .lookup e slot }

/-- A lookup arrives (R13): it starts at once on a free port with nothing waiting, and joins the queue otherwise. -/
def State.arriveLookup (s : State) (e : LookupEntry) : State :=
  if s.store.port = .idle ∧ s.store.queue = [] ∧ s.store.supervisor = none then s.startLookup e
  else s.modStore fun st => { st with queue := st.queue ++ [e] }

/-- An operation leaves the supervisor slot with its outcome recorded (R11). -/
def Store.finishOp (st : Store) (kind : OpKind) (result : OpResult) : Store :=
  { st with supervisor := none, port := .idle, lastOpKind := some kind, lastOpResult := some result }

/-- A recipe read leaves the supervisor slot; it records no last operation (R25). -/
def Store.finishRead (st : Store) : Store := { st with supervisor := none, port := .idle }

/-- The reply of READ_RECIPE for an EMPTY slot (R19, R181). -/
def readEmptyReply (slot : Nat) : LineReply := successReply 0x10 (le8 slot ++ le8 SlotStatus.empty.code ++ le16 0)

/-- The reply of READ_RECIPE for a VALID slot's record (R19, R181). -/
def readValidReply (slot : Nat) (record : List Byte) : LineReply :=
  successReply 0x10 (le8 slot ++ le8 SlotStatus.valid.code ++ record)

/-- The refusal of READ_RECIPE for a DAMAGED slot (R19). -/
def readDamagedReply (slot : Nat) : LineReply := refusedReply .damaged (BitVec.ofNat 8 slot)

/-- The operation begins to use the port. -/
def State.occupyPort (s : State) (op : SupervisorOp) : State :=
  s.modStore fun st => { st with supervisor := some { op := op, started := true }, port := .supervisor }

/-- The port starts the supervisor operation; an erase of an EMPTY slot and a read of an EMPTY or DAMAGED one complete at
their start (R10, R15, R19). -/
def State.startSupervisor (s : State) (op : SupervisorOp) : State :=
  match op with
  | .recipeErase slot =>
    if s.store.slotStatus.getD slot .empty = .empty then s.modStore fun st => st.finishOp .recipeErase .ok
    else s.occupyPort op
  | .recipeRead slot =>
    match s.store.slotStatus.getD slot .empty with
    | .empty => (s.modStore Store.finishRead).formReply (readEmptyReply slot)
    | .damaged => (s.modStore Store.finishRead).formReply (readDamagedReply slot)
    | .valid => s.occupyPort op
  | .recipeWrite _ _ => s.occupyPort op
  | .calibrationWrite _ _ => s.occupyPort op
  | .settingsWrite _ => s.occupyPort op

/-- A supervisor operation is accepted into the slot (R11): it starts at once on a free port with no lookup waiting. -/
def State.acceptOp (s : State) (op : SupervisorOp) : State :=
  if s.store.port = .idle ∧ s.store.queue = [] then s.startSupervisor op
  else s.modStore fun st => { st with supervisor := some { op := op, started := false } }

/-- STORE_PORT_START (R12): a free port starts the oldest lookup, or else the waiting supervisor operation. -/
def execStorePortStart (s : State) : Host.Outcome State Fault Refusal :=
  if s.store.port = .idle then
    match s.store.queue with
    | e :: rest => .next ((s.modStore fun st => { st with queue := rest }).startLookup e)
    | [] =>
      match s.store.supervisor with
      | some { op := op, started := false } => .next (s.startSupervisor op)
      | some { op := _, started := true } => .next s
      | none => .next s
  else .next s

/-- The supervisor operation now on the port. -/
def State.runningOp (s : State) : Option SupervisorOp :=
  match s.store.port, s.store.supervisor with
  | .supervisor, some { op := op, started := true } => some op
  | _, _ => none

/-! ## Completions of writes and erases (R14 to R17) -/

/-- What a slot holds after a write that meant to store `record`. -/
def writtenCells (w : WriteResult) (record : List Byte) : List NvCell :=
  match w with
  | .asWritten flips => flipCells (cleanCells record) flips
  | .other held => held

/-- The read-back of a write (R14): whether it was corrected, and whether it matches what was written. -/
def readBack (cells : List NvCell) (record : List Byte) : Bool × Bool :=
  let r := eccRead cells
  (r.1, r.2 == some record)

/-- A write's slot takes what it holds, and the read-back is counted (R14, R20; a mismatch counts as uncorrectable, log entry 12).
What a FAILED write holds stays in the slot, read well or not (log entry 36; of the settings slot R17 says that a reset finds it
unreadable, `Store.markSettings`). -/
def Store.storeRecord (st : Store) (slot : Nat) (record : List Byte) (w : WriteResult) : Store :=
  let rb := readBack (writtenCells w record) record
  (st.setCells slot (some (writtenCells w record))).countRead slot rb.1 (!rb.2)

/-- Whether a write completes OK (R14). -/
def writeOk (record : List Byte) (w : WriteResult) : Bool := (readBack (writtenCells w record) record).2

def resultOf (ok : Bool) : OpResult := if ok then .ok else .failed

/-- The revision a recipe write stores: the last revision plus 1, wrapping (R8). -/
def Store.nextRevision (st : Store) (slot : Nat) : Word16 := st.lastRevision.getD slot 0 + 1

/-- A recipe write completes (R14, R8, R9). -/
def Store.completeRecipeWrite (st : Store) (slot : Nat) (body : List Byte) (w : WriteResult) : Store :=
  let rev := st.nextRevision slot
  let record := storedRecipe rev body
  let ok := writeOk record w
  let st1 := (st.storeRecord slot record w).setRevision slot rev
  let st2 := if ok then (st1.setStatus slot .valid).enterIndex (u16At body 0) slot else st1.damage slot
  st2.finishOp .recipeWrite (resultOf ok)

/-- RECIPE_WRITE_COMPLETE (R14). -/
def execRecipeWriteComplete (w : WriteResult) (s : State) : Host.Outcome State Fault Refusal :=
  match s.runningOp with
  | some (.recipeWrite slot body) => .next (s.modStore fun st => st.completeRecipeWrite slot body w)
  | _ => .next s

/-- A recipe erase completes (R15). -/
def Store.completeErase (st : Store) (slot : Nat) : Store :=
  ((((st.setCells slot none).setStatus slot .empty).dropIndex slot).setRevision slot 0).finishOp .recipeErase .ok

/-- RECIPE_ERASE_COMPLETE (R15). -/
def execRecipeEraseComplete (s : State) : Host.Outcome State Fault Refusal :=
  match s.runningOp with
  | some (.recipeErase slot) => .next (s.modStore fun st => st.completeErase slot)
  | _ => .next s

/-- The store slot of a head's calibration (R7). -/
def calibrationSlotOf (h : HeadId) : Nat := Config.calibrationSlot + h.val

/-- CALIBRATION_WRITE_COMPLETE (R16): the RAM copy and its flag when OK; FAILED leaves the copy, and the flag clear. -/
def execCalibrationWriteComplete (w : WriteResult) (s : State) : Host.Outcome State Fault Refusal :=
  match s.runningOp with
  | some (.calibrationWrite h body) =>
    let ok := writeOk body w
    let s1 := s.modStore fun st =>
      (st.storeRecord (calibrationSlotOf h) body w).finishOp .calibrationWrite (resultOf ok)
    .next (if ok then s1.modFront h fun fe => { fe with calibration := decodeCalibration body, calValid := true } else s1)
  | _ => .next s

/-- The hold output of a link re-evaluated against marks (R17). -/
def StationLink.fifoCount (k : StationLink) : Nat :=
  (k.closed.map List.length).sum + match k.opened with
    | some u => u.length
    | none => 0

def StationLink.rejudgeHold (k : StationLink) (high low : Nat) : StationLink :=
  if high ≤ k.fifoCount then { k with holdOut := true }
  else if k.fifoCount ≤ low then { k with holdOut := false } else k

/-- Per-head fields are applied to a head (R17); a change of drive type is a command event (R109). -/
def State.applyFields (s : State) (h : HeadId) : State :=
  let old := s.fields h
  let new := s.store.settings.heads.get h
  let s1 := s.modStore fun st => { st with inForce := st.inForce.set h new, deferred := st.deferred.set h false }
  if old.driveType = new.driveType then s1 else s1.modDrive h fun d => d.command new.driveType.zero

/-- New settings meet a head (R17): applied to an IDLE head, deferred for any other. -/
def State.settleFields (h : HeadId) (s : State) : State :=
  if (s.heads.get h).state = .idle then s.applyFields h
  else s.modStore fun st => { st with deferred := st.deferred.set h true }

/-- The character a link is receiving is to take a framing error (R17). -/
def StationLink.spoil (k : StationLink) (receiving : Bool) : StationLink := { k with spoiled := k.spoiled || receiving }

/-- The same on the line, where nothing is being received while the HD6 drives it (R17, R159). -/
def LineLink.spoil (k : LineLink) (receiving : Bool) : LineLink :=
  { k with spoiled := k.spoiled || (receiving && !k.txEnable) }

/-- A settings write that completed OK puts its record in force (R17). -/
def State.putInForce (s : State) (new : Settings) (w : SettingsCompletion) : State :=
  let s1 := s.modStore fun st => { st with settings := new }
  let s2 := s1.modDisp fun d => { d with shortfall := d.shortfall.map fun n => min n new.reliefThreshold }
  let s3 := { s2 with
    links := PerSix.ofFn fun l => ((s2.links.get l).rejudgeHold new.holdHigh new.holdLow).spoil (w.onLinks.get l)
    line := s2.line.spoil w.onLine }
  s3.forHeadsInOrder State.settleFields

/-- A settings write has completed: a FAILED one leaves a record that the next reset finds unreadable (R17). -/
def Store.markSettings (st : Store) (ok : Bool) : Store := { st with settingsFailed := !ok }

/-- SETTINGS_WRITE_COMPLETE (R17). -/
def execSettingsWriteComplete (w : SettingsCompletion) (s : State) : Host.Outcome State Fault Refusal :=
  match s.runningOp with
  | some (.settingsWrite body) =>
    let ok := writeOk body w.held
    let s1 := s.modStore fun st =>
      ((st.storeRecord Config.settingsSlot body w.held).markSettings ok).finishOp .settingsWrite (resultOf ok)
    .next (if ok then s1.putInForce (decodeSettings body) w else s1)
  | _ => .next s

/-! ## Reads and lookups (R18, R19) -/

/-- A whole recipe record read through the ECC, its errors counted, its slot DAMAGED when it is unreadable (R20, R21). -/
def Store.readRecipe (st : Store) (slot : Nat) (flips : List CellFlip) : Store × Bool × Option (List Byte) :=
  let st1 := st.flip slot flips
  let r := readRecord storedRecipeOk (st1.cells slot)
  let st2 := st1.countRead slot r.1 r.2.isNone
  (if r.2.isNone then st2.damage slot else st2, r)

/-- RECIPE_READ_COMPLETE (R19). -/
def execRecipeReadComplete (flips : List CellFlip) (s : State) : Host.Outcome State Fault Refusal :=
  match s.runningOp with
  | some (.recipeRead slot) =>
    let r := s.store.readRecipe slot flips
    let reply := match r.2.2 with
      | some record => readValidReply slot record
      | none => readDamagedReply slot
    .next ((s.modStore fun _ => r.1.finishRead).formReply reply)
  | _ => .next s

/-- The result of a lookup that read a slot (R18 steps 2 and 3). -/
def lookupResult (maxPower : Nat) (record : Option (List Byte)) : LookupResult :=
  match record with
  | none => .recipeDamaged
  | some bs =>
    let r := decodeRecipe (storedRevision bs) (bs.drop 2)
    if r.segments.any fun g => decide (maxPower < g.ceiling) then .tooStrong r.revision else .good r

/-- LOOKUP_COMPLETE (R18): the read's store effects, then the result to the head (R47). -/
def execLookupComplete (flips : List CellFlip) (s : State) : Host.Outcome State Fault Refusal :=
  match s.store.port with
  | .lookup e slot =>
    let r := s.store.readRecipe slot flips
    let s1 := s.modStore fun _ => { r.1 with port := .idle }
    .next (s1.deliverLookup e (lookupResult (s.fields e.head).maxPower r.2.2) r.2.1)
  | .idle => .next s
  | .scan => .next s
  | .supervisor => .next s

/-! ## The start-up scan (R22, R23) -/

/-- The scan of a recipe slot: its header alone (R22). -/
def Store.scanRecipeSlot (st : Store) (slot : Nat) : Store :=
  match st.nv.getD slot none with
  | none => (st.setStatus slot .empty).setRevision slot 0
  | some cells =>
    let r := readRecord storedHeaderOk (cells.take storedHeaderBytes)
    match r.2 with
    | none => ((st.countRead slot r.1 true).setStatus slot .damaged).setRevision slot 0
    | some hdr =>
      let code := u16At hdr 2
      if (st.slotOf code).isSome then
        ((st.countRead slot r.1 true).setStatus slot .damaged).setRevision slot (storedRevision hdr)
      else
        (((st.countRead slot r.1 false).setStatus slot .valid).setRevision slot (storedRevision hdr)).enterIndex code slot

/-- The scan of the recipe slots in slot order, from an empty index (R22). -/
def Store.scanRecipes (st : Store) : Store :=
  (List.range Config.recipeSlots).foldl Store.scanRecipeSlot { st with index := [] }

/-- The scan of a head's calibration slot (R22). -/
def State.scanCalibration (h : HeadId) (s : State) : State :=
  let slot := calibrationSlotOf h
  let unreadable (s : State) := s.modFront h fun fe => { fe with calibration := Calibration.zero, calValid := false }
  match s.store.nv.getD slot none with
  | none => unreadable s
  | some cells =>
    let r := readRecord storedCalibrationOk cells
    let s1 := s.modStore fun st => st.countRead slot r.1 r.2.isNone
    match r.2 with
    | none => unreadable s1
    | some body => s1.modFront h fun fe => { fe with calibration := decodeCalibration body, calValid := true }

/-- The record of the settings slot as a scan reads it: what a FAILED write left is unreadable, whatever its words (R17). -/
def Store.readSettings (st : Store) (cells : List NvCell) : Bool × Option (List Byte) :=
  let r := readRecord storedSettingsOk cells
  (r.1, if st.settingsFailed then none else r.2)

/-- The scan of the settings slot (R22). -/
def Store.scanSettings (st : Store) : Store :=
  match st.nv.getD Config.settingsSlot none with
  | none => { st with settings := factorySettings, settingsDefaulted := false }
  | some cells =>
    let r := st.readSettings cells
    let st1 := st.countRead Config.settingsSlot r.1 r.2.isNone
    match r.2 with
    | none => { st1 with settings := factorySettings, settingsDefaulted := true }
    | some body => { st1 with settings := decodeSettings body, settingsDefaulted := false }

/-- The bits the scan finds changed. -/
def Store.flipSlots (st : Store) (flips : List SlotFlip) : Store :=
  flips.foldl (fun st f => st.flip f.slot [{ cell := f.cell, mask := f.mask }]) st

/-- The scan in slot order, 0 to 54 (R22). -/
def State.scan (s : State) (flips : List SlotFlip) : State :=
  ((s.modStore fun st => (st.flipSlots flips).scanRecipes).forHeadsInOrder State.scanCalibration).modStore
    Store.scanSettings

/-- A station link starts running: its pause state from the hold input, its hold output judged (R140). -/
def StationLink.startRunning (set : Settings) (k : StationLink) : StationLink :=
  { k with state := .running, paused := k.holdIn }.rejudgeHold set.holdHigh set.holdLow

/-- The settings handed to the blocks at scan completion (R23, R120, R140, R171). Of the two budgets it is the budget setting that
becomes the default budget, as R90 says of this event; the budget in force follows at the next expiry (R86, R91, R105, log entry 24). -/
def State.handOver (s : State) : State :=
  let set := s.store.settings
  { s with
    store := { s.store with inForce := set.heads, deferred := PerSix.const false, port := .idle }
    disp := { s.disp with budgetSetting := set.defaultBudget }
    drives := PerSix.ofFn fun h => (s.drives.get h).command (set.heads.get h).driveType.zero
    links := s.links.map (StationLink.startRunning set)
    sup := { s.sup with mode := .standby, enable := set.heads.map (·.enabledAtPowerOn) } }

/-- START_UP_SCAN_COMPLETE (R23). -/
def execStartUpScanComplete (flips : List SlotFlip) (s : State) : Host.Outcome State Fault Refusal :=
  if s.store.port = .scan then .next (s.scan flips).handOver else .next s

/-! ## RESET (R24) -/

/-- What the slot of an operation broken off by reset holds (R24). -/
def abandonedSlot (left : AbandonedWrite) (former : Option (List NvCell)) (record : List Byte) :
    Option (List NvCell) :=
  match left with
  | .former => former
  | .finished => some (cleanCells record)
  | .damaged held => if (eccRead held).2 = none then some held else former

/-- The memory a reset leaves (R24). -/
def State.memoryAfterReset (s : State) (left : AbandonedWrite) : List (Option (List NvCell)) :=
  let nv := s.store.nv
  let put (slot : Nat) (record : List Byte) := nv.set slot (abandonedSlot left (nv.getD slot none) record)
  match s.runningOp with
  | some (.recipeWrite slot body) => put slot (storedRecipe (s.store.nextRevision slot) body)
  | some (.calibrationWrite h body) => put (calibrationSlotOf h) body
  | some (.settingsWrite body) => put Config.settingsSlot body
  | some (.recipeErase slot) => if left = .finished then nv.set slot none else nv
  | some (.recipeRead _) => nv
  | none => nv

/-- Whether the settings record is still the one a FAILED write left (R17): not where a reset broke off a settings write whose new
contents stand in the slot (R24). -/
def State.settingsFailedAfterReset (s : State) (left : AbandonedWrite) : Bool :=
  match s.runningOp, left with
  | some (.settingsWrite _), .finished => false
  | _, _ => s.store.settingsFailed

/-- RESET (R24): every block in its reset state, the scan on the port; the memory and the hold input pins stay. -/
def execReset (straps : BitVec 5) (cabinet : CabinetState) (left : AbandonedWrite) (s : State) :
    Host.Outcome State Fault Refusal :=
  .next (State.resetWith (s.memoryAfterReset left) (s.settingsFailedAfterReset left) straps cabinet
    (s.links.map (·.holdIn)) s.freeCount s.pending)

/-! ## The supervisor's store commands (1.2, R19) -/

/-- The store's BUSY refusal (R11); its detail byte is a free value (log entry 14). -/
def State.refuseBusy (s : State) : State × CommandOutcome :=
  (s.drawFree, .refused .busy (Config.busyDetail s.freeCount))

/-- WRITE_RECIPE (R3, R4). -/
def performWriteRecipe (payload : List Byte) (s : State) : State × CommandOutcome :=
  let slot := byteAt payload 0
  let body := payload.drop 1
  if s.store.supervisor.isSome then s.refuseBusy
  else match recipeFailure slot body with
    | some field => (s, invalid field)
    | none =>
      match s.store.slotOf (u16At body 0) with
      | some other =>
        if other = slot then (s.acceptOp (.recipeWrite slot body), .success [])
        else (s, .refused .duplicateCode (BitVec.ofNat 8 other))
      | none => (s.acceptOp (.recipeWrite slot body), .success [])

/-- ERASE_RECIPE (R15). -/
def performEraseRecipe (payload : List Byte) (s : State) : State × CommandOutcome :=
  let slot := byteAt payload 0
  if s.store.supervisor.isSome then s.refuseBusy
  else if 47 < slot then (s, invalid 255)
  else (s.acceptOp (.recipeErase slot), .success [])

/-- WRITE_CAL (R5). -/
def performWriteCal (payload : List Byte) (s : State) : State × CommandOutcome :=
  let body := payload.drop 1
  if s.store.supervisor.isSome then s.refuseBusy
  else match headOf (byteAt payload 0) with
    | none => (s, invalid 255)
    | some h =>
      if s.isActive h then (s, .refused .inUse (BitVec.ofNat 8 h.val))
      else match firstFailing (calibrationTests body) with
        | some detail => (s, invalid detail)
        | none =>
          ((s.modFront h fun fe => { fe with calValid := false }).acceptOp (.calibrationWrite h body), .success [])

/-- WRITE_SETTINGS (R6). -/
def performWriteSettings (payload : List Byte) (s : State) : State × CommandOutcome :=
  if s.store.supervisor.isSome then s.refuseBusy
  else match s.lowestActive with
    | some h => (s, .refused .inUse (BitVec.ofNat 8 h.val))
    | none =>
      match firstFailing (settingsTests payload) with
      | some field => (s, invalid field)
      | none => (s.acceptOp (.settingsWrite payload), .success [])

/-- READ_RECIPE (R19): its reply is formed when the read completes, at once for an EMPTY or DAMAGED slot on a free port. -/
def performReadRecipe (payload : List Byte) (s : State) : State × CommandOutcome :=
  let slot := byteAt payload 0
  if s.store.supervisor.isSome then s.refuseBusy
  else if 47 < slot then (s, invalid 255)
  else (s.acceptOp (.recipeRead slot), .forming)

/-- LIST_CODES (R19): the count, then up to 40 entries from the position. -/
def performListCodes (payload : List Byte) (s : State) : State × CommandOutcome :=
  let entries := (s.store.index.drop (byteAt payload 0)).take Config.listCodesMax
  (s, .success (le8 s.store.index.length ++ (entries.map fun e => le16 e.code ++ le8 e.slot).flatten))

/-- READ_CAL (R19). -/
def performReadCal (payload : List Byte) (s : State) : State × CommandOutcome :=
  match headOf (byteAt payload 0) with
  | none => (s, invalid 255)
  | some h =>
    let fe := s.fronts.get h
    (s, .success (le8 h.val ++ leBool fe.calValid ++ fe.calibration.bytes))

/-- READ_SETTINGS (R19). -/
def performReadSettings (_payload : List Byte) (s : State) : State × CommandOutcome :=
  (s, .success (s.store.settings.bytes ++ leHeadSet s.store.deferred))

end Sys2Proof.Machine
end

