-- ==== Sys2Proof/Machine/Station.lean ====
section
/-! DEFINITION. The station links (07_station_links.md): characters, frame units, overrun and discard, the hold output, the
abort-all character, the link service with its requests, and the transmitter. -/

namespace Sys2Proof.Machine

/-! ## Units in the FIFO (R125, R126) -/

/-- A closed unit is complete when it holds the lead, the length, that many payload characters and the check (R125). -/
def unitComplete (u : List FifoChar) : Bool :=
  match u with
  | _ :: len :: _ => u.length == 3 + len.data.toNat
  | _ => false

/-- A unit whose second character, the length, is above 14 (R126). -/
def lengthOutOfRange (u : List FifoChar) : Bool :=
  match u with
  | _ :: len :: _ => decide (14 < len.data.toNat)
  | _ => false

/-- The unit in reception, if any, is closed: no frame in reception, the inter-character timer stopped (R126). -/
def StationLink.closeUnit (k : StationLink) : StationLink :=
  match k.opened with
  | none => k
  | some u => { k with closed := k.closed ++ [u], opened := none, interTimer := none }

/-- The hold output is asserted when the count is at or above the high mark (R130). -/
def StationLink.judgeStored (k : StationLink) (high : Nat) : StationLink :=
  if high ≤ k.fifoCount then { k with holdOut := true } else k

/-- The hold output is released when the count is at or below the low mark (R130). -/
def StationLink.judgeTaken (k : StationLink) (low : Nat) : StationLink :=
  if k.fifoCount ≤ low then { k with holdOut := false } else k

/-- The tag a character is stored with (R124). -/
def tagOf (c : Character) : ErrorTag := if c.framing then .framing else .clean

def fifoCharOf (c : Character) : FifoChar := { data := c.data, mark := c.mark, tag := tagOf c }

/-- The inter-character timer at its full gap limit (R127). -/
def gapTimer (set : Settings) : CharTimer := charTimer Config.stationGapChars set.stationRate

/-- Case 4 of R124: a lead character closes any unit in reception and opens a new one. -/
def StationLink.storeLead (k : StationLink) (set : Settings) (c : Character) : StationLink :=
  { k.closeUnit with opened := some [fifoCharOf c], interTimer := some (gapTimer set) }.judgeStored set.holdHigh

/-- Case 5 of R124: a character of the frame in reception, whose unit may now be closed (R126). -/
def StationLink.storeOther (k : StationLink) (set : Settings) (u : List FifoChar) (c : Character) : StationLink :=
  let u1 := u ++ [fifoCharOf c]
  let k1 := { k with opened := some u1, interTimer := some (gapTimer set) }
  (if unitComplete u1 || lengthOutOfRange u1 then k1.closeUnit else k1).judgeStored set.holdHigh

/-- The newest character of a unit takes the tag OVERRUN_FOLLOW (R128). -/
def tagLast (u : List FifoChar) : List FifoChar := u.modify (u.length - 1) fun c => { c with tag := .overrunFollow }

/-- An overrun begins (R128): the tail of the FIFO is tagged, the unit in reception closed, discard turned on. -/
def StationLink.overrun (k : StationLink) : StationLink :=
  let k1 := match k.opened with
    | some u => { k with opened := some (tagLast u) }
    | none => { k with closed := k.closed.modify (k.closed.length - 1) tagLast }
  { k1.closeUnit with discard := true }

/-- The FIFO already holds 64 characters (R124 case 3). -/
def StationLink.fifoFull (k : StationLink) : Bool := decide (Config.fifoSize ≤ k.fifoCount)

/-- A character that is not the abort-all character, on a RUNNING link (R124 cases 2 to 6, R129). -/
def StationLink.receive (k : StationLink) (set : Settings) (c : Character) : StationLink :=
  if k.discard then
    if c.mark && !k.fifoFull then { k with discard := false }.storeLead set c else k
  else if k.fifoFull then k.overrun
  else if c.mark then k.storeLead set c
  else match k.opened with
    | some u => k.storeOther set u c
    | none => k

/-! ## The abort-all character (R131, R68) -/

/-- A lead character with value 0x3F and no framing error (R124 case 1). -/
def isAbortAll (c : Character) : Bool := c.mark && c.data == 0x3F && !c.framing

/-- The abort-all character at a head (R68): an active cycle of a head the link owns ends STATION_LINE. -/
def State.abortAllHead (l : LinkId) (h : HeadId) (s : State) : State :=
  if (s.fields h).owner = some l then s.endCycle h (some .stationLine) else s

/-- The abort-all character on a link (R131): the unit in reception is closed, then the heads in number order. -/
def State.abortAll (s : State) (l : LinkId) : State :=
  (s.modLink l StationLink.closeUnit).forHeadsInOrder (State.abortAllHead l)

/-- STATION_CHARACTER (R124); a character that new settings came into force during has a framing error (R17). -/
def execStationCharacter (l : LinkId) (c : Character) (s : State) : Host.Outcome State Fault Refusal :=
  match (s.links.get l).state with
  | .halted => .next s
  | .running =>
    let c1 := taken c (s.links.get l).spoiled
    let s1 := s.modLink l fun k => { k with spoiled := false }
    if isAbortAll c1 then .next (s1.abortAll l)
    else .next (s1.modLink l fun k => k.receive s.store.settings c1)

/-- INTER_CHARACTER_TIMER_EXPIRY (R127). -/
def execInterCharacterTimerExpiry (l : LinkId) (s : State) : Host.Outcome State Fault Refusal :=
  match (s.links.get l).interTimer with
  | none => .next s
  | some _ => .next (s.modLink l fun k => { k.closeUnit with interTimer := none })

/-! ## Frames the HD6 sends (R180) -/

def StationFrame.kind : StationFrame → Byte
  | .accept _ _ => 0x20
  | .refuse _ _ => 0x21
  | .state _ _ _ _ _ _ _ _ => 0x22
  | .finished _ _ _ _ => 0x23
  | .linkError _ _ => 0x24

/-- The payload of a frame (Table 11.3). -/
def StationFrame.payload : StationFrame → List Byte
  | .accept head cycle => [head] ++ leWord32 cycle
  | .refuse head reason => [head] ++ le8 reason.code
  | .state head st segment temperature grant cycle result reason =>
    [head] ++ le8 st.code ++ le8 segment ++ le16 temperature ++ le16 grant ++ leWord32 cycle
      ++ le8 (resultCode result) ++ le8 (reasonCode reason)
  | .finished head cycle result reason =>
    le8 head.val ++ leWord32 cycle ++ le8 (resultCode result) ++ le8 (reasonCode reason)
  | .linkError reason lead => le8 reason.code ++ [lead]

/-- The characters of a frame: kind, length, payload, check (R180, R137). -/
def StationFrame.bytes (f : StationFrame) : List Byte :=
  let body := [f.kind, BitVec.ofNat 8 f.payload.length] ++ f.payload
  body ++ [checkByte body]

/-- The frame on the wire: its lead carries the mark bit and the kind (R137). -/
def StationFrame.characters (f : StationFrame) : List Character := asCharacters f.bytes

/-- The character the transmitter is sending (R122, R137). -/
def StationLink.characterInProgress (k : StationLink) : Option Character :=
  match k.txQueue, k.sending with
  | f :: _, some p => f.characters[p]?
  | _, _ => none

/-- Sending starts on a frame at the head of the queue of a link that is not paused (R137). -/
def StationLink.kick (k : StationLink) : StationLink :=
  if k.sending = none ∧ k.txQueue ≠ [] ∧ k.paused = false then { k with sending := some 0 } else k

/-- A frame is placed at the tail of the transmit queue (R136). -/
def StationLink.place (k : StationLink) (f : StationFrame) : StationLink := { k with txQueue := k.txQueue ++ [f] }.kick

def State.placeFrame (s : State) (l : LinkId) (f : StationFrame) : State := s.modLink l fun k => k.place f

/-! ## The link service (R132, R133) -/

/-- A head with its notice set for a cycle of a link. -/
def State.noticeFor (s : State) (l : LinkId) (h : HeadId) : Bool :=
  (s.heads.get h).notice &&
    match (s.heads.get h).ctx with
    | some c => c.link == l
    | none => false

/-- The notice a link serves first: the lowest head number (R132). -/
def State.nextNotice (s : State) (l : LinkId) : Option HeadId := sixInOrder.find? (s.noticeFor l)

/-- A RUNNING link whose transmit queue has a free entry (R132). -/
def StationLink.canPlace (k : StationLink) : Bool :=
  k.state == .running && decide (k.txQueue.length < Config.transmitSize)

/-- A request or the error a taken unit comes to (R133). -/
inductive Judged where
  | start (payload : List Byte)
  | abort (payload : List Byte)
  | release (payload : List Byte)
  | query (payload : List Byte)
  | error (reason : LinkErrorReason)
  deriving DecidableEq, Repr

/-- The payload of a complete unit: its characters after kind and length, less the check. -/
def unitPayload (u : List FifoChar) : List Byte := ((u.drop 2).dropLast).map (·.data)

/-- The request a unit with a good frame is, by its kind and length (Table 7.2 tests 5 and 6). -/
def requestOfUnit (kind : Nat) (payload : List Byte) : Judged :=
  match kind with
  | 0x10 => if payload.length = 7 then .start payload else .error .format
  | 0x11 => if payload.length = 1 then .abort payload else .error .format
  | 0x12 => if payload.length = 1 then .release payload else .error .format
  | 0x13 => if payload.length = 1 then .query payload else .error .format
  | _ => .error .unknownKind

/-- The value of a unit's lead character. -/
def unitLead (u : List FifoChar) : Byte := (u.map (·.data)).headD 0

/-- Judgement of a taken unit (Table 7.2). -/
def judgeUnit (u : List FifoChar) : Judged :=
  if u.any fun c => c.tag == .overrunFollow then .error .overrun
  else if !unitComplete u then .error .format
  else if u.any fun c => c.tag == .framing then .error .check
  else if byteSum (u.map (·.data)) != 0 then .error .check
  else requestOfUnit (unitLead u).toNat (unitPayload u)

/-- The oldest closed unit, when the link's service comes to take it: no notice is set and an entry is free (R132). -/
def State.nextUnit (s : State) (l : LinkId) : Option (List FifoChar) :=
  if (s.links.get l).canPlace = true ∧ s.nextNotice l = none then (s.links.get l).closed.head? else none

/-- The oldest closed unit leaves the FIFO (R132), and the hold output is judged (R130). -/
def State.takeUnit (s : State) (l : LinkId) : State :=
  s.modLink l fun k => { k with closed := k.closed.drop 1 }.judgeTaken s.store.settings.holdLow

/-! ## Requests (R135) -/

/-- The REFUSE of a request (R135): the head byte as the request carried it. -/
def refuseFrame (payload : List Byte) (reason : StationRefusal) : StationFrame := .refuse (payload.headD 0) reason

/-- The cycle number of the context a head holds, 0 when it is IDLE (R135). -/
def State.cycleOf (s : State) (h : HeadId) : Word32 :=
  match (s.heads.get h).ctx with
  | some c => c.cycle
  | none => 0

/-- Condition 6 of Table 3.3. -/
def State.sensorAccepts (s : State) (h : HeadId) : Bool :=
  (s.fronts.get h).sensor == .fresh || (s.sup.mode == .service && (s.fields h).source == .replay)

/-- Conditions 1 to 8 of Table 3.3 with their reasons, in checking order. -/
def State.startConditions (s : State) (l : LinkId) (h : HeadId) : List (StationRefusal × Bool) :=
  let driven := s.sup.mode == .production
  [ (.mode, driven || s.sup.mode == .service),
    (.notOwner, (s.fields h).owner == some l),
    (.headDisabled, s.sup.enable.get h),
    (.busy, (s.heads.get h).state == .idle),
    (.calInvalid, (s.fronts.get h).calValid),
    (.noSensor, s.sensorAccepts h),
    (.cabinetDown, !driven || s.cabinet == .ready),
    (.driveNotReady, !driven || (s.drives.get h).state == .ready) ]

/-- The reason of the first of conditions 1 to 8 that fails (R45). -/
def State.startFailure (s : State) (l : LinkId) (h : HeadId) : Option StationRefusal :=
  ((s.startConditions l h).find? fun t => !t.2).map Prod.fst

/-- The next cycle number: the counter plus 1, from 4294967295 to 1 (R46, R88). -/
def nextCycle (counter : Word32) : Word32 := if counter + 1 = 0 then 1 else counter + 1

/-- The context created at acceptance (Table 3.2). -/
def Context.created (cycle joint coil : Word32) (link : LinkId) (code : Nat) (start : Word32) (dry : Bool) : Context :=
  { cycle := cycle, joint := joint, coil := coil, link := link, code := code, start := start, dry := dry
    recipe := none, revision := 0, segIndex := 0, clock := none, origin := 0, inBand := 0, prev := none
    lagStart := none, peak := 0, segEnergy := 0, totalEnergy := 0, summaries := [], loop := LoopState.created
    cycleTimer := none, flags := CycleFlags.initial dry, result := none, reason := none }

/-- The acceptance of a START (R46), its seven steps in order, with the reservation in buffer `buf`. -/
def State.acceptStart (s : State) (l : LinkId) (h : HeadId) (code : Nat) (joint : Word32) (buf : BufferId) : State :=
  let dry := s.sup.mode == .service
  let cycle := nextCycle s.disp.cycleCounter
  let s1 := s.modTrace fun t => t.reserve h buf cycle
  let s2 := s1.modDisp fun d => { d with cycleCounter := cycle }
  let c := Context.created cycle joint s.sup.coil l code s.disp.timestamp dry
  let s3 := s2.modHead h fun hd => { hd with ctx := some c }
  let s4 := if dry && (s.fields h).source == .replay then s3.beginReplay h else s3
  let s5 := s4.modHead h fun hd => { hd with state := .lookup }
  let s6 := s5.placeFrame l (.accept (BitVec.ofNat 8 h.val) cycle)
  s6.arriveLookup { head := h, cycle := cycle, code := code }

/-- A START with good fields (R45): conditions 1 to 8, then condition 9, whose judgement may change buffer states (R144). -/
def State.judgeStart (s : State) (l : LinkId) (payload : List Byte) (h : HeadId) (code : Nat) (joint : Word32) : State :=
  match s.startFailure l h with
  | some reason => s.placeFrame l (refuseFrame payload reason)
  | none =>
    let j := s.trace.judgeStart
    let s1 := s.modTrace fun _ => j.1
    match j.2 with
    | none => s1.placeFrame l (refuseFrame payload .traceFull)
    | some buf => s1.acceptStart l h code joint buf

/-- A START request at the request handling of its link (R45): its fields first. -/
def State.handleStart (s : State) (l : LinkId) (payload : List Byte) : State :=
  let code := u16At payload 1
  match headOf (byteAt payload 0) with
  | none => s.placeFrame l (refuseFrame payload .badRequest)
  | some h =>
    if code = 0 ∨ code = 65535 then s.placeFrame l (refuseFrame payload .badRequest)
    else s.judgeStart l payload h code (BitVec.ofNat 32 (u32At payload 3))

/-- START (R45). -/
def execStart (l : LinkId) (s : State) : Host.Outcome State Fault Refusal :=
  match s.nextUnit l with
  | none => .next s
  | some u =>
    match judgeUnit u with
    | .start payload => .next ((s.takeUnit l).handleStart l payload)
    | _ => .next s

/-- An ABORT request (R67): ACCEPT with the number of the cycle the head held when it was taken (R135). -/
def State.handleAbort (s : State) (l : LinkId) (payload : List Byte) : State :=
  match headOf (byteAt payload 0) with
  | none => s.placeFrame l (refuseFrame payload .badRequest)
  | some h =>
    if (s.fields h).owner ≠ some l then s.placeFrame l (refuseFrame payload .notOwner)
    else (s.endCycle h (some .station)).placeFrame l (.accept (payload.headD 0) (s.cycleOf h))

/-- ABORT (R67). -/
def execAbort (l : LinkId) (s : State) : Host.Outcome State Fault Refusal :=
  match s.nextUnit l with
  | none => .next s
  | some u =>
    match judgeUnit u with
    | .abort payload => .next ((s.takeUnit l).handleAbort l payload)
    | _ => .next s

/-- A head is released (R69): context deleted, deferred fields applied, IDLE. -/
def State.releaseHead (s : State) (h : HeadId) : State :=
  let s1 := s.modHead h fun hd => { hd with ctx := none }
  let s2 := if s.store.deferred.get h then s1.applyFields h else s1
  s2.modHead h fun hd => { hd with state := .idle }

/-- A RELEASE request (R69). -/
def State.handleRelease (s : State) (l : LinkId) (payload : List Byte) : State :=
  match headOf (byteAt payload 0) with
  | none => s.placeFrame l (refuseFrame payload .badRequest)
  | some h =>
    if (s.fields h).owner ≠ some l then s.placeFrame l (refuseFrame payload .notOwner)
    else if (s.heads.get h).state = .done ∨ (s.heads.get h).state = .faulted then
      (s.releaseHead h).placeFrame l (.accept (payload.headD 0) (s.cycleOf h))
    else s.placeFrame l (refuseFrame payload .state)

/-- RELEASE (R69). -/
def execRelease (l : LinkId) (s : State) : Host.Outcome State Fault Refusal :=
  match s.nextUnit l with
  | none => .next s
  | some u =>
    match judgeUnit u with
    | .release payload => .next ((s.takeUnit l).handleRelease l payload)
    | _ => .next s

/-- The STATE reply for a head (Table 3.7). -/
def State.stateFrame (s : State) (headByte : Byte) (h : HeadId) : StationFrame :=
  let hd := s.heads.get h
  let t := (s.fronts.get h).temperature.getD 0
  let grant := match hd.state with
    | .heating => (s.disp.grant.get h).grant
    | _ => 0
  match hd.ctx with
  | none => .state headByte hd.state 0 t grant 0 none none
  | some c => .state headByte hd.state c.segIndex t grant c.cycle c.result c.reason

/-- A QUERY request (R70): answered for any head; nothing else changes. -/
def State.handleQuery (s : State) (l : LinkId) (payload : List Byte) : State :=
  match headOf (byteAt payload 0) with
  | none => s.placeFrame l (refuseFrame payload .badRequest)
  | some h => s.placeFrame l (s.stateFrame (payload.headD 0) h)

/-- QUERY (R70). -/
def execQuery (l : LinkId) (s : State) : Host.Outcome State Fault Refusal :=
  match s.nextUnit l with
  | none => .next s
  | some u =>
    match judgeUnit u with
    | .query payload => .next ((s.takeUnit l).handleQuery l payload)
    | _ => .next s

/-- LINK_ERROR (R134): the unit is discarded, and answered with the reason and its lead's value. -/
def execLinkError (l : LinkId) (s : State) : Host.Outcome State Fault Refusal :=
  match s.nextUnit l with
  | none => .next s
  | some u =>
    match judgeUnit u with
    | .error reason => .next ((s.takeUnit l).placeFrame l (.linkError reason (unitLead u)))
    | _ => .next s

/-- FINISHED (R71, R132): the link queues the FINISHED frame of the lowest head with its notice set, and clears the flag. -/
def execFinished (l : LinkId) (s : State) : Host.Outcome State Fault Refusal :=
  if (s.links.get l).canPlace then
    match s.nextNotice l with
    | none => .next s
    | some h =>
      match (s.heads.get h).ctx with
      | none => .next s
      | some c =>
        .next ((s.modHead h fun hd => { hd with notice := false }).placeFrame l (.finished h c.cycle c.result c.reason))
  else .next s

/-! ## The transmitter (R136 to R138) -/

/-- Whether the last character of the oldest frame can be sent: the link is not paused, or that character was already
being sent (R138). -/
def StationLink.frameCanEnd (k : StationLink) : Bool :=
  match k.txQueue, k.sending with
  | f :: _, some p => k.state == .running && (!k.paused || p + 1 == f.characters.length)
  | _, _ => false

/-- The oldest frame has been sent: its entry is freed, and the frame behind it continues (R137). -/
def StationLink.frameSent (k : StationLink) : StationLink := { k with txQueue := k.txQueue.drop 1, sending := none }.kick

/-- TRANSMIT_FRAME_SENT (R137). The service the freed entry allows is taken by the commands of R132 (log entry 5). -/
def execTransmitFrameSent (l : LinkId) (s : State) : Host.Outcome State Fault Refusal :=
  if (s.links.get l).frameCanEnd then .next (s.modLink l StationLink.frameSent) else .next s

/-- How far the transmitter has come in the oldest frame, when its character in progress is known (log entry 8). -/
def StationLink.progress (k : StationLink) (position : Nat) : Option Nat :=
  match k.txQueue, k.sending with
  | f :: _, some p => some (max p (min position (f.characters.length - 1)))
  | _, p => p

/-- Where a release lets sending resume (R138): with the character after the one the pause let finish, which is the next of the same
frame. A release so soon that this one is still being sent, by the position it carries, leaves it in progress (log entry 8). The last
character of a frame has none after it: the frame ends by TRANSMIT_FRAME_SENT. -/
def StationLink.resume (k : StationLink) (position : Nat) : Option Nat :=
  match k.txQueue, k.sending with
  | f :: _, some p => some (if p < position ∧ p + 1 < f.characters.length then p + 1 else p)
  | _, p => p

/-- The hold input's level at a link (R138): while RUNNING, an assertion pauses it, with the character in progress to be
completed; a release lets it send on with the next character. The pin's level is kept for the completion of the scan (R140). -/
def StationLink.setHold (k : StationLink) (asserted : Bool) (position : Nat) : StationLink :=
  let k1 := { k with holdIn := asserted }
  match k.state with
  | .halted => k1
  | .running =>
    if asserted then { k1 with paused := true, sending := if k.paused then k.sending else k.progress position }
    else { k1 with paused := false, sending := if k.paused then k.resume position else k.sending }.kick

/-- HOLD_INPUT_CHANGE (R138). -/
def execHoldInputChange (l : LinkId) (asserted : Bool) (position : Nat) (s : State) :
    Host.Outcome State Fault Refusal :=
  .next (s.modLink l fun k => k.setHold asserted position)

end Sys2Proof.Machine
end

