-- ==== Sys2Proof/Machine/Supervisor.lean ====
section
/-! DEFINITION. The supervisor commands of the supervision unit, the dispatcher, the trace unit and the replay table
(09_line_link_modes_and_supervision.md, 8.5, R90): what performing each does once it is taken. -/

namespace Sys2Proof.Machine

/-! ## STATUS (R167) -/

/-- The supervision items of STATUS (R167), with the strap address and whether the link is listen-only. -/
def State.statusSupervision (s : State) : List Byte :=
  le8 s.sup.mode.code ++ leBool s.sup.restart ++ leWord32 s.sup.coil ++ le16 s.sup.indexCount.toNat
    ++ leHeadSet s.sup.enable ++ le8 s.line.strap.toNat ++ leBool (s.line.strap == 0)

/-- The store state STATUS reports (R11): IDLE 0, WAITING 1, BUSY 2; BUSY during the scan (R25). -/
def Store.stateCode (st : Store) : Nat :=
  if st.port = .scan then 2
  else match st.supervisor with
    | none => 0
    | some o => if o.started then 2 else 1

/-- The last error as slot and kind; none is 0xFF twice (R179, log entry 17). -/
def lastErrorBytes : Option (Nat × ErrorKind) → List Byte
  | some (slot, kind) => le8 slot ++ le8 kind.code
  | none => le8 0xFF ++ le8 0xFF

/-- The store items of STATUS (R25). -/
def Store.statusItems (st : Store) : List Byte :=
  le8 st.stateCode ++ le8 (opKindCode st.lastOpKind) ++ le8 (opResultCode st.lastOpResult) ++ le16 st.corrected
    ++ le16 st.uncorrectable ++ lastErrorBytes st.lastError ++ leBool st.settingsDefaulted ++ le8 st.index.length

/-- The dispatcher items of STATUS (Table 5.2). -/
def Dispatcher.statusItems (d : Dispatcher) : List Byte :=
  leWord32 d.timestamp ++ leWord32 d.cycleCounter ++ le8 d.period ++ le16 d.budgetSetting ++ le16 d.budget
    ++ le16 d.lastTotal ++ le8 d.pointer.val

/-- The items of a station link in STATUS (Table 7.4). -/
def StationLink.statusItems (k : StationLink) : List Byte :=
  le8 k.state.code ++ le8 k.fifoCount ++ le8 k.closed.length ++ le8 k.txQueue.length ++ leBool k.holdOut
    ++ leBool k.paused ++ leBool k.discard

/-- STATUS (R167). -/
def performStatus (_payload : List Byte) (s : State) : State × CommandOutcome :=
  (s, .success (s.statusSupervision ++ s.store.statusItems ++ s.disp.statusItems ++ le8 (cabinetCode s.cabinet)
    ++ (s.links.map StationLink.statusItems).toList.flatten))

/-! ## Budget, mode, restart flag, enables -/

/-- SET_BUDGET (R90): clamped to 2400; the reply carries the setting as taken. -/
def performSetBudget (payload : List Byte) (s : State) : State × CommandOutcome :=
  let v := min (u16At payload 0) Config.maxBudget
  (s.modDisp fun d => { d with budgetSetting := v }, .success (le16 v))

def State.setModeTo (s : State) (m : Mode) : State := s.modSup fun u => { u with mode := m }

/-- The detail byte that names the mode (R165, R169). -/
def modeDetail (m : Mode) : Byte := BitVec.ofNat 8 m.code

/-- A mode change that succeeds: the reply carries the mode after it (R169). -/
def modeSuccess (s : State) : State × CommandOutcome := (s, .success (le8 s.sup.mode.code))

/-- A refused SET_MODE (R169): nothing changes, the detail is the mode. -/
def State.refuseMode (s : State) (reason : LineRefusal) : State × CommandOutcome := (s, .refused reason (modeDetail s.sup.mode))

/-- SERVICE to STANDBY at a head (R65): an active dry cycle ends MODE. -/
def State.endDry (h : HeadId) (s : State) : State := if s.isDry h then s.endCycle h (some .mode) else s

/-- SET_MODE with target STANDBY (Table 9.3). -/
def State.toStandby (s : State) : State × CommandOutcome :=
  match s.sup.mode with
  | .standby => modeSuccess s
  | .production => modeSuccess (s.setModeTo (if s.anyActive then .draining else .standby))
  | .draining => modeSuccess s
  | .service => modeSuccess ((s.setModeTo .standby).forHeads State.endDry)
  | .starting => s.refuseMode .starting

/-- SET_MODE with target PRODUCTION (Table 9.3). -/
def State.toProduction (s : State) : State × CommandOutcome :=
  match s.sup.mode with
  | .standby => if s.sup.restart then s.refuseMode .restartPending else modeSuccess (s.setModeTo .production)
  | .production => modeSuccess s
  | .draining => modeSuccess (s.setModeTo .production)
  | .service => s.refuseMode .mode
  | .starting => s.refuseMode .starting

/-- SET_MODE with target SERVICE (Table 9.3). -/
def State.toService (s : State) : State × CommandOutcome :=
  match s.sup.mode with
  | .standby => modeSuccess (s.setModeTo .service)
  | .production => s.refuseMode .mode
  | .draining => s.refuseMode .busy
  | .service => modeSuccess s
  | .starting => s.refuseMode .starting

/-- SET_MODE (R169): targets STANDBY 1, PRODUCTION 2 and SERVICE 4; any other is INVALID, detail 0. -/
def performSetMode (payload : List Byte) (s : State) : State × CommandOutcome :=
  match byteAt payload 0 with
  | 1 => s.toStandby
  | 2 => s.toProduction
  | 4 => s.toService
  | _ => (s, invalid 0)

/-- ACK_RESTART (R172). -/
def performAckRestart (_payload : List Byte) (s : State) : State × CommandOutcome :=
  (s.modSup fun u => { u with restart := false }, .success (leBool false))

def State.setEnable (s : State) (h : HeadId) (on : Bool) : State := s.modSup fun u => { u with enable := u.enable.set h on }

/-- A head's enable is set (R173): off ends its active cycle DISABLED. -/
def State.enableHead (s : State) (h : HeadId) (on : Bool) : State :=
  if on then s.setEnable h true else (s.setEnable h false).endCycle h (some .disabled)

/-- HEAD_ENABLE (R173). A head above 5 is refused before a bad value (log entry 32). -/
def performHeadEnable (payload : List Byte) (s : State) : State × CommandOutcome :=
  match headOf (byteAt payload 0) with
  | none => (s, invalid 255)
  | some h =>
    if 1 < byteAt payload 1 then (s, invalid 1)
    else
      let s1 := s.enableHead h (byteAt payload 1 == 1)
      (s1, .success (leHeadSet s1.sup.enable))

/-! ## CLEAR (R174) -/

/-- A station link is emptied (R141). -/
def StationLink.clear (k : StationLink) : StationLink :=
  { k with closed := [], opened := none, interTimer := none, discard := false, holdOut := false, txQueue := [], sending := none }

/-- A head at CLEAR (R65): its active cycle ends CLEARED. -/
def State.clearHead (h : HeadId) (s : State) : State := s.endCycle h (some .cleared)

/-- CLEAR, steps 1 to 3 (R174). -/
def State.clear (s : State) : State :=
  (State.forHeads { s with links := s.links.map StationLink.clear } State.clearHead).setModeTo .standby

/-- CLEAR (R174). -/
def performClear (_payload : List Byte) (s : State) : State × CommandOutcome := modeSuccess s.clear

/-! ## READ_HEAD (R168) -/

/-- The items of Table 3.7 in READ_HEAD. -/
def Head.readItems (hd : Head) : List Byte :=
  match hd.ctx with
  | none => le8 hd.state.code ++ leWord32 0 ++ le8 0 ++ le8 0 ++ le8 0
  | some c =>
    le8 hd.state.code ++ leWord32 c.cycle ++ le8 c.segIndex ++ le8 (resultCode c.result) ++ le8 (reasonCode c.reason)

/-- The front end items of READ_HEAD (Table 2.3), the temperature-present indication after the temperature (log entry 17). -/
def FrontEnd.readItems (fe : FrontEnd) : List Byte :=
  le16 (fe.temperature.getD 0) ++ leBool fe.temperature.isSome ++ le8 (sampleStatusCode fe.lastStatus)
    ++ le8 fe.sensor.code ++ leBool fe.calValid ++ leBool fe.replayActive ++ le8 fe.replayPos

/-- The loop state a head reads as: a head with no context as at creation (R73, R85). -/
def Head.loopState (hd : Head) : LoopState :=
  match hd.ctx with
  | some c => c.loop
  | none => LoopState.created

/-- The power loop items of READ_HEAD (Table 4.2). -/
def State.loopItems (s : State) (h : HeadId) : List Byte :=
  let l := (s.heads.get h).loopState
  let request := match s.disp.request.get h with
    | some e => e.request
    | none => 0
  le16 request ++ le16 (s.disp.grant.get h).served ++ le16 l.lastSetpoint ++ leSigned16 l.lastError
    ++ leSigned16 (integralTerm l.accumulator) ++ le8 l.freeze.code

/-- The command output as a value: the level, or 1 for ON and 0 for OFF. -/
def DriveCommand.value : DriveCommand → Nat
  | .level p => p
  | .gate on => if on then 1 else 0

/-- The command output in READ_HEAD (R179, Table 11.1): a level in two bytes; the output of a BURST head, a coded item, in one. -/
def DriveCommand.outputBytes : DriveCommand → List Byte
  | .level p => le16 p
  | .gate on => leBool on

/-- The drive items of READ_HEAD (Table 6.2). -/
def DriveUnit.readItems (u : DriveUnit) (ty : DriveType) : List Byte :=
  le8 ty.code ++ u.output.outputBytes ++ le8 u.state.code ++ le16 u.onTime ++ leBool u.windowStart.isSome

/-- READ_HEAD (R168). -/
def performReadHead (payload : List Byte) (s : State) : State × CommandOutcome :=
  match headOf (byteAt payload 0) with
  | none => (s, invalid 255)
  | some h =>
    (s, .success ((s.heads.get h).readItems ++ leBool (s.sup.enable.get h) ++ le8 (ownerCode (s.fields h).owner)
      ++ leBool (s.store.deferred.get h) ++ (s.fronts.get h).readItems ++ s.loopItems h
      ++ le16 (s.disp.grant.get h).grant ++ le8 (s.disp.shortfall.get h)
      ++ (s.drives.get h).readItems (s.fields h).driveType))

/-! ## Trace commands (8.5) -/

/-- The items of a buffer in TRACE_INFO (R151). -/
def TraceBuffer.infoItems (x : TraceBuffer) : List Byte :=
  le8 x.state.code ++ le16 x.used ++ le16 x.reserved ++ le8 x.count ++ leWord32 x.first ++ leWord32 x.last

/-- The buffer of a head's reservation: the code a command names it by (8.5), 0xFF for none (R179). That a reply uses this code is
the model's choice (log entry 31). -/
def reservationCode : Option Reservation → Nat
  | some r => r.buffer.code
  | none => 0xFF

/-- TRACE_INFO (R151). -/
def performTraceInfo (_payload : List Byte) (s : State) : State × CommandOutcome :=
  (s, .success (s.trace.a.infoItems ++ s.trace.b.infoItems
    ++ (s.trace.reservation.map fun r => le8 (reservationCode r)).toList.flatten))

/-- A record as READ_TRACE sends it: each word least significant byte first (R152). -/
def recordBytes (words : List Word16) : List Byte := (words.map fun w => le16 w.toNat).flatten

/-- Whole records in order while their bytes come to no more than `room` (R152). -/
def takeRecords : List (List Word16) → Nat → List Byte
  | [], _ => []
  | w :: ws, room => if 2 * w.length ≤ room then recordBytes w ++ takeRecords ws (room - 2 * w.length) else []

/-- READ_TRACE (R152). -/
def performReadTrace (payload : List Byte) (s : State) : State × CommandOutcome :=
  match bufferOf (byteAt payload 0) with
  | none => (s, invalid 255)
  | some i =>
    let x := s.trace.get i
    let index := u16At payload 1
    if x.count ≤ index then (s, .refused .noRecord (BitVec.ofNat 8 x.count))
    else (s, .success (takeRecords (x.records.drop index) Config.readTraceBytes))

/-- The states of both buffers (R153, R154). -/
def TraceUnit.stateBytes (t : TraceUnit) : List Byte := le8 t.a.state.code ++ le8 t.b.state.code

/-- A FULL buffer released (R153): emptied, and FILLING when the other is not. -/
def TraceUnit.release (t : TraceUnit) (i : BufferId) : TraceUnit :=
  t.set i (TraceBuffer.blank (if (t.get i.other).state = .filling then .empty else .filling))

/-- RELEASE_TRACE (R153). -/
def performReleaseTrace (payload : List Byte) (s : State) : State × CommandOutcome :=
  match bufferOf (byteAt payload 0) with
  | none => (s, invalid 255)
  | some i =>
    if (s.trace.get i).state = .full then
      let s1 := s.modTrace fun t => t.release i
      (s1, .success s1.trace.stateBytes)
    else (s, .refused .notFull (BitVec.ofNat 8 (s.trace.get i).state.code))

/-- FLUSH_TRACE on the trace unit (R154). -/
def TraceUnit.flush (t : TraceUnit) : TraceUnit :=
  match t.filling with
  | none => t
  | some i => if (t.get i).count = 0 ∧ (t.get i).reserved = 0 then t else t.closeFilling i

/-- FLUSH_TRACE (R154). -/
def performFlushTrace (_payload : List Byte) (s : State) : State × CommandOutcome :=
  let s1 := s.modTrace TraceUnit.flush
  (s1, .success s1.trace.stateBytes)

/-! ## LOAD_REPLAY (R177) -/

/-- Entry `k` of a LOAD_REPLAY payload: its raw count and status byte (Table 11.4). -/
def replayRaw (payload : List Byte) (k : Nat) : Word16 := BitVec.ofNat 16 (u16At payload (3 + 3 * k))

def replayStatus (payload : List Byte) (k : Nat) : Option SampleStatus := sampleStatusOf (byteAt payload (5 + 3 * k))

/-- The entries a payload holds (R181). -/
def replayHeld (payload : List Byte) : Nat := (payload.length - 3) / 3

/-- Tests 2 to 5 of R177 with their details, in order. -/
def replayTests (payload : List Byte) : List (Nat × Bool) :=
  let offset := u16At payload 0
  let count := byteAt payload 2
  [ (0, decide (offset ≤ 255)),
    (1, within 1 40 count && count == replayHeld payload),
    (0, decide (offset + count ≤ 256)) ]
    ++ (List.range count).map fun k => (2 + k, (replayStatus payload k).isSome)

/-- The entries a payload carries. -/
def replayEntriesOf (payload : List Byte) : List ReplayEntry :=
  (List.range (byteAt payload 2)).map fun k =>
    { raw := replayRaw payload k, status := (replayStatus payload k).getD .low }

/-- A table with entries written from an offset on, the others as they were (R177). -/
def writeReplay (table : List ReplayEntry) (offset : Nat) (entries : List ReplayEntry) : List ReplayEntry :=
  table.take offset ++ entries ++ table.drop (offset + entries.length)

/-- LOAD_REPLAY (R177). -/
def performLoadReplay (payload : List Byte) (s : State) : State × CommandOutcome :=
  match s.lowestActive with
  | some h => (s, .refused .inUse (BitVec.ofNat 8 h.val))
  | none =>
    match firstFailing (replayTests payload) with
    | some detail => (s, invalid detail)
    | none =>
      (s.modSup fun u => { u with replayTable := writeReplay u.replayTable (u16At payload 0) (replayEntriesOf payload) },
        .success (le16 (u16At payload 0) ++ le8 (byteAt payload 2)))

end Sys2Proof.Machine
end

