-- ==== Sys2Proof/Machine/Line.lean ====
section
/-! DEFINITION. The line link (09_line_link_modes_and_supervision.md): frame reception and routing, the taking and gating of
commands, the pending reply, the index snoop; and the meaning of each supervisor command as a whole frame. -/

namespace Sys2Proof.Machine

/-! ## The supervisor commands (Table 9.2, Table 11.4) -/

/-- The supervisor commands. -/
inductive CommandKind where
  | status | setBudget | setMode | ackRestart | headEnable | clear | readHead | readRecipe | listCodes | readCal
  | readSettings | writeRecipe | eraseRecipe | writeCal | writeSettings | traceInfo | readTrace | releaseTrace
  | flushTrace | loadReplay
  deriving DecidableEq, Repr

/-- Command codes (Table 11.4). -/
def CommandKind.code : CommandKind → Byte
  | .status => 0x01 | .setBudget => 0x02 | .setMode => 0x03 | .ackRestart => 0x04 | .headEnable => 0x05
  | .clear => 0x06 | .readHead => 0x08 | .readRecipe => 0x10 | .listCodes => 0x11 | .readCal => 0x12
  | .readSettings => 0x13 | .writeRecipe => 0x18 | .eraseRecipe => 0x19 | .writeCal => 0x1A | .writeSettings => 0x1B
  | .traceInfo => 0x20 | .readTrace => 0x21 | .releaseTrace => 0x22 | .flushTrace => 0x23 | .loadReplay => 0x28

/-- Every supervisor command, in the order of Table 9.2. -/
def CommandKind.all : List CommandKind :=
  [.status, .setBudget, .setMode, .ackRestart, .headEnable, .clear, .readHead, .readRecipe, .listCodes, .readCal,
    .readSettings, .writeRecipe, .eraseRecipe, .writeCal, .writeSettings, .traceInfo, .readTrace, .releaseTrace,
    .flushTrace, .loadReplay]

/-- The command a kind character names (R165 test 1). -/
def commandOf (kind : Byte) : Option CommandKind := CommandKind.all.find? fun k => k.code == kind

/-- Whether a payload length is the length of the kind (R165 test 2, Table 11.4). -/
def CommandKind.lengthOk (k : CommandKind) (n : Nat) : Bool :=
  match k with
  | .status => n == 0 | .setBudget => n == 2 | .setMode => n == 1 | .ackRestart => n == 0 | .headEnable => n == 2
  | .clear => n == 0 | .readHead => n == 1 | .readRecipe => n == 1 | .listCodes => n == 1 | .readCal => n == 1
  | .readSettings => n == 0
  | .writeRecipe => within 33 124 n && (n - 20) % 13 == 0
  | .eraseRecipe => n == 1 | .writeCal => n == 37 | .writeSettings => n == 65
  | .traceInfo => n == 0 | .readTrace => n == 3 | .releaseTrace => n == 1 | .flushTrace => n == 0
  | .loadReplay => within 6 123 n && n % 3 == 0

/-- Commands the mode STARTING lets through (R165 test 3). -/
def CommandKind.inStarting : CommandKind → Bool
  | .status => true
  | .setBudget => true
  | _ => false

/-- The mode gate outside STARTING (Table 9.2). -/
def CommandKind.gate (k : CommandKind) (m : Mode) : Bool :=
  match k with
  | .writeSettings => m == .standby || m == .service
  | .loadReplay => m == .service
  | _ => true

/-- Tests 2 to 4 of R165: the refusal of the first that fails. -/
def gateFailure (k : CommandKind) (n : Nat) (m : Mode) : Option (LineRefusal × Byte) :=
  if !k.lengthOk n then some (.format, k.code)
  else if m = .starting ∧ k.inStarting = false then some (.starting, 0)
  else if !k.gate m then some (.mode, modeDetail m)
  else none

/-! ## Taking a command (R163) -/

/-- The turnaround timer at its full delay (R163, R164), by the settings in force when the frame completes (log entry 33). -/
def State.turnaroundTimer (s : State) : CharTimer := charTimer s.store.settings.turnaround s.store.settings.lineRate

/-- A reply is owed and the turnaround timer starts (R163). -/
def State.owe (s : State) : State :=
  let t := s.turnaroundTimer
  s.modLine fun k => { k with reply := .forming, turnaround := some t }

/-- The reply that an outcome gives is formed; an operation's reply waits for it (R163, R164). -/
def concludeCommand (kind : Byte) (r : State × CommandOutcome) : State :=
  match r.2 with
  | .success payload => r.1.formReply (successReply kind payload)
  | .refused reason detail => r.1.formReply (refusedReply reason detail)
  | .forming => r.1

/-- A command taken: gated by R165, then performed by the rule that owns it, its reply formed. -/
def takeCommand (k : CommandKind) (perform : List Byte → State → State × CommandOutcome) (payload : List Byte)
    (s : State) : State :=
  concludeCommand k.code
    (match gateFailure k payload.length s.sup.mode with
     | some (reason, detail) => (s.owe, .refused reason detail)
     | none => perform payload s.owe)

/-- What performs each command (Table 9.2). -/
def CommandKind.perform : CommandKind → List Byte → State → State × CommandOutcome
  | .status => performStatus
  | .setBudget => performSetBudget
  | .setMode => performSetMode
  | .ackRestart => performAckRestart
  | .headEnable => performHeadEnable
  | .clear => performClear
  | .readHead => performReadHead
  | .readRecipe => performReadRecipe
  | .listCodes => performListCodes
  | .readCal => performReadCal
  | .readSettings => performReadSettings
  | .writeRecipe => performWriteRecipe
  | .eraseRecipe => performEraseRecipe
  | .writeCal => performWriteCal
  | .writeSettings => performWriteSettings
  | .traceInfo => performTraceInfo
  | .readTrace => performReadTrace
  | .releaseTrace => performReleaseTrace
  | .flushTrace => performFlushTrace
  | .loadReplay => performLoadReplay

/-- A frame whose kind names no supervisor command is taken and refused UNKNOWN_KIND, detail the kind (R165). -/
def takeUnknown (kind : Byte) (s : State) : State := concludeCommand kind (s.owe, .refused .unknownKind kind)

/-- A command frame with a good check addressed to the HD6 (R163): taken when no reply is pending, else discarded. -/
def State.commandFrame (s : State) (kind : Byte) (payload : List Byte) : State :=
  if s.line.reply = .none then
    match commandOf kind with
    | some k => takeCommand k k.perform payload s
    | none => takeUnknown kind s
  else s

/-! ## The index snoop (R162, R175, R176) -/

/-- An INDEX frame acted on (R176): serial, count, then every head. -/
def State.indexEvent (s : State) (serial : Word32) : State :=
  State.forHeads (s.modSup fun u => { u with coil := serial, indexCount := u.indexCount + 1 }) fun h t => t.indexHead h

/-- Snoop is on (R162), by the indexer address in force when the frame completes (log entry 33). -/
def State.snoopOn (s : State) : Bool := s.store.settings.indexer != s.line.strap.toNat && s.sup.mode != .starting

/-- A frame routed to the index snoop (R175): kind 0x51 and length 4, or ignored. -/
def State.snoop (s : State) (kind : Byte) (payload : List Byte) : State :=
  if kind = 0x51 ∧ payload.length = 4 then s.indexEvent (BitVec.ofNat 32 (u32At payload 0)) else s

/-- A complete frame with a good check routed by its address (R162). -/
def State.routeFrame (s : State) (address : Nat) (kind : Byte) (payload : List Byte) : State :=
  if s.snoopOn = true ∧ address = s.store.settings.indexer then s.snoop kind payload
  else if s.line.strap ≠ 0 ∧ address = s.line.strap.toNat then s.commandFrame kind payload
  else s

/-! ## Reception (R161) -/

/-- No frame in reception, and the frame timer stopped. -/
def LineLink.dropFrame (k : LineLink) : LineLink := { k with rx := none, frameTimer := none }

/-- A frame whose address character takes a framing error is lost (R17, R161): no frame is in reception after it. -/
def LineLink.loseFrame (k : LineLink) : LineLink := { k.dropFrame with spoiled := false }

/-- A frame as a whole (log entry 4): lost while the HD6 drives the line (R159) or with its address character (R17), else any
frame in reception is dropped (R161) and this one routed. So a frame beside the end of a reply is taken when REPLY_SENT comes first
and lost when it comes first itself (R163); that the transmit enable is judged at that moment alone is log entry 37. -/
def State.wholeFrame (s : State) (address : Nat) (kind : Byte) (payload : List Byte) : State :=
  if s.line.txEnable then s
  else if s.line.spoiled then s.modLine LineLink.loseFrame
  else (s.modLine LineLink.dropFrame).routeFrame address kind payload

/-- The frame timer at its full length (R161). -/
def lineGapTimer (set : Settings) : CharTimer := charTimer Config.lineGapChars set.lineRate

/-- A frame in reception has its expected size of 4 plus its length (R161). -/
def lineFrameFull (cs : List Byte) : Bool := decide (4 ≤ cs.length) && cs.length == 4 + byteAt cs 2

/-- The length character of a frame, just stored, is above 128 (R161). -/
def lineLengthBad (cs : List Byte) : Bool := cs.length == 3 && decide (128 < byteAt cs 2)

/-- A complete frame: dropped when its check fails, else routed (R161, R162). -/
def State.completeLine (s : State) (cs : List Byte) : State :=
  if byteSum cs = 0 then s.routeFrame (byteAt cs 0) (cs.getD 1 0) ((cs.drop 3).dropLast) else s

/-- A character of the frame in reception (R161 case 3). -/
def State.storeLine (s : State) (cs : List Byte) : State :=
  if lineLengthBad cs then s.modLine LineLink.dropFrame
  else if lineFrameFull cs then (s.modLine LineLink.dropFrame).completeLine cs
  else s.modLine fun k => { k with rx := some cs, frameTimer := some (lineGapTimer s.store.settings) }

/-- A character completes while the receiver takes characters, as the receiver takes it (R161). -/
def State.takeLineCharacter (s : State) (c : Character) : State :=
  if c.framing then s.modLine LineLink.dropFrame
  else if c.mark then
    s.modLine fun k => { k with rx := some [c.data], frameTimer := some (lineGapTimer s.store.settings) }
  else match s.line.rx with
    | some cs => s.storeLine (cs ++ [c.data])
    | none => s

/-- A character completes while the receiver takes characters; new settings that came into force during it give it a framing
error (R17). -/
def State.lineCharacter (s : State) (c : Character) : State :=
  (s.modLine fun k => { k with spoiled := false }).takeLineCharacter (taken c s.line.spoiled)

/-- The line link takes a character (R159): not while the HD6 drives the line, and not one that started while it did (log entry
37). -/
def LineLink.hears (k : LineLink) (c : LineCharacter) : Bool := !k.txEnable && !c.startedWhileDriven

/-- LINE_CHARACTER (R161); a character that started or ends while the HD6 drives the line is lost (R159). -/
def execLineCharacter (c : LineCharacter) (s : State) : Host.Outcome State Fault Refusal :=
  if s.line.hears c then .next (s.lineCharacter c.character) else .next s

/-- FRAME_TIMER_EXPIRY (R161): the frame in reception is dropped. -/
def execFrameTimerExpiry (s : State) : Host.Outcome State Fault Refusal :=
  match s.line.frameTimer with
  | none => .next s
  | some _ => .next (s.modLine LineLink.dropFrame)

/-- The turnaround timer expires (R163): a WAITING reply starts SENDING, a FORMING one finds the timer expired later. -/
def LineLink.turnaroundUp (k : LineLink) : LineLink :=
  if k.reply = .waiting then { k with turnaround := none }.send
  else { k with turnaround := none }

/-- TURNAROUND_EXPIRY (R163). -/
def execTurnaroundExpiry (s : State) : Host.Outcome State Fault Refusal :=
  match s.line.turnaround with
  | none => .next s
  | some _ => .next (s.modLine LineLink.turnaroundUp)

/-- REPLY_SENT (R163): the last character of the reply is sent. -/
def execReplySent (s : State) : Host.Outcome State Fault Refusal :=
  if s.line.reply = .sending then
    .next (s.modLine fun k => { k with reply := .none, replyFrame := none, txEnable := false })
  else .next s

/-- INDEX (R176): an INDEX frame to the indexer address in force, routed as R162 gives. -/
def execIndex (serial : Word32) (s : State) : Host.Outcome State Fault Refusal :=
  .next (s.wholeFrame s.store.settings.indexer 0x51 (leWord32 serial))

/-- UNKNOWN_KIND (R165): a frame to the strap address whose kind names no supervisor command. -/
def execUnknownKind (kind : Byte) (payload : List Byte) (s : State) : Host.Outcome State Fault Refusal :=
  .next (s.wholeFrame s.line.strap.toNat kind payload)

/-! ## The supervisor commands as whole frames

Each is a frame to the strap address with a good check. A command that takes the frame is performed as Table 9.2 gives;
`supervisorFrame` says when it is taken: the receiver takes characters (R159), the first without a framing error (R17), the link
is not listen-only (R160), the frame is not the snoop's (R162), and no reply is pending (R163). -/

/-- A supervisor command's frame, taken by `k` and performed by `perform`, or not taken. -/
def State.supervisorFrame (s : State) (k : CommandKind) (perform : List Byte → State → State × CommandOutcome)
    (payload : List Byte) : State :=
  if s.line.txEnable then s
  else if s.line.spoiled then s.modLine LineLink.loseFrame
  else
    let s1 := s.modLine LineLink.dropFrame
    if s.line.strap = 0 then s1
    else if s.line.reply = .none then takeCommand k perform payload s1 else s1

/-- STATUS (R167). -/
def execStatus (payload : List Byte) (s : State) : Host.Outcome State Fault Refusal :=
  .next (s.supervisorFrame .status performStatus payload)

/-- SET_BUDGET (R90). -/
def execSetBudget (payload : List Byte) (s : State) : Host.Outcome State Fault Refusal :=
  .next (s.supervisorFrame .setBudget performSetBudget payload)

/-- SET_MODE (R169). -/
def execSetMode (payload : List Byte) (s : State) : Host.Outcome State Fault Refusal :=
  .next (s.supervisorFrame .setMode performSetMode payload)

/-- ACK_RESTART (R172). -/
def execAckRestart (payload : List Byte) (s : State) : Host.Outcome State Fault Refusal :=
  .next (s.supervisorFrame .ackRestart performAckRestart payload)

/-- HEAD_ENABLE (R173). -/
def execHeadEnable (payload : List Byte) (s : State) : Host.Outcome State Fault Refusal :=
  .next (s.supervisorFrame .headEnable performHeadEnable payload)

/-- CLEAR (R174). -/
def execClear (payload : List Byte) (s : State) : Host.Outcome State Fault Refusal :=
  .next (s.supervisorFrame .clear performClear payload)

/-- READ_HEAD (R168). -/
def execReadHead (payload : List Byte) (s : State) : Host.Outcome State Fault Refusal :=
  .next (s.supervisorFrame .readHead performReadHead payload)

/-- READ_RECIPE (R19). -/
def execReadRecipe (payload : List Byte) (s : State) : Host.Outcome State Fault Refusal :=
  .next (s.supervisorFrame .readRecipe performReadRecipe payload)

/-- LIST_CODES (R19). -/
def execListCodes (payload : List Byte) (s : State) : Host.Outcome State Fault Refusal :=
  .next (s.supervisorFrame .listCodes performListCodes payload)

/-- READ_CAL (R19). -/
def execReadCal (payload : List Byte) (s : State) : Host.Outcome State Fault Refusal :=
  .next (s.supervisorFrame .readCal performReadCal payload)

/-- READ_SETTINGS (R19). -/
def execReadSettings (payload : List Byte) (s : State) : Host.Outcome State Fault Refusal :=
  .next (s.supervisorFrame .readSettings performReadSettings payload)

/-- WRITE_RECIPE (R3). -/
def execWriteRecipe (payload : List Byte) (s : State) : Host.Outcome State Fault Refusal :=
  .next (s.supervisorFrame .writeRecipe performWriteRecipe payload)

/-- ERASE_RECIPE (R15). -/
def execEraseRecipe (payload : List Byte) (s : State) : Host.Outcome State Fault Refusal :=
  .next (s.supervisorFrame .eraseRecipe performEraseRecipe payload)

/-- WRITE_CAL (R5). -/
def execWriteCal (payload : List Byte) (s : State) : Host.Outcome State Fault Refusal :=
  .next (s.supervisorFrame .writeCal performWriteCal payload)

/-- WRITE_SETTINGS (R6). -/
def execWriteSettings (payload : List Byte) (s : State) : Host.Outcome State Fault Refusal :=
  .next (s.supervisorFrame .writeSettings performWriteSettings payload)

/-- TRACE_INFO (R151). -/
def execTraceInfo (payload : List Byte) (s : State) : Host.Outcome State Fault Refusal :=
  .next (s.supervisorFrame .traceInfo performTraceInfo payload)

/-- READ_TRACE (R152). -/
def execReadTrace (payload : List Byte) (s : State) : Host.Outcome State Fault Refusal :=
  .next (s.supervisorFrame .readTrace performReadTrace payload)

/-- RELEASE_TRACE (R153). -/
def execReleaseTrace (payload : List Byte) (s : State) : Host.Outcome State Fault Refusal :=
  .next (s.supervisorFrame .releaseTrace performReleaseTrace payload)

/-- FLUSH_TRACE (R154). -/
def execFlushTrace (payload : List Byte) (s : State) : Host.Outcome State Fault Refusal :=
  .next (s.supervisorFrame .flushTrace performFlushTrace payload)

/-- LOAD_REPLAY (R177). -/
def execLoadReplay (payload : List Byte) (s : State) : Host.Outcome State Fault Refusal :=
  .next (s.supervisorFrame .loadReplay performLoadReplay payload)

end Sys2Proof.Machine
end

