-- ==== Sys2Proof/Machine/Dispatch.lean ====
section
/-! DEFINITION. The meaning of each command: one arm per row of spec/opcode_table.json. -/

namespace Sys2Proof.Machine

-- The command's effect on everything but the queue of waiting commands.
def exec (i : Instr) (s : State) : Host.Outcome State Fault Refusal :=
  match i with
  | .reset straps cabinet left => Sys2Proof.Machine.execReset straps cabinet left s
  | .startUpScanComplete flips => Sys2Proof.Machine.execStartUpScanComplete flips s
  | .recipeWriteComplete readBack => Sys2Proof.Machine.execRecipeWriteComplete readBack s
  | .recipeEraseComplete => Sys2Proof.Machine.execRecipeEraseComplete s
  | .calibrationWriteComplete readBack => Sys2Proof.Machine.execCalibrationWriteComplete readBack s
  | .settingsWriteComplete readBack => Sys2Proof.Machine.execSettingsWriteComplete readBack s
  | .recipeReadComplete flips => Sys2Proof.Machine.execRecipeReadComplete flips s
  | .lookupComplete flips => Sys2Proof.Machine.execLookupComplete flips s
  | .storePortStart => Sys2Proof.Machine.execStorePortStart s
  | .sample head frame => Sys2Proof.Machine.execSample head frame s
  | .replayStep head => Sys2Proof.Machine.execReplayStep head s
  | .sensorTimerExpiry head => Sys2Proof.Machine.execSensorTimerExpiry head s
  | .cycleTimeExpiry head => Sys2Proof.Machine.execCycleTimeExpiry head s
  | .dispatchExpiry => Sys2Proof.Machine.execDispatchExpiry s
  | .windowStart head => Sys2Proof.Machine.execWindowStart head s
  | .onPartEnd head => Sys2Proof.Machine.execOnPartEnd head s
  | .driveFrameSent head => Sys2Proof.Machine.execDriveFrameSent head s
  | .driveStatus head frame => Sys2Proof.Machine.execDriveStatus head frame s
  | .driveStatusTimeout head => Sys2Proof.Machine.execDriveStatusTimeout head s
  | .cabinetInputChange level => Sys2Proof.Machine.execCabinetInputChange level s
  | .stationCharacter link c => Sys2Proof.Machine.execStationCharacter link c s
  | .interCharacterTimerExpiry link => Sys2Proof.Machine.execInterCharacterTimerExpiry link s
  | .start link => Sys2Proof.Machine.execStart link s
  | .abort link => Sys2Proof.Machine.execAbort link s
  | .release link => Sys2Proof.Machine.execRelease link s
  | .query link => Sys2Proof.Machine.execQuery link s
  | .linkError link => Sys2Proof.Machine.execLinkError link s
  | .finished link => Sys2Proof.Machine.execFinished link s
  | .transmitFrameSent link => Sys2Proof.Machine.execTransmitFrameSent link s
  | .holdInputChange link asserted position => Sys2Proof.Machine.execHoldInputChange link asserted position s
  | .frameTimerExpiry => Sys2Proof.Machine.execFrameTimerExpiry s
  | .index serial => Sys2Proof.Machine.execIndex serial s
  | .turnaroundExpiry => Sys2Proof.Machine.execTurnaroundExpiry s
  | .replySent => Sys2Proof.Machine.execReplySent s
  | .status payload => Sys2Proof.Machine.execStatus payload s
  | .setBudget payload => Sys2Proof.Machine.execSetBudget payload s
  | .setMode payload => Sys2Proof.Machine.execSetMode payload s
  | .ackRestart payload => Sys2Proof.Machine.execAckRestart payload s
  | .headEnable payload => Sys2Proof.Machine.execHeadEnable payload s
  | .clear payload => Sys2Proof.Machine.execClear payload s
  | .readHead payload => Sys2Proof.Machine.execReadHead payload s
  | .readRecipe payload => Sys2Proof.Machine.execReadRecipe payload s
  | .listCodes payload => Sys2Proof.Machine.execListCodes payload s
  | .readCal payload => Sys2Proof.Machine.execReadCal payload s
  | .readSettings payload => Sys2Proof.Machine.execReadSettings payload s
  | .writeRecipe payload => Sys2Proof.Machine.execWriteRecipe payload s
  | .eraseRecipe payload => Sys2Proof.Machine.execEraseRecipe payload s
  | .writeCal payload => Sys2Proof.Machine.execWriteCal payload s
  | .writeSettings payload => Sys2Proof.Machine.execWriteSettings payload s
  | .traceInfo payload => Sys2Proof.Machine.execTraceInfo payload s
  | .readTrace payload => Sys2Proof.Machine.execReadTrace payload s
  | .releaseTrace payload => Sys2Proof.Machine.execReleaseTrace payload s
  | .flushTrace payload => Sys2Proof.Machine.execFlushTrace payload s
  | .loadReplay payload => Sys2Proof.Machine.execLoadReplay payload s
  | .lineCharacter c => Sys2Proof.Machine.execLineCharacter c s
  | .unknownKind kind payload => Sys2Proof.Machine.execUnknownKind kind payload s
  | .sensorCharacter head c => Sys2Proof.Machine.execSensorCharacter head c s
  | .driveStatusCharacter head c => Sys2Proof.Machine.execDriveStatusCharacter head c s
  | .timestampTick => Sys2Proof.Machine.execTimestampTick s

end Sys2Proof.Machine
end

