-- ==== Sys2Proof/Safety.lean ====
section
/-! DEFINITION. What counts as a safe state of the HD6, block by block, in the words of the spec's own invariants; and the
vocabulary the statements about single commands use. -/

namespace Sys2Proof.Machine

/-! ## Power -/

/-- A head that may have power: in HEATING (Table 3.1), on a cycle that is not dry (R109, R111). -/
def State.driven (s : State) (h : HeadId) : Bool := (s.heads.get h).state == .heating && !s.isDry h

/-- Power reaches driven heads alone (Table 3.1, R107, R119), and burst windows run in HEATING alone (R110, R112). -/
def State.PowerSafe (s : State) : Prop :=
  ∀ h, (s.driven h = false → (s.drives.get h).output.value = 0) ∧
    ((s.heads.get h).state ≠ .heating →
      (s.drives.get h).windowStart = none ∧ (s.drives.get h).onTime = 0 ∧ (s.drives.get h).onRunning = false)

/-- The last frame on a drive's line, once all are sent, carries the command output (R108). -/
def State.FramesFollowOutput (s : State) : Prop :=
  ∀ h, match (s.drives.get h).waiting with
    | some v => v = (s.drives.get h).output ∧ (s.drives.get h).inProgress ≠ none
    | none => ∀ v, (s.drives.get h).inProgress = some v → v = (s.drives.get h).output

/-! ## Heads and their cycles -/

/-- IDLE is having no context (R43); a request entry is present in HEATING alone (R92), and outside it the grant entry is 0 / 0 (R93). -/
def State.HeadsSound (s : State) : Prop :=
  ∀ h, ((s.heads.get h).ctx = none ↔ (s.heads.get h).state = .idle) ∧
    ((s.disp.request.get h).isSome = true ↔ (s.heads.get h).state = .heating) ∧
    ((s.heads.get h).state ≠ .heating → s.disp.grant.get h = { grant := 0, served := 0 })

/-- A cycle's context in each head state (Table 3.2, R47, R61, R62): one summary for each segment ended, at most 8. -/
def Context.soundIn (c : Context) (st : HeadState) : Prop :=
  c.summaries.length ≤ 8 ∧
    match st with
    | .idle => False
    | .lookup => c.recipe = none ∧ c.summaries = [] ∧ c.segIndex = 0 ∧ c.result = none
    | .heating => c.result = none ∧ c.summaries.length = c.segIndex ∧
        ∃ r, c.recipe = some r ∧ r.segments.length ≤ 8 ∧ c.segIndex < r.segments.length
    | .hold => c.result = none ∧ c.summaries.length = c.segIndex ∧
        ∃ r, c.recipe = some r ∧ r.segments.length ≤ 8 ∧ c.segIndex < r.segments.length
    | .done => (c.result = some .good ∨ c.result = some .warn) ∧ c.reason = none ∧ c.cycleTimer = none
    | .faulted => c.result = some .aborted ∧ c.reason ≠ none ∧ c.cycleTimer = none

def State.CyclesSound (s : State) : Prop :=
  ∀ h c, (s.heads.get h).ctx = some c → c.soundIn (s.heads.get h).state

/-- The accumulator within the current ceiling × 4096 in HEATING and 0 in HOLD (R78), the request within the ceiling (R79) in
the class of the segment's kind (R80). -/
def State.LoopsSound (s : State) : Prop :=
  ∀ h, ((s.heads.get h).state = .heating → ∀ c r g, s.running h = some (c, r, g) →
      -(g.ceiling * 4096 : Int) ≤ c.loop.accumulator ∧ c.loop.accumulator ≤ g.ceiling * 4096 ∧
      ∀ e, s.disp.request.get h = some e → e.request ≤ g.ceiling ∧ e.cls = g.kind.requestClass) ∧
    ((s.heads.get h).state = .hold → ∀ c, (s.heads.get h).ctx = some c → c.loop.accumulator = 0)

/-- No ceiling of a recipe a head is heating by exceeds the head's max power in force (R18, R79); during the scan none is heating. -/
def State.CeilingsSound (s : State) : Prop :=
  (s.store.port = .scan → ∀ h, (s.heads.get h).state ≠ .heating) ∧
    ∀ h c r, (s.heads.get h).state = .heating → (s.heads.get h).ctx = some c → c.recipe = some r →
      ∀ g ∈ r.segments, g.ceiling ≤ (s.store.inForce.get h).maxPower

/-! ## The other blocks -/

/-- A calibration as R29 and Table 2.1 have it: seventeen points within 0 to 12000 that do not decrease, the offset within ±500. -/
def Calibration.sound (cal : Calibration) : Prop :=
  cal.points.length = 17 ∧ (∀ p ∈ cal.points, p ≤ 12000) ∧ (∀ k, k < 16 → cal.point k ≤ cal.point (k + 1)) ∧
    -500 ≤ cal.offset ∧ cal.offset ≤ 500

/-- Temperatures within 0 to 12000 and replay positions within 0 to 255 (R27); a FRESH sensor has a temperature and a running
timer (R35, R36); a replay runs on an active dry cycle alone (R38, R40); every calibration copy is sound (R29), and so is one that a
write in the supervisor slot still holds (R5); the replay table keeps its 256 entries (R177). -/
def State.FrontsSound (s : State) : Prop :=
  s.sup.replayTable.length = 256 ∧
  (∀ h body started, s.store.supervisor = some { op := .calibrationWrite h body, started := started } →
    (decodeCalibration body).sound) ∧
  ∀ h, (s.fronts.get h).calibration.sound ∧ (∀ t, (s.fronts.get h).temperature = some t → t ≤ 12000) ∧
    (s.fronts.get h).replayPos ≤ 255 ∧
    ((s.fronts.get h).sensor = .fresh → (s.fronts.get h).temperature ≠ none ∧ (s.fronts.get h).timer ≠ none) ∧
    ((s.fronts.get h).replayActive = true → s.isActive h = true ∧ s.isDry h = true)

/-- Budgets within 2400 and the last total within the budget (R91, R97); counters within the relief threshold (R99). Before the
scan completes no head takes part in a dispatch (R105). -/
def State.DispatchSound (s : State) : Prop :=
  s.disp.budgetSetting ≤ 2400 ∧ s.disp.budget ≤ 2400 ∧ s.disp.lastTotal ≤ s.disp.budget ∧
    (∀ h, s.disp.shortfall.get h ≤ s.store.settings.reliefThreshold) ∧ s.store.settings.defaultBudget ≤ 2400 ∧
    (s.store.port = .scan → ∀ h, s.disp.shortfall.get h = 0 ∧ s.disp.request.get h = none) ∧
    ∀ body started, s.store.supervisor = some { op := .settingsWrite body, started := started } → u16At body 54 ≤ 2400

/-- FIFOs of at most 64 characters and transmit queues of at most 8 frames (R122); the inter-character timer runs while a frame
is in reception (R127), and none is in reception in discard (R128, R129). -/
def State.LinksSound (s : State) : Prop :=
  ∀ l, (s.links.get l).fifoCount ≤ 64 ∧ (s.links.get l).txQueue.length ≤ 8 ∧
    ((s.links.get l).opened = none ↔ (s.links.get l).interTimer = none) ∧
    ((s.links.get l).discard = true → (s.links.get l).opened = none)

/-- The line link (R158 to R160, R163): the line is driven while SENDING alone, and no character is then being received (R17); a
listen-only link owes nothing; a reply is FORMING for READ_RECIPE alone, and there is a reply frame exactly from WAITING on; the frame
timer runs while a frame is in reception. -/
def State.LineSound (s : State) : Prop :=
  (s.line.txEnable = true ↔ s.line.reply = .sending) ∧ (s.line.txEnable = true → s.line.spoiled = false) ∧
    (s.line.strap = 0 → s.line.reply = .none) ∧
    (s.line.reply = .forming ↔
      ∃ slot started, s.store.supervisor = some { op := .recipeRead slot, started := started }) ∧
    (s.line.reply = .waiting → s.line.turnaround ≠ none) ∧
    (s.line.replyFrame = none ↔ s.line.reply = .none ∨ s.line.reply = .forming) ∧
    (s.line.rx = none ↔ s.line.frameTimer = none)

/-- Modes and cycles (R169, R170, R171, 9.5): driven cycles in PRODUCTION and DRAINING, dry ones in SERVICE, none in STANDBY and
STARTING; DRAINING has an active cycle; the restart flag is clear in PRODUCTION and DRAINING; STARTING lasts as long as the scan. -/
def State.ModesSound (s : State) : Prop :=
  (∀ h, s.isActive h = true →
      ((s.sup.mode = .production ∨ s.sup.mode = .draining) ∧ s.isDry h = false) ∨
        (s.sup.mode = .service ∧ s.isDry h = true)) ∧
    (s.sup.mode = .draining → s.anyActive = true) ∧
    (s.sup.mode = .production ∨ s.sup.mode = .draining → s.sup.restart = false) ∧
    (s.store.port = .scan ↔ s.sup.mode = .starting)

/-- The store's slots and the code index (R7, R9): 55 records, 48 recipe slots with a status and a last revision each; ascending codes,
one entry for each VALID slot and for no other; every operation on a recipe slot names one, and a recipe write in the supervisor slot
still holds a unique code (R4). -/
def State.IndexSound (s : State) : Prop :=
  (s.store.index.map (·.code)).Pairwise (· < ·) ∧ (s.store.index.map (·.slot)).Nodup ∧
    s.store.nv.length = 55 ∧ s.store.slotStatus.length = 48 ∧ s.store.lastRevision.length = 48 ∧
    (∀ e slot, s.store.port = .lookup e slot → slot < 48) ∧
    (∀ slot started, s.store.supervisor = some { op := .recipeErase slot, started := started } ∨
      s.store.supervisor = some { op := .recipeRead slot, started := started } → slot < 48) ∧
    (∀ slot, s.store.slotStatus[slot]? = some .valid ↔ ∃ e ∈ s.store.index, e.slot = slot) ∧
    (s.store.port = .scan → s.sup.mode = .starting ∧ s.store.supervisor = none) ∧
    ∀ slot body started, s.store.supervisor = some { op := .recipeWrite slot body, started := started } →
      slot < 48 ∧ ∀ e ∈ s.store.index, e.code = u16At body 0 → e.slot = slot

/-! ## The trace unit -/

/-- How many heads hold their reservation in a buffer (R142). -/
def TraceUnit.holders (t : TraceUnit) (i : BufferId) : Nat :=
  (sixInOrder.filter fun h => (t.reservation.get h).any fun r => r.buffer == i).length

/-- One buffer (R142, R143): its counts are those of its records and reservations, within 4096 words. -/
def TraceUnit.BufferSound (t : TraceUnit) (i : BufferId) : Prop :=
  (t.get i).used + (t.get i).reserved ≤ 4096 ∧
    (t.get i).used = ((t.get i).records.map List.length).sum ∧
    (t.get i).count = (t.get i).records.length ∧
    (t.get i).reserved = 48 * t.holders i ∧
    (∀ w ∈ (t.get i).records, 16 ≤ w.length ∧ w.length ≤ 48) ∧
    ((t.get i).state = .empty → (t.get i).count = 0 ∧ (t.get i).reserved = 0 ∧ (t.get i.other).state = .filling) ∧
    ((t.get i).state = .full → 1 ≤ (t.get i).count ∧ (t.get i).reserved = 0) ∧
    ((t.get i).state = .closing → 0 < (t.get i).reserved) ∧
    ((t.get i).state = .filling → (t.get i.other).state ≠ .filling)

/-- The trace unit (R142, R143, R145): both buffers sound, and a reservation for each head with an active cycle, of its cycle. -/
def State.TraceSound (s : State) : Prop :=
  s.trace.BufferSound .a ∧ s.trace.BufferSound .b ∧
    ∀ h, ((s.trace.reservation.get h).isSome = true ↔ s.isActive h = true) ∧
      ∀ r, s.trace.reservation.get h = some r → ∃ c, (s.heads.get h).ctx = some c ∧ c.cycle = r.cycle

/-- The cycle number a record carries (R183, words 2 and 3). -/
def recordCycle (w : List Word16) : Nat := (w.getD 2 0).toNat + 65536 * (w.getD 3 0).toNat

/-- The numbers of the cycles that have a record in the buffers, and of those that are active. -/
def State.cycleNumbers (s : State) : List Nat :=
  (s.trace.a.records ++ s.trace.b.records).map recordCycle ++
    (sixInOrder.filter s.isActive).filterMap fun h => (s.heads.get h).ctx.map fun c => c.cycle.toNat

/-- No two of these cycles carry the same number (R150), and none a number the counter has not given (R88). -/
def State.NumbersSound (s : State) : Prop :=
  s.cycleNumbers.Nodup ∧ ∀ n ∈ s.cycleNumbers, n ≤ s.disp.cycleCounter.toNat

/-! ## Vocabulary of the statements -/

/-- What every invariant statement says of a property: from every state that has it, a step that answers a next state leaves one
that has it. -/
def StepKeeps (P : State → Prop) : Prop := ∀ s s', P s → step s = .next s' → P s'

/-- A command frame to this address would be taken (R159, R160, R163): the receiver takes characters, its next with no framing error
(R17), the link is not listen-only, and no reply is pending. -/
def State.takes (s : State) : Prop :=
  s.line.txEnable = false ∧ s.line.spoiled = false ∧ s.line.strap ≠ 0 ∧ s.line.reply = .none

/-- A command of this mode-gate class is let through outside STARTING (R165). -/
def State.takesStarted (s : State) : Prop := s.takes ∧ s.sup.mode ≠ .starting

/-- The line link with a reply just formed to a frame just taken: WAITING, the turnaround timer started (R163). -/
def State.replies (s : State) (kind : Byte) (payload : List Byte) : State :=
  { s with line := { s.line with
      rx := none, frameTimer := none, reply := .waiting, turnaround := some s.turnaroundTimer
      replyFrame := some { kind := kind, payload := payload } } }

/-- The command row that a kind's whole frame is (Table 9.2). -/
def CommandKind.instr : CommandKind → List Byte → Instr
  | .status => .status | .setBudget => .setBudget | .setMode => .setMode | .ackRestart => .ackRestart
  | .headEnable => .headEnable | .clear => .clear | .readHead => .readHead | .readRecipe => .readRecipe
  | .listCodes => .listCodes | .readCal => .readCal | .readSettings => .readSettings | .writeRecipe => .writeRecipe
  | .eraseRecipe => .eraseRecipe | .writeCal => .writeCal | .writeSettings => .writeSettings | .traceInfo => .traceInfo
  | .readTrace => .readTrace | .releaseTrace => .releaseTrace | .flushTrace => .flushTrace | .loadReplay => .loadReplay

/-- The commands taken one after another, stopping at a fault or a refusal. -/
def runAll : List Instr → State → Host.Outcome State Fault Refusal
  | [], s => .next s
  | c :: cs, s =>
    match exec c s with
    | .next t => runAll cs t
    | .fault r => .fault r
    | .refused r => .refused r

/-- A character on the line that started while the HD6 did not drive it (R159). -/
def heard (c : Character) : LineCharacter := { character := c, startedWhileDriven := false }

/-- A line frame's characters: address, kind, length, payload and check (R161). -/
def lineFrame (address : Nat) (kind : Byte) (payload : List Byte) : List Byte :=
  let body : List Byte := [BitVec.ofNat 8 address, kind, BitVec.ofNat 8 payload.length] ++ payload
  body ++ [checkByte body]

/-- The link's service may take this unit (R132): RUNNING, a free entry in the transmit queue, no notice of its cycles set, and the
unit the oldest closed one. -/
def State.serves (s : State) (l : LinkId) (u : List FifoChar) : Prop :=
  (s.links.get l).state = .running ∧ (s.links.get l).txQueue.length < 8 ∧ (∀ h, s.noticeFor l h = false) ∧
    ∃ rest, (s.links.get l).closed = u :: rest

/-- A frame at the tail of the transmit queue, sending at once on a link that sends nothing and is not paused (R136, R137). -/
def StationLink.queued (k : StationLink) (f : StationFrame) : StationLink :=
  { k with
    txQueue := k.txQueue ++ [f]
    sending := if k.sending = none ∧ k.paused = false then some 0 else k.sending }

/-- A link after its oldest unit is taken and answered by one frame (R132): the hold output released at the low mark (R130). -/
def StationLink.answered (k : StationLink) (low : Nat) (f : StationFrame) : StationLink :=
  let rest := k.closed.drop 1
  let count := (rest.map List.length).sum + match k.opened with
    | some u => u.length
    | none => 0
  { k.queued f with closed := rest, holdOut := if count ≤ low then false else k.holdOut }

/-- A state in which a request of a link has had a reply and nothing else has changed. -/
def State.answer (s : State) (l : LinkId) (f : StationFrame) : State :=
  { s with links := s.links.set l ((s.links.get l).answered s.store.settings.holdLow f) }

/-- The record of a context has been appended, in `t`, to the records the buffer of a head's reservation had in `s` (R147), if
the head had one. Other heads' records may have been appended with it. -/
def State.recorded (s t : State) (h : HeadId) (c : Context) : Prop :=
  ∀ v, s.trace.reservation.get h = some v →
    ∃ new, (t.trace.get v.buffer).records = (s.trace.get v.buffer).records ++ new ∧ traceRecord h c ∈ new

/-- A head whose active cycle in `s` has ended in `t` with a result and a reason (R62): DONE or FAULTED, the context kept with both,
the cycle-time timer stopped, its record in the buffer of its reservation, the notice set, no replay, no reservation. -/
def State.cycleOver (s t : State) (h : HeadId) (cycle : Word32) (result : CycleResult) (reason : Option Reason) : Prop :=
  (∃ c, t.heads.get h = { state := endState result, ctx := some c, notice := true } ∧ c.cycle = cycle ∧
      c.result = some result ∧ c.reason = reason ∧ c.cycleTimer = none ∧ s.recorded t h c) ∧
    (t.fronts.get h).replayActive = false ∧ t.trace.reservation.get h = none

/-- A head and everything kept for it alone is as it was. -/
def State.headUntouched (s t : State) (h : HeadId) : Prop :=
  t.heads.get h = s.heads.get h ∧ t.fronts.get h = s.fronts.get h ∧ t.drives.get h = s.drives.get h ∧
    t.disp.request.get h = s.disp.request.get h ∧ t.disp.grant.get h = s.disp.grant.get h ∧
    t.trace.reservation.get h = s.trace.reservation.get h

end Sys2Proof.Machine
end

