-- ==== Sys2Proof/Certificates/Slice0/Obligations.lean ====
section
/-! DEFINITION. The statements about the HD6 that the provers prove, block by block. -/

open Sys2Proof Sys2Proof.Machine

/-! ## The queue, reset and the scan -/

/-- Each step runs the command at the front of the queue on the state with the queue's rest; with no command waiting the block idles
(the model's choice, log entry 2). -/
def Obligations.StepRunsTheFrontCommand : Prop :=
(∀ c rest s, s.pending = c :: rest → step s = exec c { s with pending := rest }) ∧
    ∀ s, s.pending = [] → step s = .next s

/-- No condition stops the HD6: every command answers a next state, and no command touches the queue. (The model's choice: a command
whose event cannot occur answers the state as it was, log entry 1; the queue is the model's own, log entries 2 and 25.) -/
def Obligations.EveryCommandAnswersAndLeavesTheQueue : Prop :=
∀ c s, ∃ t, exec c s = .next t ∧ t.pending = s.pending

/-- RESET puts every block in the state its chapter gives under "After reset" (1.9, 2.9, 3.9, 4.8, 5.12, 6.8, 7.11, 8.8, 9.12); the
queue and the hold input pins are kept (the model's own, log entry 20). -/
def Obligations.ResetPutsEveryBlockInItsResetState : Prop :=
∀ straps cabinet left s, ∃ t, exec (.reset straps cabinet left) s = .next t ∧
    t.sup = { mode := .starting, restart := true, coil := 0, indexCount := 0, enable := PerSix.const false
              replayTable := List.replicate 256 { raw := 0, status := .low } } ∧
    t.disp = { timestamp := 0, cycleCounter := 0, period := 10, lastExpiry := 0, nextExpiry := 10, budgetSetting := 0
               budget := 0, lastTotal := 0, request := PerSix.const none
               grant := PerSix.const { grant := 0, served := 0 }, shortfall := PerSix.const 0, pointer := 0 } ∧
    (∀ h, t.heads.get h = { state := .idle, ctx := none, notice := false }) ∧
    (∀ h, (t.fronts.get h).temperature = none ∧ (t.fronts.get h).lastStatus = none ∧
      (t.fronts.get h).sensor = .stale ∧ (t.fronts.get h).timer = none ∧
      (t.fronts.get h).calibration = { points := List.replicate 17 0, offset := 0 } ∧
      (t.fronts.get h).calValid = false ∧ (t.fronts.get h).replayActive = false ∧ (t.fronts.get h).replayPos = 0 ∧
      (t.fronts.get h).rx = none) ∧
    (∀ h, t.drives.get h = { output := .level 0, inProgress := none, waiting := none, state := .unknown, timer := none
                             windowStart := none, onTime := 0, onRunning := false, rx := none }) ∧
    t.cabinet = cabinet ∧
    (∀ l, t.links.get l = { state := .halted, closed := [], opened := none, interTimer := none, discard := false
                            holdOut := false, txQueue := [], sending := none, paused := false
                            holdIn := (s.links.get l).holdIn, spoiled := false }) ∧
    t.line = { strap := straps, rx := none, frameTimer := none, reply := .none, turnaround := none, replyFrame := none
               txEnable := false, spoiled := false } ∧
    t.trace.a.state = .filling ∧ t.trace.b.state = .empty ∧
    (∀ i, (t.trace.get i).used = 0 ∧ (t.trace.get i).reserved = 0 ∧ (t.trace.get i).count = 0 ∧
      (t.trace.get i).first = 0 ∧ (t.trace.get i).last = 0 ∧ (t.trace.get i).records = []) ∧
    t.trace.reservation = PerSix.const none ∧
    t.store.port = .scan ∧ t.store.supervisor = none ∧ t.store.queue = [] ∧ t.store.corrected = 0 ∧
    t.store.uncorrectable = 0 ∧ t.store.lastError = none ∧ t.store.lastOpKind = none ∧ t.store.lastOpResult = none ∧
    t.store.deferred = PerSix.const false ∧ t.pending = s.pending

/-- What a reset leaves in the memory of the operation it breaks off (R24): a write's slot holds its former contents, its new
contents, or contents with an uncorrectable word; an erase's slot is as it was or erased; any other slot, and every slot when a
lookup, a read, the scan or nothing is broken off, is unchanged. The last operation result is cleared and the restart flag set. The mark
on a settings record that a FAILED write left stays unless new contents took its place. (That a mark beside the memory carries R17's
FAILED outcome, and how long it stands, is the model's choice, log entry 36.) -/
def Obligations.AbandonedOperationLeavesOneOfItsOutcomes : Prop :=
∀ straps cabinet left s, ∃ t, exec (.reset straps cabinet left) s = .next t ∧
    t.store.lastOpResult = none ∧ t.sup.restart = true ∧ t.store.port = .scan ∧ t.store.supervisor = none ∧
    (∀ slot record, ((∃ body, s.runningOp = some (.recipeWrite slot body) ∧
          record = storedRecipe (s.store.nextRevision slot) body) ∨
        (∃ h : HeadId, s.runningOp = some (.calibrationWrite h record) ∧ slot = 48 + h.val) ∨
        (s.runningOp = some (.settingsWrite record) ∧ slot = 54)) →
      (∀ k, k ≠ slot → t.store.nv[k]? = s.store.nv[k]?) ∧
      (t.store.nv[slot]? = s.store.nv[slot]? ∨ t.store.nv[slot]? = some (some (cleanCells record)) ∨
        ∃ cells, t.store.nv[slot]? = some (some cells) ∧ (eccRead cells).2 = none)) ∧
    (∀ slot, s.runningOp = some (.recipeErase slot) →
      (∀ k, k ≠ slot → t.store.nv[k]? = s.store.nv[k]?) ∧
      (t.store.nv[slot]? = s.store.nv[slot]? ∨ t.store.nv[slot]? = some none)) ∧
    ((s.runningOp = none ∨ ∃ slot, s.runningOp = some (.recipeRead slot)) → t.store.nv = s.store.nv) ∧
    ((left ≠ .finished ∨ ∀ body, s.runningOp ≠ some (.settingsWrite body)) →
      t.store.settingsFailed = s.store.settingsFailed) ∧
    ∀ body, left = .finished → s.runningOp = some (.settingsWrite body) → t.store.settingsFailed = false ∧
      (54 < s.store.nv.length → t.store.nv[54]? = some (some (cleanCells body)))

/-- The completion of the start-up scan hands the settings in force to the blocks (R23, R90, R120, R123, R140, R171): enables,
budget setting, per-head fields, one zero command on each drive line, links RUNNING with the pause state of their hold inputs, mode
STANDBY. Heads, cabinet, line, trace and the other items of the dispatcher and supervision unit stay. (That R23's "budget in force"
follows at the next expiry is what R86, R90 and R105 make of it; log entry 24.) -/
def Obligations.ScanCompletionHandsOverTheSettings : Prop :=
∀ flips s, s.store.port = .scan → ∃ t, exec (.startUpScanComplete flips) s = .next t ∧
    t.store.port = .idle ∧ t.store.deferred = PerSix.const false ∧ t.store.inForce = t.store.settings.heads ∧
    t.sup = { s.sup with mode := .standby, enable := t.store.settings.heads.map fun f => f.enabledAtPowerOn } ∧
    t.disp = { s.disp with budgetSetting := t.store.settings.defaultBudget } ∧
    (∀ h, t.drives.get h = (s.drives.get h).command (t.store.settings.heads.get h).driveType.zero) ∧
    (∀ l, (t.links.get l).state = .running ∧ (t.links.get l).paused = (s.links.get l).holdIn ∧
      (t.links.get l).closed = (s.links.get l).closed ∧ (t.links.get l).txQueue = (s.links.get l).txQueue) ∧
    t.heads = s.heads ∧ t.cabinet = s.cabinet ∧ t.line = s.line ∧ t.trace = s.trace

/-- What the start-up scan makes of the records it finds (R22, R20), `t.store.nv` being the memory as it reads it. A recipe slot
never written or erased is EMPTY and one with an uncorrectable header DAMAGED, both with last revision 0; a readable header
gives the last revision, and the slot is VALID with its code in the index, or DAMAGED when a lower slot holds that code. A
calibration slot never written or unreadable leaves the copy at zero and its flag clear; a readable one is loaded. The settings
slot gives the factory settings, with SETTINGS_DEFAULTED when its record is unreadable or marked as left by a FAILED write, or else its
record; the scan keeps the mark, and a record that was unreadable before it is defaulted whatever further bits it finds changed (R21).
Each slot whose read makes a correction adds 1 to
the corrected count, each bad slot 1 to the uncorrectable count, and the last error is that of the last slot in order that had one.
(A readable record that fails a field test is log entry 11's case: what becomes of its slot is left out here, and it counts as bad.
That an ECC word is a byte, and that a changed bit does not change back without a write, is log entry 9. That a mark carries the FAILED outcome of R17, which names the next reset alone, and makes the
record unreadable at every scan while it stands, whatever its words, is the model's choice, log entry 36.) -/
def Obligations.ScanBuildsTheStateFromTheRecords : Prop :=
∀ flips s, s.store.port = .scan → s.store.slotStatus.length = 48 → s.store.lastRevision.length = 48 →
    s.store.corrected ≤ 65535 → s.store.uncorrectable ≤ 65535 →
    ∃ t, exec (.startUpScanComplete flips) s = .next t ∧ t.store.nv = (s.store.flipSlots flips).nv ∧
    let corrects : Nat → Bool := fun slot =>
      let cells := (t.store.nv.getD slot none).getD []
      (eccRead (if slot < 48 then cells.take 21 else cells)).1
    let bad : Nat → Bool := fun slot =>
      if slot < 48 then t.store.slotStatus.getD slot .empty == .damaged
      else if slot < 54 then (t.store.nv.getD slot none).isSome && !(t.fronts.get (Fin.ofNat 6 (slot - 48))).calValid
      else t.store.settingsDefaulted
    t.store.corrected = min (s.store.corrected + ((List.range 55).filter corrects).length) 65535 ∧
    t.store.uncorrectable = min (s.store.uncorrectable + ((List.range 55).filter bad).length) 65535 ∧
    (∀ slot, slot < 55 → (∀ k, slot < k → k < 55 → corrects k = false ∧ bad k = false) →
      (bad slot = true → t.store.lastError = some (slot, .uncorrectable)) ∧
      (bad slot = false → corrects slot = true → t.store.lastError = some (slot, .corrected))) ∧
    ((∀ k, k < 55 → corrects k = false ∧ bad k = false) → t.store.lastError = s.store.lastError) ∧
    (∀ slot, slot < 48 →
      (t.store.nv.getD slot none = none →
        t.store.slotStatus[slot]? = some .empty ∧ t.store.lastRevision[slot]? = some 0) ∧
      ∀ cells, t.store.nv.getD slot none = some cells →
        ((eccRead (cells.take 21)).2 = none →
          t.store.slotStatus[slot]? = some .damaged ∧ t.store.lastRevision[slot]? = some 0) ∧
        ∀ header, (eccRead (cells.take 21)).2 = some header → storedHeaderOk header = true →
          t.store.lastRevision[slot]? = some (storedRevision header) ∧
          ((t.store.slotStatus[slot]? = some .valid ∧ { code := u16At header 2, slot := slot } ∈ t.store.index) ∨
            (t.store.slotStatus[slot]? = some .damaged ∧
              ∃ lower, lower < slot ∧ { code := u16At header 2, slot := lower } ∈ t.store.index))) ∧
    (∀ h : HeadId,
      (t.store.nv.getD (48 + h.val) none = none →
        (t.fronts.get h).calValid = false ∧ (t.fronts.get h).calibration = Calibration.zero) ∧
      ∀ cells, t.store.nv.getD (48 + h.val) none = some cells →
        ((eccRead cells).2 = none →
          (t.fronts.get h).calValid = false ∧ (t.fronts.get h).calibration = Calibration.zero) ∧
        ∀ body, (eccRead cells).2 = some body → storedCalibrationOk body = true →
          (t.fronts.get h).calValid = true ∧ (t.fronts.get h).calibration = decodeCalibration body) ∧
    t.store.settingsFailed = s.store.settingsFailed ∧
    (∀ cells, s.store.nv.getD 54 none = some cells → (eccRead cells).2 = none →
      t.store.settings = factorySettings ∧ t.store.settingsDefaulted = true) ∧
    (t.store.nv.getD 54 none = none →
      t.store.settings = factorySettings ∧ t.store.settingsDefaulted = false) ∧
    ∀ cells, t.store.nv.getD 54 none = some cells →
      ((eccRead cells).2 = none ∨ s.store.settingsFailed = true →
        t.store.settings = factorySettings ∧ t.store.settingsDefaulted = true) ∧
      ∀ body, (eccRead cells).2 = some body → storedSettingsOk body = true → s.store.settingsFailed = false →
        t.store.settings = decodeSettings body ∧ t.store.settingsDefaulted = false

/-! ## The recipe store -/

/-- A read through the ECC (R20, R21). Word by word: it corrects a word with one bit changed, and stops at the first with two or more,
which makes the read uncorrectable; the corrections before that count. A read of a recipe slot meets the bits changed by then, counts a
correction and an uncorrectable read once each up to 65535, names the slot as the last error by the graver of the two, and damages the
slot when uncorrectable. (That an ECC word is a byte is log entry 9; that a cleanly read record failing the field tests is treated as
uncorrectable is log entry 11.) -/
def Obligations.EccReadsCorrectOneBit : Prop :=
  (∀ cells : List NvCell,
      let bits : NvCell → Nat := fun c => ((List.range 8).filter fun i => c.flips.getLsbD i).length
      (eccRead cells).1 = (cells.takeWhile fun c => decide (bits c ≤ 1)).any (fun c => bits c == 1) ∧
      ((∀ c ∈ cells, bits c ≤ 1) → (eccRead cells).2 = some (cells.map fun c => c.value)) ∧
      ((∃ c ∈ cells, 2 ≤ bits c) → (eccRead cells).2 = none)) ∧
  ∀ (st : Store) (slot : Nat) flips cells, st.nv[slot]? = some (some cells) → slot < st.slotStatus.length →
      let r := st.readRecipe slot flips
      ∃ now : List NvCell, r.1.nv[slot]? = some (some now) ∧ (∀ k, k ≠ slot → r.1.nv[k]? = st.nv[k]?) ∧
        (∀ k : Nat, now[k]? = cells[k]?.map fun c =>
          { c with flips := (flips.filter fun f => f.cell == k).foldl (fun b f => b ^^^ f.mask) c.flips }) ∧
        r.2.1 = (eccRead now).1 ∧
        (∀ record, r.2.2 = some record ↔ (eccRead now).2 = some record ∧ storedRecipeOk record = true) ∧
        r.1.corrected = (if r.2.1 then min (st.corrected + 1) 65535 else st.corrected) ∧
        r.1.uncorrectable = (if r.2.2 = none then min (st.uncorrectable + 1) 65535 else st.uncorrectable) ∧
        r.1.lastError = (if r.2.2 = none then some (slot, .uncorrectable)
          else if r.2.1 then some (slot, .corrected) else st.lastError) ∧
        (r.2.2 = none → r.1.slotStatus[slot]? = some .damaged ∧ ∀ e, e ∈ r.1.index ↔ e ∈ st.index ∧ e.slot ≠ slot) ∧
        (r.2.2 ≠ none → r.1.slotStatus = st.slotStatus ∧ r.1.index = st.index)

/-- The completion of a recipe write (R14, R8, R9): the slot holds what was written and has the next revision either way; read back
clean and equal it is VALID and its code alone stands for it in the index, otherwise it is DAMAGED, out of the index and counted
uncorrectable. A correction in the read-back is counted. Nothing outside the store changes. (A clean read-back that differs counts as
uncorrectable too: log entry 12. The model's own: the port is IDLE after it with the queue as it was, and is handed on by a command of
its own, log entry 3; the revision is set here and not at the acceptance, log entry 26; that what
a FAILED write left stays in the slot, read well or not, log entry 36.) -/
def Obligations.RecipeWriteCompletes : Prop :=
∀ w s slot body, s.runningOp = some (.recipeWrite slot body) → slot < s.store.nv.length →
    slot < s.store.slotStatus.length → slot < s.store.lastRevision.length →
    let corrects := (eccRead (writtenCells w (storedRecipe (s.store.lastRevision.getD slot 0 + 1) body))).1
    ∃ st, exec (.recipeWriteComplete w) s = .next { s with store := st } ∧
      st.supervisor = none ∧ st.port = .idle ∧ st.lastOpKind = some .recipeWrite ∧ st.queue = s.store.queue ∧
      st.settings = s.store.settings ∧
      st.nv[slot]? = some (some (writtenCells w (storedRecipe (s.store.lastRevision.getD slot 0 + 1) body))) ∧
      st.lastRevision[slot]? = some (s.store.lastRevision.getD slot 0 + 1) ∧
      (∀ k, k ≠ slot → st.nv[k]? = s.store.nv[k]? ∧ st.slotStatus[k]? = s.store.slotStatus[k]? ∧
        st.lastRevision[k]? = s.store.lastRevision[k]?) ∧
      st.corrected = (if corrects then min (s.store.corrected + 1) 65535 else s.store.corrected) ∧
      (writeOk (storedRecipe (s.store.lastRevision.getD slot 0 + 1) body) w = true →
        st.lastError = if corrects then some (slot, .corrected) else s.store.lastError) ∧
      (writeOk (storedRecipe (s.store.lastRevision.getD slot 0 + 1) body) w = true →
        st.slotStatus[slot]? = some .valid ∧ st.lastOpResult = some .ok ∧
        st.uncorrectable = s.store.uncorrectable ∧
        ∀ e, e ∈ st.index ↔ e = { code := u16At body 0, slot := slot } ∨ (e ∈ s.store.index ∧ e.slot ≠ slot)) ∧
      (writeOk (storedRecipe (s.store.lastRevision.getD slot 0 + 1) body) w = false →
        st.slotStatus[slot]? = some .damaged ∧ st.lastOpResult = some .failed ∧
        st.uncorrectable = min (s.store.uncorrectable + 1) 65535 ∧ st.lastError = some (slot, .uncorrectable) ∧
        ∀ e, e ∈ st.index ↔ e ∈ s.store.index ∧ e.slot ≠ slot)

/-- Erases and calibration writes complete. The completion of an erase (R15): the slot is EMPTY with nothing stored, out of the
index, its last revision 0, result OK. Nothing outside the store changes. The completion of a calibration write (R16): read back
well, the record is loaded into that head's copy and its flag set; otherwise copy and flag are left and the error is counted
against store slot 48 + n; a correction in the read-back is counted. No other front end and no other block changes. (That a clean
read-back that differs is counted uncorrectable is log entry 12; that the port is IDLE after either, and handed on by a command of
its own, is log entry 3; that what
a FAILED write left stays in the slot, read well or not, log entry 36.) -/
def Obligations.EraseAndCalibrationWritesComplete : Prop :=
  (∀ s slot, s.runningOp = some (.recipeErase slot) → slot < s.store.nv.length →
      slot < s.store.slotStatus.length → slot < s.store.lastRevision.length →
      ∃ st, exec .recipeEraseComplete s = .next { s with store := st } ∧
        st.supervisor = none ∧ st.port = .idle ∧ st.lastOpKind = some .recipeErase ∧ st.lastOpResult = some .ok ∧
        st.nv[slot]? = some none ∧ st.slotStatus[slot]? = some .empty ∧ st.lastRevision[slot]? = some 0 ∧
        (∀ e, e ∈ st.index ↔ e ∈ s.store.index ∧ e.slot ≠ slot) ∧
        (∀ k, k ≠ slot → st.nv[k]? = s.store.nv[k]? ∧ st.slotStatus[k]? = s.store.slotStatus[k]? ∧
          st.lastRevision[k]? = s.store.lastRevision[k]?) ∧
        st.corrected = s.store.corrected ∧ st.uncorrectable = s.store.uncorrectable ∧ st.lastError = s.store.lastError ∧
        st.queue = s.store.queue ∧ st.settings = s.store.settings) ∧
  (∀ w s (h : HeadId) body, s.runningOp = some (.calibrationWrite h body) →
      ∃ st fronts, exec (.calibrationWriteComplete w) s = .next { s with store := st, fronts := fronts } ∧
        st.supervisor = none ∧ st.port = .idle ∧ st.lastOpKind = some .calibrationWrite ∧
        (∀ k, k ≠ 48 + h.val → st.nv[k]? = s.store.nv[k]?) ∧ st.slotStatus = s.store.slotStatus ∧
        st.index = s.store.index ∧ st.settings = s.store.settings ∧
        (∀ k, k ≠ h → fronts.get k = s.fronts.get k) ∧ st.nv = s.store.nv.set (48 + h.val) (some (writtenCells w body)) ∧
        st.corrected = (if (eccRead (writtenCells w body)).1 then min (s.store.corrected + 1) 65535 else s.store.corrected) ∧
        (writeOk body w = true → st.uncorrectable = s.store.uncorrectable ∧ st.lastError =
          if (eccRead (writtenCells w body)).1 then some (48 + h.val, .corrected) else s.store.lastError) ∧
        (writeOk body w = true → st.lastOpResult = some .ok ∧
          fronts.get h = { s.fronts.get h with calibration := decodeCalibration body, calValid := true }) ∧
        (writeOk body w = false → st.lastOpResult = some .failed ∧ fronts = s.fronts ∧
          st.uncorrectable = min (s.store.uncorrectable + 1) 65535 ∧ st.lastError = some (48 + h.val, .uncorrectable)))

/-- The completion of a settings write (R17). FAILED, the settings in force and SETTINGS_DEFAULTED stay, nothing outside the store
changes, and the record left is marked for the next reset's scan, which finds it unreadable, whatever the slot holds. OK, the record is in force: each IDLE head takes its fields, with a zero command when its drive type changes, and every other head keeps
its former fields under a deferred mark; counters above the new relief threshold are lowered to it; the running period keeps its
length; each hold output is judged against the new marks; a character being received takes a framing error. A correction in the
read-back is counted. Heads, sensors, supervision and trace stay. (That a clean read-back that differs is counted uncorrectable is log
entry 12; that the port is IDLE after it, and handed on by a command of its own, log entry 3; that a running character timer keeps its
old rate, log entry 21; that the command says which receivers are in a character, and that one on the line counts too, log entry 34;
that a mark beside the memory carries the FAILED outcome to the scan, log entry 36.) -/
def Obligations.SettingsWriteCompletes : Prop :=
∀ w s body, s.runningOp = some (.settingsWrite body) →
    ∃ t, exec (.settingsWriteComplete w) s = .next t ∧
      t.store.supervisor = none ∧ t.store.port = .idle ∧ t.store.lastOpKind = some .settingsWrite ∧
      t.heads = s.heads ∧ t.fronts = s.fronts ∧ t.cabinet = s.cabinet ∧ t.sup = s.sup ∧
      t.store.nv = s.store.nv.set 54 (some (writtenCells w.held body)) ∧
      t.store.corrected =
        (if (eccRead (writtenCells w.held body)).1 then min (s.store.corrected + 1) 65535 else s.store.corrected) ∧
      t.trace = s.trace ∧ t.store.index = s.store.index ∧ t.store.slotStatus = s.store.slotStatus ∧
      (writeOk body w.held = false → t.store.lastOpResult = some .failed ∧ t.store.settings = s.store.settings ∧ t.line = s.line ∧
        t.store.inForce = s.store.inForce ∧ t.store.deferred = s.store.deferred ∧ t.disp = s.disp ∧
        t.drives = s.drives ∧ t.links = s.links ∧
        t.store.settingsDefaulted = s.store.settingsDefaulted ∧ t.store.settingsFailed = true ∧
        t.store.uncorrectable = min (s.store.uncorrectable + 1) 65535 ∧ t.store.lastError = some (54, .uncorrectable)) ∧
      (writeOk body w.held = true → t.store.lastOpResult = some .ok ∧ t.store.settings = decodeSettings body ∧
        t.store.settingsFailed = false ∧
        t.store.uncorrectable = s.store.uncorrectable ∧ t.store.lastError =
          (if (eccRead (writtenCells w.held body)).1 then some (54, .corrected) else s.store.lastError) ∧
        t.line = { s.line with spoiled := s.line.spoiled || (w.onLine && !s.line.txEnable) } ∧
        t.disp = { s.disp with
          shortfall := s.disp.shortfall.map fun n => min n (decodeSettings body).reliefThreshold } ∧
        (∀ l, t.links.get l = { s.links.get l with
          spoiled := (s.links.get l).spoiled || w.onLinks.get l
          holdOut := if (decodeSettings body).holdHigh ≤ (s.links.get l).fifoCount then true
            else if (s.links.get l).fifoCount ≤ (decodeSettings body).holdLow then false
            else (s.links.get l).holdOut }) ∧
        ∀ h, ((s.heads.get h).state = .idle →
            t.store.inForce.get h = (decodeSettings body).heads.get h ∧ t.store.deferred.get h = false ∧
            t.drives.get h =
              if (s.store.inForce.get h).driveType = ((decodeSettings body).heads.get h).driveType then s.drives.get h
              else (s.drives.get h).command ((decodeSettings body).heads.get h).driveType.zero) ∧
          ((s.heads.get h).state ≠ .idle →
            t.store.inForce.get h = s.store.inForce.get h ∧ t.store.deferred.get h = true ∧
            t.drives.get h = s.drives.get h))

/-- The completion of a recipe read (R19, R20): the owed reply is formed from the record read, with status VALID, or as the refusal
DAMAGED when the read meets an uncorrectable error, which makes the slot DAMAGED, takes its code from the index and counts it. A
correction is counted. The last operation stays (R25), and nothing outside the store and the line link changes. (That the port is IDLE
after it, and handed on by a command of its own, is log entry 3; that a record read cleanly that fails the field tests counts as
unreadable is log entry 11.) -/
def Obligations.RecipeReadCompletes : Prop :=
∀ flips s slot, s.runningOp = some (.recipeRead slot) → s.line.reply = .forming →
    slot < s.store.slotStatus.length →
    ∃ st reply, exec (.recipeReadComplete flips) s = .next { s with store := st, line := s.line.form reply } ∧
      st.supervisor = none ∧ st.port = .idle ∧ st.lastOpKind = s.store.lastOpKind ∧
      st.lastOpResult = s.store.lastOpResult ∧ st.nv = (s.store.readRecipe slot flips).1.nv ∧
      st.corrected =
        (if (s.store.readRecipe slot flips).2.1 then min (s.store.corrected + 1) 65535 else s.store.corrected) ∧
      ((∃ record, (s.store.readRecipe slot flips).2.2 = some record ∧
          reply = { kind := 0x90, payload := [BitVec.ofNat 8 slot, 1] ++ record } ∧
          st.index = s.store.index ∧ st.slotStatus = s.store.slotStatus ∧ st.uncorrectable = s.store.uncorrectable ∧
          st.lastError = if (s.store.readRecipe slot flips).2.1 then some (slot, .corrected) else s.store.lastError) ∨
        ((s.store.readRecipe slot flips).2.2 = none ∧
          reply = { kind := 0xFF, payload := [9, BitVec.ofNat 8 slot] } ∧
          st.slotStatus[slot]? = some .damaged ∧ (∀ e, e ∈ st.index ↔ e ∈ s.store.index ∧ e.slot ≠ slot) ∧
          st.uncorrectable = min (s.store.uncorrectable + 1) 65535 ∧ st.lastError = some (slot, .uncorrectable)))

/-- A lookup's result at its head (R18, R20, R47 to R50, R81). The store is as the read leaves it, whoever takes the result. Taken, a
corrected read sets ECC_CORRECTED whatever the result; a read with an uncorrectable error ends the cycle RECIPE_DAMAGED, its revision
as it was; a recipe with a ceiling above the head's max power ends it TOO_STRONG, its revision the one read. Any other result starts
HEATING with the recipe copy, its revision, the cycle-time timer, segment 0 entered, the loop prepared and a request of 0 in the class
of segment 0's kind, unless a check at the entry fails: a STALE sensor, and on a driven cycle a cabinet NOT_READY, then a drive TRIPPED
or UNKNOWN. A result not taken leaves every head as it was (R13). (The model's own: a lookup may leave the port IDLE before the next
starts, log entry 3; a record read cleanly that fails the field tests counts as unreadable, log entry 11; a check that fails ends the
cycle from HEATING, log entry 28; the STALE state ends it though its timer may still run, log entry 35.) -/
def Obligations.LookupResultReachesItsHead : Prop :=
∀ flips s e slot, s.store.port = .lookup e slot → slot < s.store.slotStatus.length →
    let read := s.store.readRecipe slot flips
    ∃ t, exec (.lookupComplete flips) s = .next t ∧
      t.store = { read.1 with port := .idle, queue := t.store.queue } ∧
      (read.2.2 = none →
        t.store.slotStatus[slot]? = some .damaged ∧ (∀ i, i ∈ t.store.index ↔ i ∈ s.store.index ∧ i.slot ≠ slot) ∧
        t.store.lastError = some (slot, .uncorrectable)) ∧
      (∀ record, read.2.2 = some record → t.store.slotStatus = s.store.slotStatus ∧ t.store.index = s.store.index ∧
        t.store.lastError = if read.2.1 then some (slot, .corrected) else s.store.lastError) ∧
      (s.takesLookup e = false → t.heads = s.heads ∧ t.disp = s.disp ∧ t.trace = s.trace ∧ t.store.queue = s.store.queue) ∧
      (s.takesLookup e = true → (∀ k, k ≠ e.head → s.headUntouched t k) ∧
        ∃ c c', (s.heads.get e.head).ctx = some c ∧ (t.heads.get e.head).ctx = some c' ∧
          c'.flags = { c.flags with eccCorrected := c.flags.eccCorrected || read.2.1 } ∧
          (read.2.2 = none → c'.revision = c.revision) ∧
          ∀ record, read.2.2 = some record → c'.revision = storedRevision record) ∧
      (s.takesLookup e = true → read.2.2 = none → s.cycleOver t e.head e.cycle .aborted (some .recipeDamaged)) ∧
      ∀ record r, s.takesLookup e = true → read.2.2 = some record →
        r = decodeRecipe (storedRevision record) (record.drop 2) →
        ((∃ g ∈ r.segments, (s.store.inForce.get e.head).maxPower < g.ceiling) →
          s.cycleOver t e.head e.cycle .aborted (some .tooStrong)) ∧
        ((∀ g ∈ r.segments, g.ceiling ≤ (s.store.inForce.get e.head).maxPower) →
          let stale := (s.fronts.get e.head).sensor = .stale
          let dry := s.isDry e.head = true
          let drive := (s.drives.get e.head).state
          (stale → s.cycleOver t e.head e.cycle .aborted (some .sensorLost)) ∧
          (¬stale → ¬dry → s.cabinet = .notReady → s.cycleOver t e.head e.cycle .aborted (some .cabinet)) ∧
          (¬stale → ¬dry → s.cabinet = .ready → drive = .tripped →
            s.cycleOver t e.head e.cycle .aborted (some .driveTrip)) ∧
          (¬stale → ¬dry → s.cabinet = .ready → drive = .unknown →
            s.cycleOver t e.head e.cycle .aborted (some .driveLost)) ∧
          (¬stale → dry ∨ (s.cabinet = .ready ∧ drive ≠ .tripped ∧ drive ≠ .unknown) →
            ∀ g, r.segments[0]? = some g →
            (t.heads.get e.head).state = .heating ∧
            (∃ c, (t.heads.get e.head).ctx = some c ∧ c.cycle = e.cycle ∧ c.recipe = some r ∧
              c.revision = storedRevision record ∧ c.cycleTimer = some r.maxCycleTime ∧ c.segIndex = 0 ∧ c.clock = none ∧
              c.inBand = 0 ∧ c.prev = none ∧ c.lagStart = none ∧ c.peak = 0 ∧ c.segEnergy = 0 ∧
              c.loop = { accumulator := 0, prevRequest := 0, prevCeiling := g.ceiling, lastSetpoint := 0, lastError := 0
                         freeze := .none }) ∧
            t.disp.request.get e.head = some { request := 0, cls := if g.kind = .flow then .class1 else .class0 } ∧
            t.disp.shortfall.get e.head = 0 ∧ t.disp.grant = s.disp.grant ∧ t.drives = s.drives ∧
            t.fronts = s.fronts))

/-- The hand-on of a free port (R12): the oldest lookup first, reading the slot its code stands against; with the queue empty, the
waiting supervisor operation, which then occupies the port. An erase of an EMPTY slot and a read of an EMPTY or DAMAGED one complete
at their start instead (R10, R15, R19). (That the hand-on is a command of its own is log entry 3.) -/
def Obligations.FreePortStartsLookupsFirst : Prop :=
∀ s, s.store.port = .idle →
    (∀ e rest slot, s.store.queue = e :: rest → s.store.slotOf e.code = some slot →
      exec .storePortStart s = .next { s with store := { s.store with queue := rest, port := .lookup e slot } }) ∧
    (∀ e rest, s.store.queue = e :: rest → s.store.slotOf e.code = none → s.takesLookup e = true →
      ∃ t, exec .storePortStart s = .next t ∧ t.store.port = .idle ∧
        s.cycleOver t e.head e.cycle .aborted (some .noRecipe)) ∧
    ∀ op, s.store.queue = [] → s.store.supervisor = some { op := op, started := false } →
      let status : Nat → SlotStatus := fun slot => s.store.slotStatus.getD slot .empty
      ((∀ slot, op = .recipeErase slot → status slot ≠ .empty) → (∀ slot, op = .recipeRead slot → status slot = .valid) →
        exec .storePortStart s = .next { s with store := { s.store with
          supervisor := some { op := op, started := true }, port := .supervisor } }) ∧
      (∀ slot, op = .recipeErase slot → status slot = .empty →
        exec .storePortStart s = .next { s with store := { s.store with
          supervisor := none, port := .idle, lastOpKind := some .recipeErase, lastOpResult := some .ok } }) ∧
      ∀ slot, op = .recipeRead slot → status slot ≠ .valid → s.line.reply = .forming →
        let reply : LineReply :=
          if status slot = .empty then { kind := 0x90, payload := [BitVec.ofNat 8 slot, 0, 0, 0] }
          else { kind := 0xFF, payload := [9, BitVec.ofNat 8 slot] }
        exec .storePortStart s = .next { s with
          store := { s.store with supervisor := none, port := .idle }, line := s.line.form reply }

/-! ## The sensor front ends -/

/-- The table value of an OK sample (R30), for seventeen points that do not decrease: interpolated between two neighbouring points,
between them, exactly a point at a multiple of 4096, and at T16 only when T15 is T16. -/
def Obligations.InterpolationFollowsTheTable : Prop :=
∀ (cal : Calibration) (raw : Word16), cal.points.length = 17 → (∀ p ∈ cal.points, p ≤ 12000) →
    (∀ k, k < 16 → cal.point k ≤ cal.point (k + 1)) →
    ∃ v, cal.tableValue .ok raw = some v ∧ raw.toNat / 4096 ≤ 15 ∧ raw.toNat % 4096 ≤ 4095 ∧
      v = cal.point (raw.toNat / 4096) +
        (cal.point (raw.toNat / 4096 + 1) - cal.point (raw.toNat / 4096)) * (raw.toNat % 4096 : Nat) / 4096 ∧
      0 ≤ (cal.point (raw.toNat / 4096 + 1) - cal.point (raw.toNat / 4096)) * (raw.toNat % 4096 : Nat) ∧
      (cal.point (raw.toNat / 4096 + 1) - cal.point (raw.toNat / 4096)) * (raw.toNat % 4096 : Nat) ≤ 49140000 ∧
      cal.point (raw.toNat / 4096) ≤ v ∧ v ≤ cal.point (raw.toNat / 4096 + 1) ∧
      (raw = 0 → v = cal.point 0) ∧ (raw.toNat % 4096 = 0 → v = cal.point (raw.toNat / 4096)) ∧
      (v = cal.point 16 → cal.point 15 = cal.point 16)

/-- Sample frames that reach no sample event of a cycle. A good frame taken as a sample by a head outside HEATING and HOLD (R28, R30
to R35): its status is stored; usable, it sets the clamped temperature, makes the sensor FRESH and restarts the timer; WEAK, it does
no more. Frames that are no samples (R28), and a WEAK sample in HEATING or HOLD (R33). A bad frame, any frame in STARTING and any
pyrometer frame during a replay change nothing but the receiver's frame in reception, which the whole frame ends (log entry 4). A
WEAK sample in HEATING or HOLD stores its status and sets SENSOR_HELD. -/
def Obligations.SampleFramesOutsideHeating : Prop :=
  (∀ (h : HeadId) status (raw : Word16) s, s.sup.mode ≠ .starting → (s.fronts.get h).replayActive = false →
      (s.heads.get h).state ≠ .heating → (s.heads.get h).state ≠ .hold →
      let fe := s.fronts.get h
      let tableValue : Int := match status with
        | .ok => fe.calibration.point (raw.toNat / 4096) + (fe.calibration.point (raw.toNat / 4096 + 1)
            - fe.calibration.point (raw.toNat / 4096)) * (raw.toNat % 4096 : Nat) / 4096
        | .low => fe.calibration.point 0
        | .high => fe.calibration.point 16
        | .weak => 0
      let fe' : FrontEnd :=
        if status = .weak then { fe with rx := none, lastStatus := some .weak }
        else { fe with
          rx := none, lastStatus := some status, sensor := .fresh
          temperature := some (max 0 (min 12000 (tableValue + fe.calibration.offset))).toNat
          timer := some (s.store.inForce.get h).sensorTimeout }
      exec (.sample h (.good status raw)) s = .next { s with fronts := s.fronts.set h fe' }) ∧
  (∀ (h : HeadId) frame s,
      (frame = .bad ∨ s.sup.mode = .starting ∨ (s.fronts.get h).replayActive = true →
        exec (.sample h frame) s =
          .next { s with fronts := s.fronts.set h { s.fronts.get h with rx := none } }) ∧
      ∀ raw c, frame = .good .weak raw → s.sup.mode ≠ .starting → (s.fronts.get h).replayActive = false →
        ((s.heads.get h).state = .heating ∨ (s.heads.get h).state = .hold) → (s.heads.get h).ctx = some c →
        exec (.sample h frame) s = .next { s with
          fronts := s.fronts.set h { s.fronts.get h with rx := none, lastStatus := some .weak }
          heads := s.heads.set h { s.heads.get h with ctx := some { c with flags := { c.flags with sensorHeld := true } } } })

/-- A replay step (R39), due when the timestamp stands at its time: the position moves on to 255 at most, and that entry of the
replay table is taken as a sample. In LOOKUP it only updates the front end; in every state the temperature follows the entry.
In every head state, HEATING and HOLD among them, the step does all that a pyrometer frame with that status and raw count does
on a head that is not replaying (R28, R34), which the statements about samples give; the replay stays active unless the cycle ends
there (R40). (When a step is due, the field that holds its time, and that
the arrival time of a late step is the timestamp when it is taken, are the model's own, log entry 6.) -/
def Obligations.ReplayStepTakesTheNextEntry : Prop :=
∀ (h : HeadId) s, (s.fronts.get h).replayActive = true →
    reached s.disp.timestamp (s.fronts.get h).replayNext = true →
    let pos := min ((s.fronts.get h).replayPos + 1) 255
    let e := s.sup.replayTable.getD pos { raw := 0, status := .low }
    ∃ t, exec (.replayStep h) s = .next t ∧ (t.fronts.get h).replayPos = pos ∧
      (t.fronts.get h).lastStatus = some e.status ∧
      (t.fronts.get h).replayNext = (s.fronts.get h).replayNext + 2 ∧
      (∀ v, (s.fronts.get h).calibration.convert e.status e.raw = some v → (t.fronts.get h).temperature = some v ∧
        (t.fronts.get h).sensor = .fresh ∧ (t.fronts.get h).timer = some (s.store.inForce.get h).sensorTimeout) ∧
      (e.status = .weak → (t.fronts.get h).temperature = (s.fronts.get h).temperature ∧
        (t.fronts.get h).sensor = (s.fronts.get h).sensor ∧ (t.fronts.get h).timer = (s.fronts.get h).timer) ∧
      (∀ k, k ≠ h → s.headUntouched t k) ∧
      (s.sup.mode ≠ .starting →
        let fe := s.fronts.get h
        let live : State := { s with fronts := s.fronts.set h { fe with
          replayPos := pos, replayNext := fe.replayNext + 2, replayActive := false } }
        ∃ u, exec (.sample h (.good e.status e.raw)) live = .next u ∧
          t = { u with fronts := u.fronts.set h { u.fronts.get h with
            rx := fe.rx, replayActive := decide (s.isActive h = true → u.isActive h = true) } }) ∧
      ((s.heads.get h).state = .lookup → t.heads = s.heads ∧ t.drives = s.drives ∧ t.disp = s.disp ∧
        t.store = s.store ∧ t.trace = s.trace ∧ t.links = s.links ∧ t.line = s.line ∧ t.sup = s.sup ∧
        (t.fronts.get h).replayActive = true)

/-! ## The power loop -/

/-- One run of the power loop (R75 to R79): error, proportional term, freeze, accumulator, request, and the values kept for the next
run; within their ranges. The first run of a cycle cannot be frozen at its ceiling (R77). -/
def Obligations.LoopRunComputesTheRequest : Prop :=
∀ (l : LoopState) (r : Recipe) (g : Segment) (gr : GrantEntry) (t setpoint : Nat),
    let e : Int := (setpoint : Int) - t
    let p : Int := r.kp * e / 256
    let c : Int := g.ceiling
    let freeze : Freeze :=
      if l.prevRequest = l.prevCeiling ∧ 0 < e then .atCeiling
      else if l.prevRequest = 0 ∧ e < 0 then .atZero
      else if gr.grant < gr.served ∧ 0 < e then .starved
      else .none
    let a : Int :=
      if freeze = .none then max (-(c * 4096)) (min (c * 4096) (l.accumulator + r.ki * e)) else l.accumulator
    l.run r g gr t setpoint =
        { accumulator := a, prevRequest := (max 0 (min c (g.feedForward + p + a / 4096))).toNat
          prevCeiling := g.ceiling, lastSetpoint := setpoint, lastError := e, freeze := freeze } ∧
      (t ≤ 12000 → setpoint ≤ 12000 → r.kp ≤ 4095 →
        -12000 ≤ e ∧ e ≤ 12000 ∧ -49140000 ≤ r.kp * e ∧ r.kp * e ≤ 49140000 ∧ -191954 ≤ p ∧ p ≤ 191953) ∧
      (r.kp = 0 → p = 0) ∧ (e < 0 → 1 ≤ r.kp → p ≤ -1) ∧
      (l.run r g gr t setpoint).prevRequest ≤ g.ceiling ∧
      (-(c * 4096) ≤ l.accumulator → l.accumulator ≤ c * 4096 → -(c * 4096) ≤ a ∧ a ≤ c * 4096) ∧
      (r.kp = 0 → r.ki = 0 → l.accumulator = 0 → g.feedForward ≤ g.ceiling →
        (l.run r g gr t setpoint).prevRequest = g.feedForward) ∧
      (1 ≤ g.ceiling → ((LoopState.first g).run r g gr t setpoint).freeze ≠ .atCeiling)

/-- The setpoint (R51): the target of a SOAK or FLOW; in a RAMP, S0 moved toward the target by the elapsed time, rounded down,
always between them, and the target itself from the duration on. -/
def Obligations.SetpointFollowsTheSegment : Prop :=
∀ (c : Context) (g : Segment) (now start : Word32), c.clock = some start → 1 ≤ g.duration →
    (g.kind = .soak ∨ g.kind = .flow → c.setpoint g now = g.target) ∧
    (g.kind = .ramp →
      let e := min (now - start).toNat g.duration
      (c.setpoint g now : Int) = c.origin + ((g.target : Int) - c.origin) * e / g.duration ∧
        min c.origin g.target ≤ c.setpoint g now ∧ c.setpoint g now ≤ max c.origin g.target ∧
        (g.duration ≤ (now - start).toNat → c.setpoint g now = g.target) ∧
        (now = start → c.setpoint g now = c.origin))

/-! ## The heat cycle -/

/-- A usable sample in HEATING that ends nothing and completes nothing (R50 to R55, R74, R80): the clock of segment 0 starts and
sets S0, the peak follows, time in band takes the interval of a sample in band, the lag start follows, and the power loop runs and
writes its request in the class of the segment's kind. Every other block is as it was. -/
def Obligations.SampleInHeatingRunsTheLoop : Prop :=
∀ (h : HeadId) status (raw : Word16) s (c : Context) (r : Recipe) (g : Segment) (t : Nat),
    s.sup.mode ≠ .starting → (s.fronts.get h).replayActive = false → (s.heads.get h).state = .heating →
    s.running h = some (c, r, g) → g.kind ≠ .hold → status ≠ .high →
    (s.fronts.get h).calibration.convert status raw = some t → t ≤ r.maxTemp →
    let now := s.disp.timestamp
    let start := c.clock.getD now
    let origin := if c.clock = none ∧ g.kind = .ramp then t else c.origin
    let sp := Context.setpoint { c with clock := some start, origin := origin } g now
    let inBand := c.inBand + match c.prev with
      | some (t0, true) => (now - t0).toNat
      | _ => 0
    let judged := g.kind = .ramp ∧ 0 < r.lagLimit
    let lags := t + g.band < sp
    (judged → lags → ∀ t0, c.lagStart = some t0 → (now - t0).toNat ≤ r.lagLimit) →
    (g.kind = .ramp → (now - start).toNat < g.duration) →
    (g.kind = .soak ∨ g.kind = .flow → inBand < g.duration) →
    (g.kind = .flow → g.energyTarget = 0 ∨ c.segEnergy < g.energyTarget * 1000) →
    let lagStart := if judged then (if lags then some (c.lagStart.getD now) else none) else c.lagStart
    let loop := c.loop.run r g (s.disp.grant.get h) t sp
    let entry : RequestEntry := { request := loop.prevRequest, cls := if g.kind = .flow then .class1 else .class0 }
    let fe : FrontEnd := { s.fronts.get h with
      rx := none, lastStatus := some status, temperature := some t, sensor := .fresh
      timer := some (s.store.inForce.get h).sensorTimeout }
    let c' : Context := { c with
      clock := some start, origin := origin, peak := max c.peak t, inBand := inBand
      prev := some (now, decide (t ≤ sp + g.band ∧ sp ≤ t + g.band)), lagStart := lagStart, loop := loop }
    exec (.sample h (.good status raw)) s = .next { s with
      fronts := s.fronts.set h fe
      heads := s.heads.set h { s.heads.get h with ctx := some c' }
      disp := { s.disp with request := s.disp.request.set h (some entry) } }

/-- A usable sample that completes a heating segment with another heating segment behind it (R54, R57, R82): the summary of the
completed segment is appended, the next one is entered at the sample, with its S0 the former target, and the loop runs for it
with its accumulator clamped to the new ceiling. The drive, the grant and every other block stay. (That the sample is not judged
for ramp lag in the new segment is the model's reading, log entry 18.) -/
def Obligations.CompletedSegmentLeadsToTheNext : Prop :=
∀ (h : HeadId) status (raw : Word16) s (c : Context) (r : Recipe) (g g2 : Segment) (t : Nat) (start : Word32),
    s.sup.mode ≠ .starting → (s.fronts.get h).replayActive = false → (s.heads.get h).state = .heating →
    s.running h = some (c, r, g) → status ≠ .high →
    (s.fronts.get h).calibration.convert status raw = some t → t ≤ r.maxTemp → c.clock = some start →
    r.segments[c.segIndex + 1]? = some g2 → g2.kind ≠ .hold →
    let now := s.disp.timestamp
    let sp := c.setpoint g now
    let inBand := c.inBand + match c.prev with
      | some (t0, true) => (now - t0).toNat
      | _ => 0
    (g.kind = .ramp → 0 < r.lagLimit → t + g.band < sp → ∀ t0, c.lagStart = some t0 →
      (now - t0).toNat ≤ r.lagLimit) →
    ((g.kind = .ramp ∧ g.duration ≤ (now - start).toNat) ∨ (g.kind = .soak ∧ g.duration ≤ inBand) ∨
      (g.kind = .flow ∧ (g.duration ≤ inBand ∨ (g.energyTarget ≠ 0 ∧ g.energyTarget * 1000 ≤ c.segEnergy)))) →
    let summary : Summary :=
      { kind := g.kind, time := min (now - start).toNat 65535, peak := max c.peak t
        energy := min (c.segEnergy / 100) 65535 }
    let bound : Int := g2.ceiling * 4096
    let clamped : LoopState := { c.loop with accumulator := max (-bound) (min bound c.loop.accumulator) }
    let sp2 := if g2.kind = .ramp then g.target else g2.target
    let loop := clamped.run r g2 (s.disp.grant.get h) t sp2
    let entry : RequestEntry := { request := loop.prevRequest, cls := if g2.kind = .flow then .class1 else .class0 }
    let fe : FrontEnd := { s.fronts.get h with
      rx := none, lastStatus := some status, temperature := some t, sensor := .fresh
      timer := some (s.store.inForce.get h).sensorTimeout }
    let c' : Context := { c with
      segIndex := c.segIndex + 1, clock := some now
      origin := if g2.kind = .ramp then g.target else c.origin
      inBand := 0, prev := some (now, decide (t ≤ sp2 + g2.band ∧ sp2 ≤ t + g2.band)), lagStart := none
      peak := t, segEnergy := 0, summaries := c.summaries ++ [summary], loop := loop }
    exec (.sample h (.good status raw)) s = .next { s with
      fronts := s.fronts.set h fe
      heads := s.heads.set h { s.heads.get h with ctx := some c' }
      disp := { s.disp with request := s.disp.request.set h (some entry) } }

/-- The completion of the last heating segment (R58, R83): the drive is cut and the cut's energy added, the summary appended, the
energy window judged on the total, and the head enters HOLD with the accumulator and the previous request at 0, or, with no HOLD
behind, ends its cycle GOOD or WARN by its flags, the record of the context as it then stands appended to the buffer of its
reservation, with the buffer's counts (R62 step 5, R147). (That the drive is cut once, where no HOLD follows, is log entry 30; that the
in-band status of the sample that enters HOLD is free, log entry 19.) -/
def Obligations.LastHeatingSegmentEndsHeating : Prop :=
∀ (h : HeadId) status (raw : Word16) s (c : Context) (r : Recipe) (g : Segment) (t : Nat) (start : Word32),
    s.sup.mode ≠ .starting → (s.fronts.get h).replayActive = false → (s.heads.get h).state = .heating →
    s.running h = some (c, r, g) → c.summaries.length = c.segIndex → status ≠ .high →
    (s.fronts.get h).calibration.convert status raw = some t → t ≤ r.maxTemp → c.clock = some start →
    (∀ g2, r.segments[c.segIndex + 1]? = some g2 → g2.kind = .hold) →
    let now := s.disp.timestamp
    let sp := c.setpoint g now
    let inBand := c.inBand + match c.prev with
      | some (t0, true) => (now - t0).toNat
      | _ => 0
    (g.kind = .ramp → 0 < r.lagLimit → t + g.band < sp → ∀ t0, c.lagStart = some t0 →
      (now - t0).toNat ≤ r.lagLimit) →
    ((g.kind = .ramp ∧ g.duration ≤ (now - start).toNat) ∨ (g.kind = .soak ∧ g.duration ≤ inBand) ∨
      (g.kind = .flow ∧ (g.duration ≤ inBand ∨ (g.energyTarget ≠ 0 ∧ g.energyTarget * 1000 ≤ c.segEnergy)))) →
    let total := c.totalEnergy + s.cutEnergy h
    let summary : Summary :=
      { kind := g.kind, time := min (now - start).toNat 65535, peak := max c.peak t
        energy := min ((c.segEnergy + s.cutEnergy h) / 100) 65535 }
    let low := r.energyMin ≠ 0 ∧ total / 10 < r.energyMin * 100
    let high := r.energyMax ≠ 0 ∧ r.energyMax * 100 < total / 10
    ∃ u c', exec (.sample h (.good status raw)) s = .next u ∧ (u.heads.get h).ctx = some c' ∧
      c'.totalEnergy = total ∧ c'.summaries = c.summaries ++ [summary] ∧ c'.cycle = c.cycle ∧
      (c'.flags.energyLow = true ↔ c.flags.energyLow = true ∨ low) ∧
      (c'.flags.energyHigh = true ↔ c.flags.energyHigh = true ∨ high) ∧
      u.disp = { s.disp with
        request := s.disp.request.set h none, grant := s.disp.grant.set h { grant := 0, served := 0 } } ∧
      u.drives = s.drives.set h ((s.drives.get h).cut (s.store.inForce.get h).driveType) ∧
      (∀ k, k ≠ h → s.headUntouched u k) ∧
      (∀ g2, r.segments[c.segIndex + 1]? = some g2 →
        (u.heads.get h).state = .hold ∧ c'.segIndex = c.segIndex + 1 ∧ c'.clock = some now ∧ c'.peak = t ∧
        c'.inBand = 0 ∧ (∃ b, c'.prev = some (now, b)) ∧ c'.lagStart = none ∧ c'.segEnergy = 0 ∧
        c'.loop = { c.loop with accumulator := 0, prevRequest := 0 } ∧ c'.cycleTimer = c.cycleTimer) ∧
      (r.segments[c.segIndex + 1]? = none →
        s.cycleOver u h c.cycle
          (if c.flags.indexInHold ∨ c.flags.hotRelease ∨ c'.flags.energyLow ∨ c'.flags.energyHigh then .warn else .good)
          none ∧
        ∀ v, s.trace.reservation.get h = some v →
          let was := s.trace.get v.buffer
          let record := traceRecord h c'
          u.trace.get v.buffer =
            { state := if was.state = .closing ∧ was.reserved - 48 = 0 then .full else was.state
              used := was.used + record.length, reserved := was.reserved - 48, count := was.count + 1
              first := if was.count = 0 then c.cycle else was.first, last := c.cycle
              records := was.records ++ [record] } ∧
          u.trace.get v.buffer.other = s.trace.get v.buffer.other)

/-- Overtemperature in HEATING and HOLD (R56), and ramp lag in a RAMP (R55): the cycle ends OVERTEMP or UNDERHEAT at the sample;
from HEATING the request entry becomes absent, the grant entry 0 and the command output 0 or OFF. -/
def Obligations.SampleJudgementsEndTheCycle : Prop :=
∀ (h : HeadId) status (raw : Word16) s (c : Context) (r : Recipe) (g : Segment) (t : Nat),
    s.sup.mode ≠ .starting → (s.fronts.get h).replayActive = false → s.running h = some (c, r, g) →
    (s.fronts.get h).calibration.convert status raw = some t →
    let now := s.disp.timestamp
    ∃ u, exec (.sample h (.good status raw)) s = .next u ∧
      (((s.heads.get h).state = .heating ∨ (s.heads.get h).state = .hold) → (status = .high ∨ r.maxTemp < t) →
        s.cycleOver u h c.cycle .aborted (some .overtemp)) ∧
      (∀ t0, (s.heads.get h).state = .heating → status ≠ .high → t ≤ r.maxTemp → g.kind = .ramp → 0 < r.lagLimit →
        c.clock ≠ none → t + g.band < c.setpoint g now → c.lagStart = some t0 → r.lagLimit < (now - t0).toNat →
        s.cycleOver u h c.cycle .aborted (some .underheat)) ∧
      ((s.heads.get h).state = .heating → (u.heads.get h).state = .faulted →
        u.disp.request.get h = none ∧ u.disp.grant.get h = { grant := 0, served := 0 } ∧
        (u.drives.get h).output = (s.store.inForce.get h).driveType.zero) ∧
      ∀ k, k ≠ h → s.headUntouched u k

/-- A usable sample in HOLD that is not over temperature (R59): the release condition ends the cycle with no reason, GOOD or WARN by
its flags; otherwise the peak follows the sample, time in band grows by the interval from the previous sample when that was in band,
the sample is recorded (R53), and the head waits on, all else of its context as it was. (Whether the sample recorded counts as in band
is a free value, log entry 19: R53 keeps time in band in HOLD too, but R59 computes no setpoint there.) -/
def Obligations.HoldReleasesOrWaits : Prop :=
∀ (h : HeadId) status (raw : Word16) s (c : Context) (r : Recipe) (g : Segment) (t : Nat) (start : Word32),
    s.sup.mode ≠ .starting → (s.fronts.get h).replayActive = false → (s.heads.get h).state = .hold →
    s.running h = some (c, r, g) → (s.fronts.get h).calibration.convert status raw = some t →
    status ≠ .high → t ≤ r.maxTemp → c.clock = some start →
    let released := g.duration ≤ (s.disp.timestamp - start).toNat ∧ t ≤ g.target
    ∃ u, exec (.sample h (.good status raw)) s = .next u ∧ (∀ k, k ≠ h → s.headUntouched u k) ∧
      u.disp = s.disp ∧ u.drives = s.drives ∧
      (released → s.cycleOver u h c.cycle (if c.flags.warns then .warn else .good) none) ∧
      (¬released → (u.heads.get h).state = .hold ∧
        ∃ inBand, u.heads.get h = { s.heads.get h with ctx := some { c with
          peak := max c.peak t
          inBand := c.inBand + match c.prev with
            | some (t0, true) => (s.disp.timestamp - t0).toNat
            | _ => 0
          prev := some (s.disp.timestamp, inBand) } })

/-- The two timers that end cycles. The expiry of a sensor timer (R36): the timer stops, the sensor is STALE, the temperature stays; a
cycle in HEATING or HOLD ends SENSOR_LOST, and a head in any other state is as it was. The expiry of a cycle-time timer (R60): HEATING
ends CYCLE_TIME; HOLD ends with no reason, WARN when the last usable temperature is above the HOLD target or a warning flag is set,
else GOOD. What ends a cycle here is the end of a cycle by R62, whose steps EndOfACycleTakesItsSteps states: from HEATING the command
is that operation on the state with its timer stopped. (That either takes effect at a timer run down to 0 is log entry 6.) -/
def Obligations.TimerExpiriesEndTheCycle : Prop :=
  (∀ (h : HeadId) s c, (s.fronts.get h).timer = some 0 →
      ((s.heads.get h).state ≠ .heating → (s.heads.get h).state ≠ .hold →
        exec (.sensorTimerExpiry h) s =
          .next { s with fronts := s.fronts.set h { s.fronts.get h with timer := none, sensor := .stale } }) ∧
      ((s.heads.get h).state = .heating ∨ (s.heads.get h).state = .hold → (s.heads.get h).ctx = some c →
        ∃ t, exec (.sensorTimerExpiry h) s = .next t ∧
          t = State.endCycle { s with fronts := s.fronts.set h { s.fronts.get h with timer := none, sensor := .stale } } h
            (some .sensorLost) ∧
          s.cycleOver t h c.cycle .aborted (some .sensorLost) ∧
          t.fronts.get h = { s.fronts.get h with timer := none, sensor := .stale, replayActive := false } ∧
          ∀ k, k ≠ h → s.headUntouched t k)) ∧
  (∀ (h : HeadId) s (c : Context), (s.heads.get h).ctx = some c → c.cycleTimer = some 0 →
      ∃ u, exec (.cycleTimeExpiry h) s = .next u ∧
        (∀ k, k ≠ h → s.headUntouched u k) ∧
        ((s.heads.get h).state = .heating →
          u = State.endCycle { s with heads := s.heads.set h { s.heads.get h with ctx := some { c with cycleTimer := none } } }
            h (some .cycleTime) ∧
          s.cycleOver u h c.cycle .aborted (some .cycleTime) ∧
          u.disp.request.get h = none ∧ (u.drives.get h).output = (s.store.inForce.get h).driveType.zero) ∧
        ∀ r g t, (s.heads.get h).state = .hold → s.running h = some (c, r, g) →
          (s.fronts.get h).temperature = some t →
          s.cycleOver u h c.cycle (if c.flags.warns ∨ g.target < t then .warn else .good) none ∧
          ∃ c', (u.heads.get h).ctx = some c' ∧
            (c'.flags.hotRelease = true ↔ c.flags.hotRelease = true ∨ g.target < t))

/-- The end of a cycle (R62, R61), for any reason or none. In HEATING and HOLD the summary of the segment in progress is appended
unless it was; in LOOKUP the queued lookup goes. The timer stops, result and reason are set, the record of the context as it then
stands is appended to the buffer of the head's reservation, which is consumed (R147), and the head is DONE or FAULTED with its notice
set. In DRAINING, the end after which no head is active moves the mode to STANDBY; in any other case the mode stays (R170). -/
def Obligations.EndOfACycleTakesItsSteps : Prop :=
∀ (s : State) (h : HeadId) (reason : Option Reason) (c : Context) (v : Reservation),
    (s.heads.get h).ctx = some c → s.isActive h = true → s.trace.reservation.get h = some v →
    let u := s.endCycle h reason
    let driven := (s.heads.get h).state = .heating
    let amount := if driven then s.cutEnergy h else 0
    let segEnergy := c.segEnergy + amount
    let result : CycleResult := match reason with
      | some _ => .aborted
      | none => if c.flags.warns then .warn else .good
    let summary : Summary :=
      { kind := (c.segment.map (·.kind)).getD .ramp
        time := match c.clock with
          | some t => min (s.disp.timestamp - t).toNat 65535
          | none => 0
        peak := c.peak, energy := min (segEnergy / 100) 65535 }
    let due := (s.heads.get h).state ≠ .lookup ∧ c.summaries.length ≤ c.segIndex
    let c' : Context := { c with
      totalEnergy := c.totalEnergy + amount, segEnergy := segEnergy
      summaries := if due then c.summaries ++ [summary] else c.summaries
      cycleTimer := none, result := some result, reason := reason }
    u.heads.get h = { state := if result = .aborted then .faulted else .done, ctx := some c', notice := true } ∧
      (u.trace.get v.buffer).records = (s.trace.get v.buffer).records ++ [traceRecord h c'] ∧
      (u.trace.get v.buffer).last = c.cycle ∧
      (u.trace.get v.buffer).first = (if (s.trace.get v.buffer).count = 0 then c.cycle else (s.trace.get v.buffer).first) ∧
      u.sup = { s.sup with
        mode := if s.sup.mode = .draining ∧ (∀ k, k ≠ h → s.isActive k = false) then .standby else s.sup.mode } ∧
      (u.trace.get v.buffer).count = (s.trace.get v.buffer).count + 1 ∧
      (u.trace.get v.buffer).used = (s.trace.get v.buffer).used + (traceRecord h c').length ∧
      (u.trace.get v.buffer).reserved = (s.trace.get v.buffer).reserved - 48 ∧
      ((u.trace.get v.buffer).state =
        if (s.trace.get v.buffer).state = .closing ∧ (s.trace.get v.buffer).reserved - 48 = 0 then .full
        else (s.trace.get v.buffer).state) ∧
      u.trace.get v.buffer.other = s.trace.get v.buffer.other ∧
      u.trace.reservation.get h = none ∧ (u.fronts.get h).replayActive = false ∧
      (∀ e, e ∈ u.store.queue ↔ e ∈ s.store.queue ∧ ((s.heads.get h).state = .lookup → e.head ≠ h)) ∧
      (driven → u.disp.request.get h = none ∧ u.disp.grant.get h = { grant := 0, served := 0 } ∧
        u.drives.get h = (s.drives.get h).cut (s.store.inForce.get h).driveType) ∧
      (¬driven → u.disp = s.disp ∧ u.drives = s.drives) ∧
      (∀ k, k ≠ h → s.headUntouched u k) ∧ u.cabinet = s.cabinet ∧ u.links = s.links ∧ u.line = s.line

/-- The energy and the drive at a cut (R102, R112, R93): a LEVEL head accrues its grant over the time since the last expiry, a BURST
head its max power over a running on part; the output becomes 0 or OFF and a window stops. -/
def Obligations.CutAccruesAndRemovesPower : Prop :=
∀ (s : State) (h : HeadId) (c : Context), (s.heads.get h).ctx = some c →
    let f := s.store.inForce.get h
    let d := s.drives.get h
    let amount := match f.driveType, d.windowStart with
      | .level, _ => (s.disp.grant.get h).grant * (s.disp.timestamp - s.disp.lastExpiry).toNat
      | .burst, some w => if d.onRunning then f.maxPower * (s.disp.timestamp - w).toNat else 0
      | .burst, none => 0
    let v : DriveCommand := if f.driveType = .level then .level 0 else .gate false
    let u := s.cut h
    u.heads = s.heads.set h { s.heads.get h with ctx := some { c with
      totalEnergy := c.totalEnergy + amount, segEnergy := c.segEnergy + amount } } ∧
      u.disp = { s.disp with
        request := s.disp.request.set h none, grant := s.disp.grant.set h { grant := 0, served := 0 } } ∧
      u.drives = s.drives.set h { d with
        output := v, windowStart := none, onTime := 0, onRunning := false
        inProgress := if d.inProgress = none then some v else d.inProgress
        waiting := if d.inProgress = none then d.waiting else some v } ∧
      u.store = s.store ∧ u.fronts = s.fronts ∧ u.links = s.links ∧ u.line = s.line ∧ u.sup = s.sup ∧
      u.trace = s.trace ∧ u.cabinet = s.cabinet

/-- The record of a cycle (R183): 16 words and 4 for each summary, so at most the 48 of a reservation; the marker, the number of
summaries, result and reason, then head, link and flags, then the items of the context, the summaries, and the trailer. -/
def Obligations.RecordCarriesTheContext : Prop :=
∀ (h : HeadId) (c : Context), c.summaries.length ≤ 8 →
    let n := c.summaries.length
    let word : Nat → Nat := fun i => ((traceRecord h c).getD i 0).toNat
    let double : Nat → Nat := fun i => word i + 65536 * word (i + 1)
    let bit : Nat → Bool → Nat := fun k b => if b then 2 ^ k else 0
    (traceRecord h c).length = 16 + 4 * n ∧ (traceRecord h c).length ≤ 48 ∧
      0xB000 ≤ word 0 ∧ word 0 ≤ 0xB7FF ∧ word 0 / 2048 = 22 ∧ word 0 / 128 % 16 = n ∧
      word 0 / 32 % 4 = resultCode c.result ∧ word 0 % 32 = reasonCode c.reason ∧
      word 1 % 8 = h.val ∧ word 1 / 8 % 8 = c.link.val ∧
      word 1 / 64 = bit 0 c.flags.dry + bit 1 c.flags.sensorHeld + bit 2 c.flags.starved + bit 3 c.flags.relieved
        + bit 4 c.flags.eccCorrected + bit 5 c.flags.indexInHold + bit 6 c.flags.hotRelease + bit 7 c.flags.energyLow
        + bit 8 c.flags.energyHigh ∧
      double 2 = c.cycle.toNat ∧ double 4 = c.joint.toNat ∧ double 6 = c.coil.toNat ∧ word 8 = c.code % 65536 ∧
      word 9 = c.revision.toNat ∧ double 10 = c.totalEnergy / 10 % 4294967296 ∧ double 12 = c.start.toNat ∧
      (∀ (i : Nat) (m : Summary), c.summaries[i]? = some m →
        word (14 + 4 * i) = m.kind.code ∧ word (15 + 4 * i) = m.time % 65536 ∧ word (16 + 4 * i) = m.peak % 65536 ∧
        word (17 + 4 * i) = m.energy % 65536) ∧
      word (14 + 4 * n) = 0xEE00 + h.val ∧ word (15 + 4 * n) = c.cycle.toNat % 65536

/-! ## The power dispatcher -/

/-- A dispatch expiry (R89, R91, R93 to R95, R99 to R101, R103): the schedule moves on by the period in force, the budget
follows the cabinet state, each participant accrues its former grant when LEVEL, takes its part of the division, and has its
counter and flags brought up to date; every other head, and every block that takes no part, stays. (What counts as due is log
entry 6.) -/
def Obligations.DispatchExpiryServesItsParticipants : Prop :=
∀ s, reached s.disp.timestamp s.disp.nextExpiry = true →
    let threshold := s.store.settings.reliefThreshold
    let relief : HeadId → RequestEntry → Prop := fun h e => s.disp.shortfall.get h = threshold ∧ 0 < e.request
    let ps : Participants := PerSix.ofFn fun h => (s.disp.request.get h).map fun e =>
      { request := e.request
        cls := if s.disp.shortfall.get h = threshold ∧ 0 < e.request then .class2
          else if e.cls = .class1 then .class1 else .class0 }
    let budget := if s.cabinet = .ready then s.disp.budgetSetting else 0
    let v := divideBudget budget s.disp.pointer ps
    let length := (s.disp.nextExpiry - s.disp.lastExpiry).toNat
    ∃ t, exec .dispatchExpiry s = .next t ∧
      t.disp.lastExpiry = s.disp.nextExpiry ∧ t.disp.period = s.store.settings.dispatchPeriod ∧
      t.disp.nextExpiry = s.disp.nextExpiry + BitVec.ofNat 32 s.store.settings.dispatchPeriod ∧
      t.disp.budget = budget ∧ t.disp.lastTotal = (sixInOrder.map fun h => v.grants.get h).sum ∧
      t.disp.pointer = v.pointer ∧ t.disp.request = s.disp.request ∧ t.disp.timestamp = s.disp.timestamp ∧
      t.disp.cycleCounter = s.disp.cycleCounter ∧ t.disp.budgetSetting = s.disp.budgetSetting ∧
      t.store = s.store ∧ t.fronts = s.fronts ∧ t.cabinet = s.cabinet ∧ t.links = s.links ∧ t.line = s.line ∧
      t.sup = s.sup ∧ t.trace = s.trace ∧
      (∀ h, s.disp.request.get h = none → t.heads.get h = s.heads.get h ∧ t.drives.get h = s.drives.get h ∧
        t.disp.grant.get h = s.disp.grant.get h ∧ t.disp.shortfall.get h = s.disp.shortfall.get h) ∧
      ∀ h e, s.disp.request.get h = some e →
        let grant := v.grants.get h
        let f := s.store.inForce.get h
        t.disp.grant.get h = { grant := grant, served := e.request } ∧
        (relief h e → t.disp.shortfall.get h = 0) ∧
        (¬relief h e → grant < e.request →
          t.disp.shortfall.get h = min (s.disp.shortfall.get h + 1) threshold) ∧
        (¬relief h e → ¬grant < e.request → t.disp.shortfall.get h = 0) ∧
        (t.heads.get h).state = (s.heads.get h).state ∧ (t.heads.get h).notice = (s.heads.get h).notice ∧
        (∀ c, (s.heads.get h).ctx = some c →
          let amount := if f.driveType = .level then (s.disp.grant.get h).grant * length else 0
          ∃ c', (t.heads.get h).ctx = some c' ∧ c' = { c with
              totalEnergy := c.totalEnergy + amount, segEnergy := c.segEnergy + amount, flags := c'.flags } ∧
            (c'.flags.starved = true ↔ c.flags.starved = true ∨ grant < e.request) ∧
            (c'.flags.relieved = true ↔ c.flags.relieved = true ∨ relief h e) ∧
            c'.flags = { c.flags with starved := c'.flags.starved, relieved := c'.flags.relieved }) ∧
        (f.driveType = .level →
          t.drives.get h = (s.drives.get h).command (.level (if s.isDry h = true then 0 else grant))) ∧
        (f.driveType = .burst → (s.drives.get h).windowStart ≠ none → t.drives.get h = s.drives.get h) ∧
        (f.driveType = .burst → (s.drives.get h).windowStart = none →
          let d := grant * f.burstWindow / f.maxPower
          t.drives.get h = { (s.drives.get h).command (.gate (decide (0 < d ∧ s.isDry h = false))) with
            windowStart := some s.disp.nextExpiry, onTime := d, onRunning := decide (0 < d) })

/-- The division of a budget. The division of any budget over any participants (R97): the grants come to the budget or to all that
is asked, whichever is less; no head gets more than it asks, and a head that takes no part gets nothing. The order of the classes
(R96, R97): relief first, then class 1, then class 0. A class that fits is granted whole; the first that does not shares what is
left in proportion, each member with its share rounded down or one more; the classes after it get nothing. The
leftover of a short class (R98): one unit each to the first members from the rotation pointer on, cyclically by head number, whose
share is below their request; the pointer becomes the number after the last of them, and stays when nothing is left over. -/
def Obligations.DivisionServesTheClassesInOrder : Prop :=
  (∀ (budget : Nat) (pointer : HeadId) (ps : Participants),
      let v := divideBudget budget pointer ps
      (sixInOrder.map fun h => v.grants.get h).sum = min budget (sixInOrder.map fun h => requestOf ps h).sum ∧
        (∀ h, v.grants.get h ≤ requestOf ps h) ∧ ∀ h, ps.get h = none → v.grants.get h = 0) ∧
  (∀ (budget : Nat) (pointer : HeadId) (ps : Participants),
      let v := divideBudget budget pointer ps
      let total : ServeClass → Nat := fun c => (sixInOrder.map fun h => if memberOf ps c h then requestOf ps h else 0).sum
      let whole : ServeClass → Prop := fun c => ∀ h, memberOf ps c h = true → v.grants.get h = requestOf ps h
      let nothing : ServeClass → Prop := fun c => ∀ h, memberOf ps c h = true → v.grants.get h = 0
      let shared : ServeClass → Nat → Prop := fun c left =>
        (sixInOrder.map fun h => if memberOf ps c h then v.grants.get h else 0).sum = left ∧
          ∀ h, memberOf ps c h = true → requestOf ps h * left / total c ≤ v.grants.get h ∧
            v.grants.get h ≤ requestOf ps h * left / total c + 1
      (total .class2 + total .class1 + total .class0 ≤ budget →
          whole .class2 ∧ whole .class1 ∧ whole .class0 ∧ v.pointer = pointer) ∧
        (budget < total .class2 → shared .class2 budget ∧ nothing .class1 ∧ nothing .class0) ∧
        (total .class2 ≤ budget → budget < total .class2 + total .class1 →
          whole .class2 ∧ shared .class1 (budget - total .class2) ∧ nothing .class0) ∧
        (total .class2 + total .class1 ≤ budget → budget < total .class2 + total .class1 + total .class0 →
          whole .class2 ∧ whole .class1 ∧ shared .class0 (budget - total .class2 - total .class1))) ∧
  (∀ (ps : Participants) (d : Division) (c : ServeClass), d.remainder < classSum ps c →
      let share : HeadId → Nat := fun h => requestOf ps h * d.remainder / classSum ps c
      let leftover := d.remainder - (sixInOrder.map fun h => if memberOf ps c h then share h else 0).sum
      let walk : List HeadId := [d.pointer, d.pointer + 1, d.pointer + 2, d.pointer + 3, d.pointer + 4, d.pointer + 5]
      let waiting := walk.filter fun h => memberOf ps c h && decide (share h < requestOf ps h)
      let served := waiting.take leftover
      let v := serveClass ps d c
      leftover ≤ waiting.length ∧ v.remainder = 0 ∧
        (∀ h, memberOf ps c h = true → v.grants.get h = share h + if h ∈ served then 1 else 0) ∧
        (∀ h, memberOf ps c h = false → v.grants.get h = d.grants.get h) ∧
        v.pointer = match served.getLast? with
          | some h => h + 1
          | none => d.pointer)

/-- One millisecond (R87): the timestamp goes up by 1 and wraps; the timers kept in milliseconds run down by 1, to 0 at least (log
entry 6). Nothing else changes. -/
def Obligations.TimestampTickCountsAMillisecond : Prop :=
∀ s, ∃ t, exec .timestampTick s = .next t ∧
    t.disp = { s.disp with timestamp := s.disp.timestamp + 1 } ∧
    t.disp.timestamp.toNat = (s.disp.timestamp.toNat + 1) % 4294967296 ∧
    (∀ h, t.fronts.get h = { s.fronts.get h with timer := (s.fronts.get h).timer.map fun n => n - 1 }) ∧
    (∀ h, t.drives.get h = { s.drives.get h with timer := (s.drives.get h).timer.map fun n => n - 1 }) ∧
    (∀ h, (t.heads.get h).state = (s.heads.get h).state ∧ (t.heads.get h).notice = (s.heads.get h).notice ∧
      (t.heads.get h).ctx = (s.heads.get h).ctx.map fun c =>
        { c with cycleTimer := c.cycleTimer.map fun n => n - 1 }) ∧
    t.store = s.store ∧ t.cabinet = s.cabinet ∧ t.links = s.links ∧ t.line = s.line ∧ t.sup = s.sup ∧
    t.trace = s.trace

/-! ## The drives and the cabinet -/

/-- Burst windows and the command line. Later burst windows (R110, R111). A window start, due W after the last, accrues a window
still on, latches grant × W ÷ Pmax rounded down, at most W for a grant within Pmax, and sets the gate ON for a latch above 0 on
a cycle that is not dry. The end of an on part shorter than the window sets the gate OFF and accrues Pmax × d. Nothing outside
the head's drive and energy changes. The command line of a drive (R108): a command event starts its frame on an idle line and
otherwise waits, replacing one that waited; when the frame in progress has been sent, the waiting one follows. (What counts as
due is log entry 6; that the end of an on part, or of a frame, where none runs changes nothing is log entry 1.) -/
def Obligations.BurstWindowsAndCommandFrames : Prop :=
  (∀ (h : HeadId) s (start : Word32), (s.drives.get h).windowStart = some start →
      let f := s.store.inForce.get h
      let u := s.drives.get h
      let accrued : State := { s with heads := s.heads.set h { s.heads.get h with
        ctx := (s.heads.get h).ctx.map fun c => { c with
          totalEnergy := c.totalEnergy + f.maxPower * u.onTime, segEnergy := c.segEnergy + f.maxPower * u.onTime } } }
      let d := (s.disp.grant.get h).grant * f.burstWindow / f.maxPower
      ((s.disp.grant.get h).grant ≤ f.maxPower → d ≤ f.burstWindow) ∧
        (reached s.disp.timestamp (start + BitVec.ofNat 32 f.burstWindow) = true →
          let drive : DriveUnit := { u.command (.gate (decide (0 < d ∧ s.isDry h = false))) with
            windowStart := some (start + BitVec.ofNat 32 f.burstWindow), onTime := d, onRunning := decide (0 < d) }
          exec (.windowStart h) s =
            .next { (if u.onRunning = true then accrued else s) with drives := s.drives.set h drive }) ∧
        (u.onRunning = true → u.onTime < f.burstWindow →
          reached s.disp.timestamp (start + BitVec.ofNat 32 u.onTime) = true →
          exec (.onPartEnd h) s =
            .next { accrued with drives := s.drives.set h { u.command (.gate false) with onRunning := false } }) ∧
        (u.onRunning = false ∨ f.burstWindow ≤ u.onTime → exec (.onPartEnd h) s = .next s)) ∧
  (∀ (h : HeadId) s (v : DriveCommand),
      let sent : DriveUnit := { s.drives.get h with inProgress := (s.drives.get h).waiting, waiting := none }
      ((s.drives.get h).inProgress ≠ none →
        exec (.driveFrameSent h) s = .next { s with drives := s.drives.set h sent }) ∧
        ((s.drives.get h).inProgress = none → exec (.driveFrameSent h) s = .next s ∧
          (s.drives.get h).command v = { s.drives.get h with output := v, inProgress := some v }) ∧
        ((s.drives.get h).inProgress ≠ none →
          (s.drives.get h).command v = { s.drives.get h with output := v, waiting := some v }))

/-- A drive's status frame (R114, R116, R63) and the drive status timeout (R115). A good frame outside STARTING sets the state
and restarts the timer; a bad one, or one in STARTING, does neither. The timeout makes the state UNKNOWN. A change into TRIPPED
or UNKNOWN ends a driven cycle in HEATING DRIVE_TRIP or DRIVE_LOST, by the operation EndOfACycleTakesItsSteps states; nothing else
does. (That the timeout takes effect at a timer
run down to 0 is log entry 6.) -/
def Obligations.DriveStatusReachesItsHead : Prop :=
∀ (h : HeadId) s,
    (∀ frame, frame = .bad ∨ s.sup.mode = .starting → exec (.driveStatus h frame) s =
      .next { s with drives := s.drives.set h { s.drives.get h with rx := none } }) ∧
    (∀ status, s.sup.mode ≠ .starting → ∃ t, exec (.driveStatus h (.good status)) s = .next t ∧
      (t.drives.get h).state = driveStateOf status ∧
      (t.drives.get h).timer = some s.store.settings.driveTimeout ∧ (∀ k, k ≠ h → s.headUntouched t k) ∧
      (∀ c, status = .tripped → (s.drives.get h).state ≠ .tripped → (s.heads.get h).state = .heating →
        (s.heads.get h).ctx = some c → c.dry = false →
        t = State.endCycle { s with drives := s.drives.set h { s.drives.get h with
          rx := none, state := .tripped, timer := some s.store.settings.driveTimeout } } h (some .driveTrip) ∧
        s.cycleOver t h c.cycle .aborted (some .driveTrip)) ∧
      (status ≠ .tripped ∨ (s.drives.get h).state = .tripped ∨ (s.heads.get h).state ≠ .heating ∨ s.isDry h = true →
        t = { s with drives := s.drives.set h { s.drives.get h with
          rx := none, state := driveStateOf status, timer := some s.store.settings.driveTimeout } })) ∧
    ((s.drives.get h).timer = some 0 → ∃ t, exec (.driveStatusTimeout h) s = .next t ∧
      (t.drives.get h).state = .unknown ∧ (t.drives.get h).timer = none ∧ (∀ k, k ≠ h → s.headUntouched t k) ∧
      (∀ c, (s.drives.get h).state ≠ .unknown → (s.heads.get h).state = .heating →
        (s.heads.get h).ctx = some c → c.dry = false →
        t = State.endCycle { s with drives := s.drives.set h { s.drives.get h with state := .unknown, timer := none } } h
          (some .driveLost) ∧
        s.cycleOver t h c.cycle .aborted (some .driveLost)) ∧
      ((s.drives.get h).state = .unknown ∨ (s.heads.get h).state ≠ .heating ∨ s.isDry h = true →
        t = { s with drives := s.drives.set h { s.drives.get h with state := .unknown, timer := none } }))

/-- Events that reach all six heads. A change of the cabinet status input (R117, R118, R63): the state follows the level; on the
change to NOT_READY every driven cycle in HEATING ends CABINET, in an order the rules leave open (log entry 13), and no other head
is touched. An INDEX frame (R162, R175, R176, R64): with snoop on, the coil serial and the count follow it, every cycle in LOOKUP or
HEATING ends INDEXED, a cycle in HOLD is marked, and no other head is touched; in STARTING it is ignored; while the HD6 drives the
line, or when its first character takes a framing error (R17), it is lost. With snoop off, the indexer address being the strap
address, it is a command frame: refused UNKNOWN_KIND when taken (R165), and else discarded (R163). (The model's
own: the addresses are those in force at the frame's end, log entry 33; a framing error of R17 on the line loses it, log entry 34.) -/
def Obligations.CabinetAndIndexReachEveryHead : Prop :=
  (∀ s, (s.cabinet = .notReady → exec (.cabinetInputChange .ready) s = .next { s with cabinet := .ready }) ∧
      (∀ level, s.cabinet = level → exec (.cabinetInputChange level) s = .next s) ∧
      (s.cabinet = .ready → ∃ t, exec (.cabinetInputChange .notReady) s = .next t ∧ t.cabinet = .notReady ∧
        t.store = s.store ∧ t.links = s.links ∧ t.line = s.line ∧ t.disp.budget = s.disp.budget ∧
        ∀ h, (∀ c, (s.heads.get h).state = .heating → (s.heads.get h).ctx = some c → c.dry = false →
            s.cycleOver t h c.cycle .aborted (some .cabinet) ∧ t.disp.request.get h = none ∧
            (t.drives.get h).output = (s.store.inForce.get h).driveType.zero) ∧
          ((s.heads.get h).state ≠ .heating ∨ s.isDry h = true → s.headUntouched t h))) ∧
  (∀ (serial : Word32) s,
      (s.line.txEnable = true → exec (.index serial) s = .next s) ∧
      (s.line.txEnable = false → s.line.spoiled = true →
        exec (.index serial) s = .next { s with line := { s.line with rx := none, frameTimer := none, spoiled := false } }) ∧
      (s.takes → s.store.settings.indexer = s.line.strap.toNat →
        exec (.index serial) s = .next (s.replies 0xFF [1, 0x51])) ∧
      (s.line.txEnable = false → s.line.spoiled = false → s.store.settings.indexer = s.line.strap.toNat →
        s.line.strap = 0 ∨ s.line.reply ≠ .none →
        exec (.index serial) s = .next { s with line := { s.line with rx := none, frameTimer := none } }) ∧
      (s.line.txEnable = false → s.line.spoiled = false → s.store.settings.indexer ≠ s.line.strap.toNat → s.sup.mode = .starting →
        exec (.index serial) s = .next { s with line := { s.line with rx := none, frameTimer := none } }) ∧
      (s.line.txEnable = false → s.line.spoiled = false → s.store.settings.indexer ≠ s.line.strap.toNat → s.sup.mode ≠ .starting →
        ∃ t, exec (.index serial) s = .next t ∧ t.sup.coil = serial ∧ t.sup.indexCount = s.sup.indexCount + 1 ∧
          t.sup.enable = s.sup.enable ∧ t.sup.restart = s.sup.restart ∧ t.links = s.links ∧ t.cabinet = s.cabinet ∧
          t.line = { s.line with rx := none, frameTimer := none } ∧
          ∀ h, (∀ c, (s.heads.get h).state = .lookup ∨ (s.heads.get h).state = .heating →
              (s.heads.get h).ctx = some c → s.cycleOver t h c.cycle .aborted (some .indexed)) ∧
            (∀ c, (s.heads.get h).state = .hold → (s.heads.get h).ctx = some c →
              t.heads.get h = { s.heads.get h with ctx := some { c with flags := { c.flags with indexInHold := true } } } ∧
              t.drives.get h = s.drives.get h ∧ t.trace.reservation.get h = s.trace.reservation.get h) ∧
            (s.isActive h = false → s.headUntouched t h)))

/-! ## The station links -/

/-- Characters on a link. On one that drops none (R124 cases 4 to 6, R125 to R127, R130): a lead closes the unit in reception and
opens a new one; another character joins the unit, which is closed when complete or when its second character is above 14; one outside
a frame is dropped. Each stored character restarts the timer and asserts the hold output at the high mark. A HALTED link takes
nothing. Overrun (R128) and discard (R129): a character that meets a full FIFO is dropped, the newest stored character is tagged, the
unit in reception closed and discard turned on; in discard, everything is dropped but a lead that finds room, which ends the discard
and is stored. The character that new settings came into force during (R17) is taken as one with a framing error, so never as the
abort-all character. (That the completion of the write says which links are in a character is log entry 34.) -/
def Obligations.CharactersAreStoredInUnits : Prop :=
  (∀ (l : LinkId) (c : Character) s,
      let k := s.links.get l
      let set := s.store.settings
      let x : FifoChar := { data := c.data, mark := c.mark, tag := if c.framing then .framing else .clean }
      let hold := if set.holdHigh ≤ k.fifoCount + 1 then true else k.holdOut
      let timer : CharTimer := { bits := 110, rate := set.stationRate }
      (k.state = .halted → exec (.stationCharacter l c) s = .next s) ∧
      (k.state = .running → k.spoiled = false → isAbortAll c = false → k.discard = false → k.fifoCount < 64 →
        (c.mark = true →
          let k' : StationLink := { k with
            closed := k.closed ++ k.opened.toList, opened := some [x], interTimer := some timer, holdOut := hold }
          exec (.stationCharacter l c) s = .next { s with links := s.links.set l k' }) ∧
        (c.mark = false → k.opened = none → exec (.stationCharacter l c) s = .next s) ∧
        (∀ u : List FifoChar, c.mark = false → k.opened = some u →
          let u' := u ++ [x]
          let size : Byte := (u'.map fun y => y.data).getD 1 0
          let complete := 2 ≤ u'.length ∧ u'.length = 3 + size.toNat
          let tooLong := 2 ≤ u'.length ∧ 14 < size.toNat
          let k' : StationLink :=
            if complete ∨ tooLong then { k with closed := k.closed ++ [u'], opened := none, interTimer := none, holdOut := hold }
            else { k with opened := some u', interTimer := some timer, holdOut := hold }
          exec (.stationCharacter l c) s = .next { s with links := s.links.set l k' }))) ∧
  (∀ (l : LinkId) (c : Character) s,
      let k := s.links.get l
      let tagged : List FifoChar → List FifoChar := fun u => u.dropLast ++ (u.getLast?.map fun x => { x with tag := .overrunFollow }).toList
      k.state = .running → k.spoiled = false → isAbortAll c = false →
      (∀ u : List FifoChar, k.discard = false → 64 ≤ k.fifoCount → k.opened = some u → u ≠ [] →
        let k' : StationLink := { k with
          closed := k.closed ++ [tagged u], opened := none, interTimer := none, discard := true }
        exec (.stationCharacter l c) s = .next { s with links := s.links.set l k' }) ∧
      (∀ older u, k.discard = false → 64 ≤ k.fifoCount → k.opened = none → k.closed = older ++ [u] → u ≠ [] →
        exec (.stationCharacter l c) s =
          .next { s with links := s.links.set l { k with closed := older ++ [tagged u], discard := true } }) ∧
      (k.discard = true → c.mark = false ∨ 64 ≤ k.fifoCount → exec (.stationCharacter l c) s = .next s) ∧
      (k.discard = true → c.mark = true → k.fifoCount < 64 →
        exec (.stationCharacter l c) s =
          exec (.stationCharacter l c) { s with links := s.links.set l { k with discard := false } })) ∧
  ∀ (l : LinkId) (c : Character) s, (s.links.get l).state = .running → (s.links.get l).spoiled = true →
    exec (.stationCharacter l c) s = exec (.stationCharacter l { c with framing := true })
      { s with links := s.links.set l { s.links.get l with spoiled := false } }

/-- The abort-all character (R124 case 1, R131, R68): on a RUNNING link the unit in reception is closed as it is, every active
cycle on a head the link owns ends STATION_LINE, and no other head and nothing else of any link changes. And the gap limit
(R127): at its expiry the unit in reception is closed. (That the limit may come at any time while the timer runs is log entry
7.) -/
def Obligations.AbortAllStopsTheHeadsOfItsLink : Prop :=
∀ (l : LinkId) s,
    let k := s.links.get l
    let closed : StationLink := { k with
      closed := k.closed ++ k.opened.toList, opened := none, interTimer := if k.opened = none then k.interTimer else none }
    (k.state = .running → k.spoiled = false →
      ∃ t, exec (.stationCharacter l { data := 0x3F, mark := true, framing := false }) s = .next t ∧
      t.links = s.links.set l closed ∧ t.line = s.line ∧ t.cabinet = s.cabinet ∧
      ∀ h, (∀ c, (s.store.inForce.get h).owner = some l → s.isActive h = true → (s.heads.get h).ctx = some c →
          s.cycleOver t h c.cycle .aborted (some .stationLine)) ∧
        ((s.store.inForce.get h).owner ≠ some l ∨ s.isActive h = false → s.headUntouched t h)) ∧
    (k.interTimer ≠ none → exec (.interCharacterTimerExpiry l) s =
      .next { s with links := s.links.set l { closed with interTimer := none } })

/-- The judgement of a taken unit (Table 7.2), test by test, and its LINK_ERROR (R134): the unit goes, the reply carries the reason
and the lead's value, and nothing outside the link changes. (That a link's service of its FIFO is one of the commands START, ABORT,
RELEASE, QUERY and LINK_ERROR is log entry 5; that each of them changes nothing when the unit is not its own is log entry 1.) -/
def Obligations.TakenUnitsAreJudgedInOrder : Prop :=
∀ (l : LinkId) s (u : List FifoChar), s.serves l u →
    let bytes : List Byte := u.map fun x => x.data
    let lead := bytes.headD 0
    let size := (bytes.getD 1 0).toNat
    let overrun := ∃ x ∈ u, x.tag = .overrunFollow
    let complete := 2 ≤ u.length ∧ u.length = 3 + size
    let damaged := (∃ x ∈ u, x.tag = .framing) ∨ (bytes.map BitVec.toNat).sum % 256 ≠ 0
    let request := lead = 0x10 ∨ lead = 0x11 ∨ lead = 0x12 ∨ lead = 0x13
    let length := if lead = 0x10 then 7 else 1
    let fails : LinkErrorReason → Prop := fun reason =>
      exec (.linkError l) s = .next (s.answer l (.linkError reason lead)) ∧ exec (.start l) s = .next s ∧
        exec (.abort l) s = .next s ∧ exec (.release l) s = .next s ∧ exec (.query l) s = .next s
    (overrun → fails .overrun) ∧ (¬overrun → ¬complete → fails .format) ∧
      (¬overrun → complete → damaged → fails .check) ∧
      (¬overrun → complete → ¬damaged → ¬request → fails .unknownKind) ∧
      (¬overrun → complete → ¬damaged → request → size ≠ length → fails .format) ∧
      (¬overrun → complete → ¬damaged → request → size = length → exec (.linkError l) s = .next s)

/-- A START refused (R45, Table 3.3): bad fields first, then the first of conditions 1 to 8 that fails, by its reason; the link has
its REFUSE with the head byte as it came, and nothing else changes. At condition 9 the REFUSE may come with a buffer that stopped
filling, but with no reservation taken. -/
def Obligations.StartRefusedByItsFirstFailure : Prop :=
∀ (l : LinkId) s (u : List FifoChar) (p : List Byte) (head : Byte), s.serves l u → judgeUnit u = .start p →
    p.headD 0 = head →
    let code := u16At p 1
    let refused : StationRefusal → Prop := fun r => exec (.start l) s = .next (s.answer l (.refuse head r))
    (5 < head.toNat ∨ code = 0 ∨ code = 65535 → refused .badRequest) ∧
    ∀ h : HeadId, head.toNat = h.val → code ≠ 0 → code ≠ 65535 →
      let driven := s.sup.mode = .production
      let c1 := driven ∨ s.sup.mode = .service
      let c2 := (s.store.inForce.get h).owner = some l
      let c3 := s.sup.enable.get h = true
      let c4 := (s.heads.get h).state = .idle
      let c5 := (s.fronts.get h).calValid = true
      let c6 := (s.fronts.get h).sensor = .fresh ∨ (s.sup.mode = .service ∧ (s.store.inForce.get h).source = .replay)
      let c7 := driven → s.cabinet = .ready
      let c8 := driven → (s.drives.get h).state = .ready
      (¬c1 → refused .mode) ∧ (c1 → ¬c2 → refused .notOwner) ∧ (c1 → c2 → ¬c3 → refused .headDisabled) ∧
        (c1 → c2 → c3 → ¬c4 → refused .busy) ∧ (c1 → c2 → c3 → c4 → ¬c5 → refused .calInvalid) ∧
        (c1 → c2 → c3 → c4 → c5 → ¬c6 → refused .noSensor) ∧
        (c1 → c2 → c3 → c4 → c5 → c6 → ¬c7 → refused .cabinetDown) ∧
        (c1 → c2 → c3 → c4 → c5 → c6 → c7 → ¬c8 → refused .driveNotReady) ∧
        (c1 → c2 → c3 → c4 → c5 → c6 → c7 → c8 → (s.trace.a.state ≠ .filling) → (s.trace.b.state ≠ .filling) →
          refused .traceFull) ∧
        ∀ i, c1 → c2 → c3 → c4 → c5 → c6 → c7 → c8 → s.trace.filling = some i → (s.trace.get i).free < 48 →
          (s.trace.get i.other).state = .closing ∨ (s.trace.get i.other).state = .full →
          exec (.start l) s = .next { s.answer l (.refuse head .traceFull) with
            trace := s.trace.set i { s.trace.get i with
              state := if 0 < (s.trace.get i).reserved then .closing else .full } }

/-- A START accepted (R46, R88, R144, R145, Table 3.2) when every condition holds and a FILLING buffer has room or hands over to
an EMPTY one: the next cycle number, the reservation, the context, LOOKUP, the ACCEPT, and the lookup. On a free port with
nothing waiting the lookup starts, or ends the cycle NO_RECIPE when the code is not in the index; otherwise it joins the queue
(R13). A dry cycle on a head whose source is REPLAY begins a replay (R38, R39): position 0, the sensor timer restarted, entry 0 taken
as a sample, which sets temperature and FRESH when usable and leaves both when WEAK (R32, R33, R35), and the next step due 2 ms on.
(That the lookup waits for STORE_PORT_START behind what already waits is log entry 3; the field that holds the time of the next step
is the model's own, log entry 6.) -/
def Obligations.StartAcceptedBeginsACycle : Prop :=
∀ (l : LinkId) s (u : List FifoChar) (p : List Byte) (h : HeadId), s.serves l u → judgeUnit u = .start p →
    (p.headD 0).toNat = h.val → u16At p 1 ≠ 0 → u16At p 1 ≠ 65535 → s.startFailure l h = none →
    ∀ i i', s.trace.filling = some i →
    (48 ≤ (s.trace.get i).free ∧ i' = i) ∨
      ((s.trace.get i).free < 48 ∧ i' = i.other ∧ (s.trace.get i').state = .empty) →
    let n := if s.disp.cycleCounter + 1 = 0 then 1 else s.disp.cycleCounter + 1
    let code := u16At p 1
    let dry := decide (s.sup.mode = .service)
    let replays := dry = true ∧ (s.store.inForce.get h).source = .replay
    let c := Context.created n (BitVec.ofNat 32 (u32At p 3)) s.sup.coil l code s.disp.timestamp dry
    let e : LookupEntry := { head := h, cycle := n, code := code }
    let free := s.store.port = .idle ∧ s.store.queue = [] ∧ s.store.supervisor = none
    let reserved : State := { s with trace := { s.trace with
      reservation := s.trace.reservation.set h (some { buffer := i', cycle := n }) } }
    ∃ t, exec (.start l) s = .next t ∧ t.disp = { s.disp with cycleCounter := n } ∧ n ≠ 0 ∧
      t.links = (s.answer l (.accept (p.headD 0) n)).links ∧ t.sup = s.sup ∧ t.line = s.line ∧ t.drives = s.drives ∧
      (∀ k, k ≠ h → s.headUntouched t k) ∧
      (∀ slot, free → s.store.slotOf code = some slot → t.store = { s.store with port := .lookup e slot }) ∧
      (free → s.store.slotOf code = none → t.store = s.store ∧ reserved.cycleOver t h n .aborted (some .noRecipe)) ∧
      (¬free → t.store = { s.store with queue := s.store.queue ++ [e] }) ∧
      (replays →
        let front := s.fronts.get h
        let entry := s.sup.replayTable.getD 0 { raw := 0, status := .low }
        let read := front.calibration.convert entry.status entry.raw
        (read = none ↔ entry.status = .weak) ∧
        t.fronts.get h = { front with
          replayActive := (t.fronts.get h).replayActive, replayPos := 0, replayNext := s.disp.timestamp + 2
          timer := some (s.store.inForce.get h).sensorTimeout, lastStatus := some entry.status
          temperature := match read with
            | some v => some v
            | none => front.temperature
          sensor := match read with
            | some _ => .fresh
            | none => front.sensor }) ∧
      ((free → s.store.slotOf code ≠ none) →
        t.heads.get h = { state := .lookup, ctx := some c, notice := (s.heads.get h).notice } ∧
        t.trace.reservation.get h = some { buffer := i', cycle := n } ∧
        (t.trace.get i').reserved = (s.trace.get i').reserved + 48 ∧
        (t.trace.get i').state = .filling ∧ (t.trace.get i').records = (s.trace.get i').records ∧
        (i' = i → t.trace.get i.other = s.trace.get i.other) ∧
        (i' ≠ i → (t.trace.get i).state = if 0 < (s.trace.get i).reserved then .closing else .full) ∧
        (¬replays → t.fronts = s.fronts) ∧
        (replays → (t.fronts.get h).replayActive = true))

/-- The requests ABORT, RELEASE and QUERY. ABORT (R67, R135): BAD_REQUEST and NOT_OWNER; from the owner an active cycle ends
STATION, and any other head is as it was. Both are answered ACCEPT with the number of the cycle the head held, 0 when IDLE. RELEASE
(R69): BAD_REQUEST, NOT_OWNER, and STATE for a head not in DONE or FAULTED; else the context goes, deferred fields are applied and
their mark cleared, with a zero command when the drive type changes (R109), and the head is IDLE. QUERY (R70, Table 3.7): a STATE
reply with the head as it stands, whatever its owner; nothing else changes. -/
def Obligations.StationRequestsActOnTheirHead : Prop :=
  (∀ (l : LinkId) s (u : List FifoChar) (p : List Byte) (head : Byte), s.serves l u → judgeUnit u = .abort p →
      p.headD 0 = head →
      (5 < head.toNat → exec (.abort l) s = .next (s.answer l (.refuse head .badRequest))) ∧
      ∀ h : HeadId, head.toNat = h.val →
        ((s.store.inForce.get h).owner ≠ some l → exec (.abort l) s = .next (s.answer l (.refuse head .notOwner))) ∧
        ((s.store.inForce.get h).owner = some l → s.isActive h = false →
          exec (.abort l) s = .next (s.answer l (.accept head
            (match (s.heads.get h).ctx with | some c => c.cycle | none => 0)))) ∧
        ∀ c, (s.store.inForce.get h).owner = some l → s.isActive h = true → (s.heads.get h).ctx = some c →
          ∃ t, exec (.abort l) s = .next t ∧ t = (s.answer l (.accept head c.cycle)).endCycle h (some .station) ∧
            s.cycleOver t h c.cycle .aborted (some .station) ∧
            t.links = (s.answer l (.accept head c.cycle)).links ∧
            ((s.heads.get h).state = .lookup → ∀ e ∈ t.store.queue, e.head ≠ h) ∧ ∀ k, k ≠ h → s.headUntouched t k) ∧
  (∀ (l : LinkId) s (u : List FifoChar) (p : List Byte) (head : Byte), s.serves l u → judgeUnit u = .release p →
      p.headD 0 = head →
      (5 < head.toNat → exec (.release l) s = .next (s.answer l (.refuse head .badRequest))) ∧
      ∀ h : HeadId, head.toNat = h.val →
        let done := (s.heads.get h).state = .done ∨ (s.heads.get h).state = .faulted
        let fields := s.store.settings.heads.get h
        ((s.store.inForce.get h).owner ≠ some l → exec (.release l) s = .next (s.answer l (.refuse head .notOwner))) ∧
        ((s.store.inForce.get h).owner = some l → ¬done → exec (.release l) s = .next (s.answer l (.refuse head .state))) ∧
        ∀ c, (s.store.inForce.get h).owner = some l → done → (s.heads.get h).ctx = some c →
          let idle : State := { s.answer l (.accept head c.cycle) with
            heads := s.heads.set h { state := .idle, ctx := none, notice := (s.heads.get h).notice } }
          let applied : State := { idle with store := { s.store with
            inForce := s.store.inForce.set h fields, deferred := s.store.deferred.set h false } }
          (s.store.deferred.get h = false → exec (.release l) s = .next idle) ∧
          (s.store.deferred.get h = true → exec (.release l) s = .next { applied with
            drives := if (s.store.inForce.get h).driveType = fields.driveType then s.drives
              else s.drives.set h ((s.drives.get h).command fields.driveType.zero) })) ∧
  (∀ (l : LinkId) s (u : List FifoChar) (p : List Byte) (head : Byte), s.serves l u → judgeUnit u = .query p →
      p.headD 0 = head →
      (5 < head.toNat → exec (.query l) s = .next (s.answer l (.refuse head .badRequest))) ∧
      ∀ h : HeadId, head.toNat = h.val →
        let hd := s.heads.get h
        let t := (s.fronts.get h).temperature.getD 0
        let grant := if hd.state = .heating then (s.disp.grant.get h).grant else 0
        (hd.ctx = none → exec (.query l) s = .next (s.answer l (.state head hd.state 0 t grant 0 none none))) ∧
        ∀ c, hd.ctx = some c →
          exec (.query l) s = .next (s.answer l (.state head hd.state c.segIndex t grant c.cycle c.result c.reason)))

/-- FINISHED and the transmitter. FINISHED (R71, R132): a RUNNING link with a free entry queues the FINISHED frame of the lowest head
whose notice is set for one of its cycles, and clears that notice; with no such notice nothing happens. (That the service is a command
of its own is log entry 5.) The transmitter (R137, R138): when the last character of the oldest frame can be sent, its entry is freed
and the frame behind it starts at once unless the link is paused. An assertion of the hold input pauses a RUNNING link, with a character
in progress completed and, where nothing is being sent, nothing started; a release lets it start the oldest frame, or resume in the
middle of one with the character after the one the pause let finish; on a HALTED link only the input's level is kept. (The character in
progress is a position in the frame, on a paused link that of the character the pause let finish; a release carries a position that is
not beyond it where that one is still being sent: log entry 8.) -/
def Obligations.NoticesAndTransmitter : Prop :=
  (∀ (l : LinkId) s, (s.links.get l).state = .running → (s.links.get l).txQueue.length < 8 →
      (∀ (h : HeadId) c, (s.heads.get h).notice = true → (s.heads.get h).ctx = some c → c.link = l →
        (∀ k, k < h → s.noticeFor l k = false) →
        exec (.finished l) s = .next { s with
          heads := s.heads.set h { s.heads.get h with notice := false }
          links := s.links.set l ((s.links.get l).queued (.finished h c.cycle c.result c.reason)) }) ∧
        ((∀ h, s.noticeFor l h = false) → exec (.finished l) s = .next s)) ∧
  (∀ (l : LinkId) s,
      let k := s.links.get l
      (∀ f rest n, k.state = .running → k.txQueue = f :: rest → k.sending = some n →
        (k.paused = false ∨ n + 1 = f.characters.length) →
        let k' : StationLink := { k with
          txQueue := rest, sending := if rest ≠ [] ∧ k.paused = false then some 0 else none }
        exec (.transmitFrameSent l) s = .next { s with links := s.links.set l k' }) ∧
      (∀ f rest n, k.txQueue = f :: rest → k.sending = some n → k.paused = true → n + 1 ≠ f.characters.length →
        exec (.transmitFrameSent l) s = .next s) ∧
      (∀ f rest n position, k.state = .running → k.paused = false → k.txQueue = f :: rest → k.sending = some n →
        n ≤ position → position < f.characters.length →
        exec (.holdInputChange l true position) s =
          .next { s with links := s.links.set l { k with holdIn := true, paused := true, sending := some position } }) ∧
      (∀ position, k.state = .running → k.sending = none →
        exec (.holdInputChange l false position) s = .next { s with links := s.links.set l { k with
          holdIn := false, paused := false, sending := if k.txQueue = [] then none else some 0 } }) ∧
      (∀ position, k.state = .running → k.paused = false → k.sending = none →
        exec (.holdInputChange l true position) s =
          .next { s with links := s.links.set l { k with holdIn := true, paused := true } }) ∧
      (∀ position, k.state = .running → k.paused = true →
        exec (.holdInputChange l true position) s = .next { s with links := s.links.set l { k with holdIn := true } }) ∧
      (∀ f rest n position, k.state = .running → k.paused = true → k.txQueue = f :: rest → k.sending = some n →
        exec (.holdInputChange l false position) s = .next { s with links := s.links.set l { k with
          holdIn := false, paused := false
          sending := some (if n < position ∧ n + 1 < f.characters.length then n + 1 else n) } }) ∧
      (∀ n position, k.state = .running → k.paused = false ∨ k.txQueue = [] → k.sending = some n →
        exec (.holdInputChange l false position) s =
          .next { s with links := s.links.set l { k with holdIn := false, paused := false } }) ∧
      ∀ asserted position, k.state = .halted →
        exec (.holdInputChange l asserted position) s =
          .next { s with links := s.links.set l { k with holdIn := asserted } })

/-! ## The line link and the supervisor's commands -/

/-- What happens to a supervisor command's frame before the rule that owns it (R159, R160, R163, R165, Table 9.2, Table 11.4): lost
while the HD6 drives the line, or with its first character (R17), not taken by a listen-only link or behind a pending reply, and else
refused UNKNOWN_KIND, FORMAT, STARTING or MODE, by the first that applies. No refusal changes anything but the reply owed. (The model's
own: a whole frame is lost with a spoiled first character, log entry 34; the turnaround delay is that in force at the frame's end, log
entry 33; the transmit enable is judged when the frame completes, log entry 37.) -/
def Obligations.FramesAreTakenAndGated : Prop :=
∀ (k : CommandKind) (p : List Byte) s,
    let n := p.length
    let fits : Prop := match k with
      | .status => n = 0 | .ackRestart => n = 0 | .clear => n = 0 | .readSettings => n = 0 | .traceInfo => n = 0
      | .flushTrace => n = 0 | .setMode => n = 1 | .readHead => n = 1 | .readRecipe => n = 1 | .listCodes => n = 1
      | .readCal => n = 1 | .eraseRecipe => n = 1 | .releaseTrace => n = 1 | .setBudget => n = 2 | .headEnable => n = 2
      | .readTrace => n = 3 | .writeCal => n = 37 | .writeSettings => n = 65
      | .writeRecipe => ∃ m, 1 ≤ m ∧ m ≤ 8 ∧ n = 20 + 13 * m
      | .loadReplay => ∃ m, 1 ≤ m ∧ m ≤ 40 ∧ n = 3 + 3 * m
    let outside := (k = .writeSettings ∧ s.sup.mode ≠ .standby ∧ s.sup.mode ≠ .service) ∨
      (k = .loadReplay ∧ s.sup.mode ≠ .service)
    let dropped : State := { s with line := { s.line with rx := none, frameTimer := none } }
    (s.line.txEnable = true → exec (k.instr p) s = .next s) ∧
      (s.line.txEnable = false → s.line.spoiled = true →
        exec (k.instr p) s = .next { s with line := { s.line with rx := none, frameTimer := none, spoiled := false } }) ∧
      (s.line.txEnable = false → s.line.spoiled = false → s.line.strap = 0 ∨ s.line.reply ≠ .none →
        exec (k.instr p) s = .next dropped) ∧
      (s.takes → ¬fits → exec (k.instr p) s = .next (s.replies 0xFF [2, k.code])) ∧
      (s.takes → fits → s.sup.mode = .starting → k ≠ .status → k ≠ .setBudget →
        exec (k.instr p) s = .next (s.replies 0xFF [3, 0])) ∧
      (s.takesStarted → fits → outside →
        exec (k.instr p) s = .next (s.replies 0xFF [4, BitVec.ofNat 8 s.sup.mode.code])) ∧
      ∀ kind, (∀ k' ∈ CommandKind.all, k'.code ≠ kind) → s.takes →
        exec (.unknownKind kind p) s = .next (s.replies 0xFF [1, kind])

/-- The reading commands (R167, R168, R19, R151, R152): each answers with the items its rule lists, in their order and size (R179), and
changes nothing else. STATUS is answered in every mode. A head above 5 and a buffer above 1 are refused INVALID, detail 255 (R166). The
codes are those FramesSentHaveTheirLayouts spells. (The model's own: the temperature-present indication stands after the temperature and
a last error of none is FF FF, log entry 17; a reservation's buffer is 0 for A and 1 for B, log entry 31.) -/
def Obligations.ReadingCommandsChangeNothing : Prop :=
∀ s : State,
    let one : Nat → List Byte := fun n => [BitVec.ofNat 8 n]
    let two : Nat → List Byte := fun n => [BitVec.ofNat 8 n, BitVec.ofNat 8 (n / 256)]
    let four : Nat → List Byte := fun n => two n ++ two (n / 65536)
    let yes : Bool → List Byte := fun b => [if b then 1 else 0]
    let heads : PerSix Bool → List Byte := fun p => one (sixInOrder.map fun h => if p.get h then 2 ^ h.val else 0).sum
    let signed : Int → List Byte := fun i => two (i % 65536).toNat
    (s.takes →
      let st := s.store
      let linkItems : LinkId → List Byte := fun l =>
        let k := s.links.get l
        let count := (k.closed.map List.length).sum + (k.opened.getD []).length
        one k.state.code ++ one count ++ one k.closed.length ++ one k.txQueue.length ++ yes k.holdOut ++ yes k.paused ++
          yes k.discard
      let items :=
        one s.sup.mode.code ++ yes s.sup.restart ++ four s.sup.coil.toNat ++ two s.sup.indexCount.toNat ++
        heads s.sup.enable ++ one s.line.strap.toNat ++ yes (decide (s.line.strap = 0)) ++
        one (if st.port = .scan then 2 else match st.supervisor with
          | none => 0
          | some o => if o.started then 2 else 1) ++
        one (opKindCode st.lastOpKind) ++ one (opResultCode st.lastOpResult) ++ two st.corrected ++ two st.uncorrectable ++
        (match st.lastError with
          | none => [255, 255]
          | some (slot, kind) => one slot ++ one kind.code) ++
        yes st.settingsDefaulted ++ one st.index.length ++
        four s.disp.timestamp.toNat ++ four s.disp.cycleCounter.toNat ++ one s.disp.period ++ two s.disp.budgetSetting ++
        two s.disp.budget ++ two s.disp.lastTotal ++ one s.disp.pointer.val ++ one (cabinetCode s.cabinet) ++
        (sixInOrder.map linkItems).flatten
      items.length = 81 ∧ exec (.status []) s = .next (s.replies 0x81 items)) ∧
    (s.takesStarted → ∀ h : HeadId,
      let hd := s.heads.get h
      let fe := s.fronts.get h
      let u := s.drives.get h
      let f := s.store.inForce.get h
      let gr := s.disp.grant.get h
      let loop : LoopState := match hd.ctx with
        | some c => c.loop
        | none => { accumulator := 0, prevRequest := 0, prevCeiling := 0, lastSetpoint := 0, lastError := 0, freeze := .none }
      exec (.readHead [BitVec.ofNat 8 h.val]) s = .next (s.replies 0x88
        (one hd.state.code ++
        (match hd.ctx with
          | some c => four c.cycle.toNat ++ one c.segIndex ++ one (resultCode c.result) ++ one (reasonCode c.reason)
          | none => [0, 0, 0, 0, 0, 0, 0]) ++
        yes (s.sup.enable.get h) ++ one (ownerCode f.owner) ++ yes (s.store.deferred.get h) ++
        two (fe.temperature.getD 0) ++ yes fe.temperature.isSome ++ one (sampleStatusCode fe.lastStatus) ++
        one fe.sensor.code ++ yes fe.calValid ++ yes fe.replayActive ++ one fe.replayPos ++
        two (match s.disp.request.get h with
          | some e => e.request
          | none => 0) ++
        two gr.served ++ two loop.lastSetpoint ++ signed loop.lastError ++ signed (loop.accumulator / 4096) ++
        one loop.freeze.code ++ two gr.grant ++ one (s.disp.shortfall.get h) ++ one f.driveType.code ++
        (match u.output with
          | .level p => two p
          | .gate on => yes on) ++
        one u.state.code ++ two u.onTime ++ yes u.windowStart.isSome)) ∧
      exec (.readCal [BitVec.ofNat 8 h.val]) s = .next (s.replies 0x92
        (one h.val ++ yes fe.calValid ++ (fe.calibration.points.map two).flatten ++ signed fe.calibration.offset))) ∧
    (s.takesStarted → ∀ b : Byte, 5 < b.toNat →
      exec (.readHead [b]) s = .next (s.replies 0xFF [7, 255]) ∧ exec (.readCal [b]) s = .next (s.replies 0xFF [7, 255])) ∧
    (s.takesStarted → ∀ position : Byte, exec (.listCodes [position]) s = .next (s.replies 0x91
        (one s.store.index.length ++
          (((s.store.index.drop position.toNat).take 40).map fun e => two e.code ++ one e.slot).flatten))) ∧
    (s.takesStarted →
      let set := s.store.settings
      exec (.readSettings []) s = .next (s.replies 0x93
        ((sixInOrder.map fun h =>
          let f := set.heads.get h
          one (ownerCode f.owner) ++ yes f.enabledAtPowerOn ++ two f.maxPower ++ one f.driveType.code ++ two f.burstWindow ++
            one f.sensorTimeout ++ one f.source.code).flatten ++
        two set.defaultBudget ++ one set.dispatchPeriod ++ one set.reliefThreshold ++ one set.driveTimeout ++
        one set.stationRate.code ++ one set.holdHigh ++ one set.holdLow ++ one set.lineRate.code ++ one set.turnaround ++
        one set.indexer ++ heads s.store.deferred))) ∧
    (s.takesStarted →
      let info : TraceBuffer → List Byte := fun x =>
        one x.state.code ++ two x.used ++ two x.reserved ++ one x.count ++ four x.first.toNat ++ four x.last.toNat
      let held : HeadId → List Byte := fun h => match s.trace.reservation.get h with
        | none => [255]
        | some r => [if r.buffer = .a then 0 else 1]
      exec (.traceInfo []) s = .next (s.replies 0xA0
        (info s.trace.a ++ info s.trace.b ++ (sixInOrder.map held).flatten))) ∧
    (s.takesStarted → ∀ b lo hi : Byte, 1 < b.toNat →
      exec (.readTrace [b, lo, hi]) s = .next (s.replies 0xFF [7, 255])) ∧
    ∀ (i : BufferId) (lo hi : Byte), s.takesStarted →
      let x := s.trace.get i
      let first := lo.toNat + 256 * hi.toNat
      let bytes : List Word16 → List Byte := fun w => (w.map fun v => two v.toNat).flatten
      (x.count ≤ first → exec (.readTrace [BitVec.ofNat 8 i.code, lo, hi]) s =
        .next (s.replies 0xFF [10, BitVec.ofNat 8 x.count])) ∧
      (first < x.count → ∃ m, exec (.readTrace [BitVec.ofNat 8 i.code, lo, hi]) s =
          .next (s.replies 0xA1 (((x.records.drop first).take m).map bytes).flatten) ∧
        (((x.records.drop first).take m).map fun w => 2 * w.length).sum ≤ 128 ∧
        ∀ w, (x.records.drop first)[m]? = some w →
          128 < (((x.records.drop first).take m).map fun w => 2 * w.length).sum + 2 * w.length)

/-- The frames the HD6 sends (Table 11.3, R180; R161, R164; Table 11.10, R184): the first character alone carries the mark bit (R137), the
8-bit sum is 0, and each kind has its code, length and items in their order, least significant byte first (R179); with the value codes
of Tables 11.1 and 11.2 and the reasons of 11.2. The character in progress is the one at its position in the oldest frame (log entry 8).
-/
def Obligations.FramesSentHaveTheirLayouts : Prop :=
  let two : Nat → List Byte := fun n => [BitVec.ofNat 8 n, BitVec.ofNat 8 (n / 256)]
  let four : Nat → List Byte := fun n => two n ++ two (n / 65536)
  let onWire : List Character → List Byte → Prop := fun cs bs =>
    cs.map (fun c => c.data) = bs ∧ cs.map (fun c => c.mark) = true :: List.replicate (bs.length - 1) false ∧
      (∀ c ∈ cs, c.framing = false) ∧ (bs.map BitVec.toNat).sum % 256 = 0
  (∀ f : StationFrame, onWire f.characters f.bytes) ∧
  (∀ (k : StationLink) f rest n, k.txQueue = f :: rest → k.sending = some n → k.characterInProgress = f.characters[n]?) ∧
  (∀ head cycle, ∃ check : Byte, (StationFrame.accept head cycle).bytes = [0x20, 5, head] ++ four cycle.toNat ++ [check]) ∧
  (∀ head reason, ∃ check : Byte,
    (StationFrame.refuse head reason).bytes = [0x21, 2, head, BitVec.ofNat 8 reason.code, check]) ∧
  (∀ head st segment temperature grant cycle result reason, ∃ check : Byte,
    (StationFrame.state head st segment temperature grant cycle result reason).bytes =
      [0x22, 13, head, BitVec.ofNat 8 st.code, BitVec.ofNat 8 segment] ++ two temperature ++ two grant ++ four cycle.toNat ++
        [BitVec.ofNat 8 (resultCode result), BitVec.ofNat 8 (reasonCode reason), check]) ∧
  (∀ (head : HeadId) cycle result reason, ∃ check : Byte, (StationFrame.finished head cycle result reason).bytes =
    [0x23, 7, BitVec.ofNat 8 head.val] ++ four cycle.toNat ++
      [BitVec.ofNat 8 (resultCode result), BitVec.ofNat 8 (reasonCode reason), check]) ∧
  (∀ reason lead, ∃ check : Byte, (StationFrame.linkError reason lead).bytes = [0x24, 2, BitVec.ofNat 8 reason.code, lead, check]) ∧
  (∀ r : LineReply, onWire r.characters r.frame ∧
    ∃ check : Byte, r.frame = [0, r.kind, BitVec.ofNat 8 r.payload.length] ++ r.payload ++ [check]) ∧
  (∀ v : DriveCommand, onWire v.characters v.frame) ∧
  (∀ p, ∃ check : Byte, (DriveCommand.level p).frame = [0x60] ++ two p ++ [check]) ∧
  (∀ on, ∃ check : Byte, (DriveCommand.gate on).frame = [0x61, if on then 1 else 0, 0, check]) ∧
  [Mode.starting, .standby, .production, .draining, .service].map Mode.code = [0, 1, 2, 3, 4] ∧
  [HeadState.idle, .lookup, .heating, .hold, .done, .faulted].map HeadState.code = [0, 1, 2, 3, 4, 5] ∧
  [none, some CycleResult.good, some .warn, some .aborted].map resultCode = [0, 1, 2, 3] ∧
  [none, some Reason.noRecipe, some .recipeDamaged, some .tooStrong, some .sensorLost, some .overtemp, some .underheat,
    some .cycleTime, some .driveTrip, some .driveLost, some .cabinet, some .indexed, some .disabled, some .cleared, some .mode,
    some .station, some .stationLine].map reasonCode = List.range 17 ∧
  [SegmentKind.ramp, .soak, .flow, .hold].map SegmentKind.code = [0, 1, 2, 3] ∧
  [some SampleStatus.ok, some .low, some .high, some .weak, none].map sampleStatusCode = [0, 1, 2, 3, 255] ∧
  [DriveState.ready, .notReady, .tripped, .unknown].map DriveState.code = [0, 1, 2, 3] ∧
  [CabinetState.ready, .notReady].map cabinetCode = [0, 1] ∧ [SensorState.fresh, .stale].map SensorState.code = [0, 1] ∧
  [BufferState.empty, .filling, .closing, .full].map BufferState.code = [0, 1, 2, 3] ∧
  [BufferId.a, .b].map BufferId.code = [0, 1] ∧ [DriveType.level, .burst].map DriveType.code = [0, 1] ∧
  [SampleSource.pyrometer, .replay].map SampleSource.code = [0, 1] ∧
  (∀ l : LinkId, ownerCode (some l) = l.val) ∧ ownerCode none = 255 ∧
  [BitRate.r57600, .r115200, .r230400, .r460800].map BitRate.code = [0, 1, 2, 3] ∧
  [SlotStatus.empty, .valid, .damaged].map SlotStatus.code = [0, 1, 2] ∧
  [some OpKind.recipeWrite, some .recipeErase, some .calibrationWrite, some .settingsWrite, none].map opKindCode =
    [0, 1, 2, 3, 255] ∧
  [some OpResult.ok, some .failed, none].map opResultCode = [0, 1, 255] ∧
  [ErrorKind.corrected, .uncorrectable].map ErrorKind.code = [0, 1] ∧
  [Freeze.none, .atCeiling, .atZero, .starved].map Freeze.code = [0, 1, 2, 3] ∧
  [LinkState.halted, .running].map LinkState.code = [0, 1] ∧
  [StationRefusal.badRequest, .mode, .notOwner, .headDisabled, .busy, .calInvalid, .noSensor, .cabinetDown, .driveNotReady,
    .traceFull, .state].map StationRefusal.code = [1, 2, 3, 4, 5, 6, 7, 8, 9, 10, 11] ∧
  [LinkErrorReason.overrun, .format, .check, .unknownKind].map LinkErrorReason.code = [1, 2, 3, 4]

/-- SET_BUDGET (R90), ACK_RESTART (R172), HEAD_ENABLE (R173) and LOAD_REPLAY (R177): what each sets and what each refuses; at a
HEAD_ENABLE off the active cycle of its head ends DISABLED, and no other head is touched. (That a head above 5 is refused before a bad
value is log entry 32.) -/
def Obligations.SupervisionCommandsSetTheirItem : Prop :=
∀ s, (s.takes → ∀ lo hi : Byte,
      let v := min (lo.toNat + 256 * hi.toNat) 2400
      exec (.setBudget [lo, hi]) s =
        .next ({ s with disp := { s.disp with budgetSetting := v } }.replies 0x82 [BitVec.ofNat 8 v, BitVec.ofNat 8 (v / 256)])) ∧
    (s.takesStarted → exec (.ackRestart []) s =
      .next ({ s with sup := { s.sup with restart := false } }.replies 0x84 [0])) ∧
    (s.takesStarted → ∀ head value : Byte,
      (5 < head.toNat → exec (.headEnable [head, value]) s = .next (s.replies 0xFF [7, 255])) ∧
      ∀ h : HeadId, head.toNat = h.val →
        (1 < value.toNat → exec (.headEnable [head, value]) s = .next (s.replies 0xFF [7, 1])) ∧
        (value = 1 → exec (.headEnable [head, value]) s =
          .next ({ s with sup := { s.sup with enable := s.sup.enable.set h true } }.replies 0x85
            (leHeadSet (s.sup.enable.set h true)))) ∧
        (value = 0 → ∃ t, exec (.headEnable [head, value]) s = .next t ∧
          t.sup.enable = s.sup.enable.set h false ∧ t.links = s.links ∧ t.cabinet = s.cabinet ∧
          t.line.replyFrame = some { kind := 0x85, payload := leHeadSet (s.sup.enable.set h false) } ∧
          (∀ c, s.isActive h = true → (s.heads.get h).ctx = some c →
            s.cycleOver t h c.cycle .aborted (some .disabled)) ∧
          (s.isActive h = false → s.headUntouched t h) ∧ ∀ k, k ≠ h → s.headUntouched t k)) ∧
    (s.takes → s.sup.mode = .service → ∀ p : List Byte, (∃ m, 1 ≤ m ∧ m ≤ 40 ∧ p.length = 3 + 3 * m) →
      let offset := u16At p 0
      let count := byteAt p 2
      (∀ h, s.isActive h = true → (∀ k, k < h → s.isActive k = false) →
        exec (.loadReplay p) s = .next (s.replies 0xFF [6, BitVec.ofNat 8 h.val])) ∧
      ((∀ h, s.isActive h = false) →
        (255 < offset → exec (.loadReplay p) s = .next (s.replies 0xFF [7, 0])) ∧
        (offset ≤ 255 → p.length ≠ 3 + 3 * count → exec (.loadReplay p) s = .next (s.replies 0xFF [7, 1])) ∧
        (offset ≤ 255 → p.length = 3 + 3 * count → 256 < offset + count →
          exec (.loadReplay p) s = .next (s.replies 0xFF [7, 0])) ∧
        (p.length = 3 + 3 * count → offset + count ≤ 256 → 1 ≤ count →
          (∀ j, j < count → 3 < byteAt p (5 + 3 * j) → (∀ i, i < j → byteAt p (5 + 3 * i) ≤ 3) →
            exec (.loadReplay p) s = .next (s.replies 0xFF [7, BitVec.ofNat 8 (2 + j)])) ∧
          ((∀ j, j < count → byteAt p (5 + 3 * j) ≤ 3) → s.sup.replayTable.length = 256 →
            ∃ table, exec (.loadReplay p) s =
                .next ({ s with sup := { s.sup with replayTable := table } }.replies 0xA8
                  [BitVec.ofNat 8 offset, BitVec.ofNat 8 (offset / 256), BitVec.ofNat 8 count]) ∧
              table.length = 256 ∧
              (∀ j, j < offset ∨ offset + count ≤ j → table[j]? = s.sup.replayTable[j]?) ∧
              ∀ j, j < count → ∃ status, sampleStatusOf (byteAt p (5 + 3 * j)) = some status ∧
                table[offset + j]? = some { raw := BitVec.ofNat 16 (u16At p (3 + 3 * j)), status := status }))))

/-- SET_MODE (R169, Table 9.3): the mode after it, or the refusal with the current mode as detail; only SERVICE to STANDBY ends
cycles, those that are dry, with reason MODE. (That SERVICE refuses PRODUCTION with MODE whatever the restart flag is the
model's reading, log entry 27.) -/
def Obligations.SetModeFollowsItsTable : Prop :=
∀ s, s.takesStarted →
    let now := s.sup.mode
    let moved : Byte → Mode → Prop := fun target m =>
      exec (.setMode [target]) s =
        .next ({ s with sup := { s.sup with mode := m } }.replies 0x83 [BitVec.ofNat 8 m.code])
    let refused : Byte → Byte → Prop := fun target reason =>
      exec (.setMode [target]) s = .next (s.replies 0xFF [reason, BitVec.ofNat 8 now.code])
    (∀ target : Byte, target ≠ 1 → target ≠ 2 → target ≠ 4 →
      exec (.setMode [target]) s = .next (s.replies 0xFF [7, 0])) ∧
    (now = .standby → moved 1 .standby ∧ moved 4 .service ∧ (s.sup.restart = true → refused 2 12) ∧
      (s.sup.restart = false → moved 2 .production)) ∧
    (now = .production → moved 2 .production ∧ refused 4 4 ∧
      ((∃ h, s.isActive h = true) → moved 1 .draining) ∧ ((∀ h, s.isActive h = false) → moved 1 .standby)) ∧
    (now = .draining → moved 1 .draining ∧ moved 2 .production ∧ refused 4 5) ∧
    (now = .service → moved 4 .service ∧ refused 2 4 ∧
      ∃ t, exec (.setMode [1]) s = .next t ∧ t.sup = { s.sup with mode := .standby } ∧ t.links = s.links ∧
        t.line.replyFrame = some { kind := 0x83, payload := [1] } ∧
        ∀ h, (∀ c, s.isActive h = true → (s.heads.get h).ctx = some c → c.dry = true →
            s.cycleOver t h c.cycle .aborted (some .mode)) ∧
          (s.isActive h = false ∨ s.isDry h = false → s.headUntouched t h))

/-- CLEAR (R174, R141, R65): every link emptied but for its pause and hold input, every active cycle ended CLEARED, the mode STANDBY
from whichever it was. The store keeps all but the lookups of heads in LOOKUP (Table 1.5), the front ends all but the replays that end
(Table 2.4), the dispatcher all but the requests and grants of the heads it cuts (Table 5.3), and the drives not cut, the cabinet and the
other items of the supervision unit stay. (That the character in progress
is none at once is the model's choice, log entry 21; the order in which the cycles end is a free value, log entry 13.) -/
def Obligations.ClearEndsEveryCycle : Prop :=
∀ s, s.takesStarted → ∃ t, exec (.clear []) s = .next t ∧
    t.sup = { s.sup with mode := .standby } ∧ t.cabinet = s.cabinet ∧
    t.line = (s.replies 0x86 [1]).line ∧
    (∀ l, t.links.get l = { s.links.get l with
      closed := [], opened := none, interTimer := none, discard := false, holdOut := false, txQueue := []
      sending := none }) ∧
    t.store = { s.store with queue := t.store.queue } ∧
    (∀ e, e ∈ t.store.queue ↔ e ∈ s.store.queue ∧ (s.heads.get e.head).state ≠ .lookup) ∧
    (∀ h, t.fronts.get h = { s.fronts.get h with replayActive := (t.fronts.get h).replayActive }) ∧
    t.disp = { s.disp with request := t.disp.request, grant := t.disp.grant } ∧
    (∀ h, ((s.heads.get h).state = .heating → t.disp.request.get h = none ∧
        t.disp.grant.get h = { grant := 0, served := 0 } ∧
        t.drives.get h = (s.drives.get h).cut (s.store.inForce.get h).driveType) ∧
      ((s.heads.get h).state ≠ .heating → t.disp.request.get h = s.disp.request.get h ∧
        t.disp.grant.get h = s.disp.grant.get h ∧ t.drives.get h = s.drives.get h)) ∧
    ∀ h, (∀ c, s.isActive h = true → (s.heads.get h).ctx = some c →
        s.cycleOver t h c.cycle .aborted (some .cleared)) ∧
      (s.isActive h = false → s.headUntouched t h)

/-- The field tests of WRITE_RECIPE (R3, Table 1.3), WRITE_CAL (R5) and WRITE_SETTINGS (R6), each with its bounds and its field number, in
checking order: the first that fails is named, and none when all pass. -/
def Obligations.FieldTestsNameTheFirstFailure : Prop :=
  (∀ (slot : Nat) (b : List Byte) (held : Nat), b.length = 19 + 13 * held →
    let code := u16At b 0
    let count := byteAt b 2
    let maxTemp := u16At b 3
    let cycleTime := u32At b 5
    let header : Nat → Prop := fun f => match f with
      | 0 => 1 ≤ code ∧ code ≤ 65534
      | 1 => 1 ≤ count ∧ count ≤ 8 ∧ count = held
      | 2 => 1000 ≤ maxTemp ∧ maxTemp ≤ 12000
      | 3 => 1000 ≤ cycleTime ∧ cycleTime ≤ 120000
      | 5 => u16At b 9 ≠ 0 → u16At b 11 ≠ 0 → u16At b 9 ≤ u16At b 11
      | 6 => u16At b 13 ≤ 4095
      | 7 => u16At b 15 ≤ 4095
      | 8 => u16At b 17 ≤ 10000
      | _ => True
    let segment : Nat → Nat → Prop := fun i j =>
      let start := 19 + 13 * i
      let kind := byteAt b start
      let ceiling := u16At b (start + 5)
      match j with
      | 0 => kind ≤ 3 ∧ (kind = 3 → i + 1 = count ∧ 2 ≤ count)
      | 1 => u16At b (start + 1) ≤ maxTemp
      | 2 => 1 ≤ u16At b (start + 3) ∧ u16At b (start + 3) ≤ 60000
      | 3 => if kind = 3 then ceiling = 0 else 1 ≤ ceiling ∧ ceiling ≤ 600
      | 4 => u16At b (start + 7) ≤ ceiling
      | 5 => 10 ≤ u16At b (start + 9) ∧ u16At b (start + 9) ≤ 500
      | 6 => kind ≠ 2 → u16At b (start + 11) = 0
      | _ => True
    let total := ((List.range count).map fun i => u16At b (19 + 13 * i + 3)).sum
    (47 < slot → recipeFailure slot b = some 255) ∧
    (slot ≤ 47 →
      (∀ f, f ≤ 8 → (∀ g, g < f → header g) → ¬header f → recipeFailure slot b = some f) ∧
      ((∀ g, g ≤ 8 → header g) →
        (∀ i j, i < count → j ≤ 6 → (∀ k m, m ≤ 6 → k < i ∨ (k = i ∧ m < j) → segment k m) → ¬segment i j →
          recipeFailure slot b = some (16 + 8 * i + j)) ∧
        ((∀ i j, i < count → j ≤ 6 → segment i j) →
          (cycleTime < total → recipeFailure slot b = some 3) ∧ (total ≤ cycleTime → recipeFailure slot b = none))))) ∧
  (∀ b : List Byte,
    let point : Nat → Prop := fun k => u16At b (2 * k) ≤ 12000 ∧ (1 ≤ k → u16At b (2 * (k - 1)) ≤ u16At b (2 * k))
    let offset : Int := if u16At b 34 < 32768 then u16At b 34 else (u16At b 34 : Int) - 65536
    (∀ k, k ≤ 16 → (∀ i, i < k → point i) → ¬point k → firstFailing (calibrationTests b) = some k) ∧
    ((∀ k, k ≤ 16 → point k) →
      (offset < -500 ∨ 500 < offset → firstFailing (calibrationTests b) = some 17) ∧
      (-500 ≤ offset → offset ≤ 500 → firstFailing (calibrationTests b) = none))) ∧
  ∀ p : List Byte,
    let field : Nat → Prop := fun f =>
      let start := 9 * (f / 7)
      if f < 42 then
        match f % 7 with
        | 0 => byteAt p start ≤ 5 ∨ byteAt p start = 255
        | 1 => byteAt p (start + 1) ≤ 1
        | 2 => 10 ≤ u16At p (start + 2) ∧ u16At p (start + 2) ≤ 600
        | 3 => byteAt p (start + 4) ≤ 1
        | 4 => 20 ≤ u16At p (start + 5) ∧ u16At p (start + 5) ≤ 500
        | 5 => 10 ≤ byteAt p (start + 7) ∧ byteAt p (start + 7) ≤ 250
        | _ => byteAt p (start + 8) ≤ 1
      else
        match f with
        | 42 => u16At p 54 ≤ 2400
        | 43 => byteAt p 56 = 5 ∨ byteAt p 56 = 10 ∨ byteAt p 56 = 20 ∨ byteAt p 56 = 40
        | 44 => 2 ≤ byteAt p 57 ∧ byteAt p 57 ≤ 15
        | 45 => 20 ≤ byteAt p 58 ∧ byteAt p 58 ≤ 200
        | 46 => byteAt p 59 ≤ 3
        | 47 => 8 ≤ byteAt p 60 ∧ byteAt p 60 ≤ 63
        | 48 => byteAt p 61 + 8 ≤ byteAt p 60
        | 49 => byteAt p 62 ≤ 2
        | 50 => byteAt p 63 ≤ 15
        | _ => 1 ≤ byteAt p 64 ∧ byteAt p 64 ≤ 31
    (∀ f, f ≤ 51 → (∀ g, g < f → field g) → ¬field f → firstFailing (settingsTests p) = some f) ∧
    ((∀ f, f ≤ 51 → field f) → firstFailing (settingsTests p) = none)

/-- The store's commands (R3 to R6, R10, R11, R15, R19): BUSY while the supervisor slot is held (its detail byte is a free value,
log entry 14), the other refusals in their order, and else the operation in the slot, started at once on a free port with no lookup
waiting. WRITE_CAL clears the calibration flag. An erase of an EMPTY slot and a read of an EMPTY or DAMAGED one complete at their
start. The field tests are those FieldTestsNameTheFirstFailure spells. (The model's own: an IDLE port with lookups waiting is not yet
free, log entry 3; the last revision stays at the acceptance, log entry 26.) -/
def Obligations.StoreCommandsTakeTheSupervisorSlot : Prop :=
∀ s (p : List Byte), s.takesStarted →
    let free := s.store.port = .idle ∧ s.store.queue = []
    let holding : SupervisorOp → Store := fun op =>
      if free then { s.store with supervisor := some { op := op, started := true }, port := .supervisor }
      else { s.store with supervisor := some { op := op, started := false } }
    let slot := byteAt p 0
    let status := s.store.slotStatus.getD slot .empty
    (s.store.supervisor ≠ none → ∀ k : CommandKind,
      k = .writeRecipe ∨ k = .eraseRecipe ∨ k = .writeCal ∨ k = .readRecipe ∨ (k = .writeSettings ∧ k.gate s.sup.mode = true) →
      k.lengthOk p.length = true →
      exec (k.instr p) s =
        .next ({ s with freeCount := s.freeCount + 1 }.replies 0xFF [5, Config.busyDetail s.freeCount])) ∧
    (s.store.supervisor = none →
      (CommandKind.writeRecipe.lengthOk p.length = true →
        (∀ field, recipeFailure slot (p.drop 1) = some field →
          exec (.writeRecipe p) s = .next (s.replies 0xFF [7, BitVec.ofNat 8 field])) ∧
        (∀ other, recipeFailure slot (p.drop 1) = none → s.store.slotOf (u16At p 1) = some other → other ≠ slot →
          exec (.writeRecipe p) s = .next (s.replies 0xFF [8, BitVec.ofNat 8 other])) ∧
        (recipeFailure slot (p.drop 1) = none → (∀ other, s.store.slotOf (u16At p 1) = some other → other = slot) →
          exec (.writeRecipe p) s =
            .next ({ s with store := holding (.recipeWrite slot (p.drop 1)) }.replies 0x98 []))) ∧
      (p.length = 1 → 47 < slot → exec (.eraseRecipe p) s = .next (s.replies 0xFF [7, 255]) ∧
        exec (.readRecipe p) s = .next (s.replies 0xFF [7, 255])) ∧
      (p.length = 1 → slot ≤ 47 →
        (¬free ∨ status ≠ .empty → exec (.eraseRecipe p) s =
          .next ({ s with store := holding (.recipeErase slot) }.replies 0x99 [])) ∧
        (free → status = .empty → exec (.eraseRecipe p) s = .next ({ s with store := { s.store with
          lastOpKind := some .recipeErase, lastOpResult := some .ok } }.replies 0x99 [])) ∧
        (free → status = .empty → exec (.readRecipe p) s = .next (s.replies 0x90 [BitVec.ofNat 8 slot, 0, 0, 0])) ∧
        (free → status = .damaged → exec (.readRecipe p) s = .next (s.replies 0xFF [9, BitVec.ofNat 8 slot])) ∧
        (¬free ∨ status = .valid → exec (.readRecipe p) s = .next { s with
          store := holding (.recipeRead slot)
          line := { s.line with
            rx := none, frameTimer := none, reply := .forming, turnaround := some s.turnaroundTimer } })) ∧
      (p.length = 37 →
        (5 < slot → exec (.writeCal p) s = .next (s.replies 0xFF [7, 255])) ∧
        ∀ h : HeadId, slot = h.val →
          (s.isActive h = true → exec (.writeCal p) s = .next (s.replies 0xFF [6, BitVec.ofNat 8 h.val])) ∧
          (∀ field, s.isActive h = false → firstFailing (calibrationTests (p.drop 1)) = some field →
            exec (.writeCal p) s = .next (s.replies 0xFF [7, BitVec.ofNat 8 field])) ∧
          (s.isActive h = false → firstFailing (calibrationTests (p.drop 1)) = none →
            exec (.writeCal p) s = .next ({ s with
              store := holding (.calibrationWrite h (p.drop 1))
              fronts := s.fronts.set h { s.fronts.get h with calValid := false } }.replies 0x9A []))) ∧
      (p.length = 65 → s.sup.mode = .standby ∨ s.sup.mode = .service →
        (∀ h, s.isActive h = true → (∀ k, k < h → s.isActive k = false) →
          exec (.writeSettings p) s = .next (s.replies 0xFF [6, BitVec.ofNat 8 h.val])) ∧
        (∀ field, (∀ h, s.isActive h = false) → firstFailing (settingsTests p) = some field →
          exec (.writeSettings p) s = .next (s.replies 0xFF [7, BitVec.ofNat 8 field])) ∧
        ((∀ h, s.isActive h = false) → firstFailing (settingsTests p) = none →
          exec (.writeSettings p) s = .next ({ s with store := holding (.settingsWrite p) }.replies 0x9B []))))

/-- RELEASE_TRACE (R153) and FLUSH_TRACE (R154). A FULL buffer is emptied, and FILLING at once when the other is not; a buffer in any
other state is refused NOT_FULL with its state. A flush closes the FILLING buffer unless it is empty, and lets an EMPTY other one
take over. Each reply carries both states, and nothing else changes. -/
def Obligations.TraceCommandsMoveTheBuffers : Prop :=
∀ s, s.takesStarted →
    let codes : TraceUnit → List Byte := fun t => [BitVec.ofNat 8 t.a.state.code, BitVec.ofNat 8 t.b.state.code]
    (∀ b : Byte, 1 < b.toNat → exec (.releaseTrace [b]) s = .next (s.replies 0xFF [7, 255])) ∧
    (∀ i : BufferId,
      ((s.trace.get i).state ≠ .full → exec (.releaseTrace [BitVec.ofNat 8 i.code]) s =
        .next (s.replies 0xFF [11, BitVec.ofNat 8 (s.trace.get i).state.code])) ∧
      ((s.trace.get i).state = .full →
        let t := s.trace.set i { state := if (s.trace.get i.other).state = .filling then .empty else .filling
                                 used := 0, reserved := 0, count := 0, first := 0, last := 0, records := [] }
        exec (.releaseTrace [BitVec.ofNat 8 i.code]) s = .next ({ s with trace := t }.replies 0xA2 (codes t)))) ∧
    (s.trace.filling = none → exec (.flushTrace []) s = .next (s.replies 0xA3 (codes s.trace))) ∧
    ∀ i, s.trace.filling = some i →
      let x := s.trace.get i
      let closed := s.trace.set i { x with state := if 0 < x.reserved then .closing else .full }
      (x.count = 0 → x.reserved = 0 → exec (.flushTrace []) s = .next (s.replies 0xA3 (codes s.trace))) ∧
      (x.count ≠ 0 ∨ x.reserved ≠ 0 →
        ((s.trace.get i.other).state ≠ .empty →
          exec (.flushTrace []) s = .next ({ s with trace := closed }.replies 0xA3 (codes closed))) ∧
        ((s.trace.get i.other).state = .empty →
          let t := closed.set i.other { s.trace.get i.other with state := .filling }
          exec (.flushTrace []) s = .next ({ s with trace := t }.replies 0xA3 (codes t))))

/-- Timers and receivers of the line and the sensor and drive inputs. The timers of the line and the end of a reply (R161,
R163): the frame timer drops the frame in reception; the turnaround timer starts a WAITING reply and is remembered as expired by
a FORMING one; the last character of a reply ends it and releases the line. Single characters at the receivers (R159, R161,
R184): a lead or address character opens a frame in place of one in reception; characters outside a frame, and characters with a
framing error on the line, leave none; a character that started or ends while the HD6 drives the line is lost (R159, log entry 37);
the line takes the character that new settings came into force during as one (R17, log entry 34). (That a timer counted in character times may expire at any time while it runs is log entry 7; that the end of a reply where none is
being sent changes nothing is log entry 1.) -/
def Obligations.ReceiversAndLineTimers : Prop :=
  (∀ s, (s.line.frameTimer ≠ none → exec .frameTimerExpiry s =
        .next { s with line := { s.line with rx := none, frameTimer := none } }) ∧
      (s.line.turnaround ≠ none → s.line.reply = .waiting → exec .turnaroundExpiry s =
        .next { s with line := { s.line with turnaround := none, reply := .sending, txEnable := true, spoiled := false } }) ∧
      (s.line.turnaround ≠ none → s.line.reply = .forming → exec .turnaroundExpiry s =
        .next { s with line := { s.line with turnaround := none } }) ∧
      (∀ r, s.line.turnaround = none → s.line.form r =
        { s.line with reply := .sending, replyFrame := some r, txEnable := true, spoiled := false }) ∧
      (s.line.reply = .sending → exec .replySent s =
        .next { s with line := { s.line with reply := .none, replyFrame := none, txEnable := false } }) ∧
      (s.line.reply ≠ .sending → exec .replySent s = .next s)) ∧
  (∀ (h : HeadId) (b : Byte) s,
      (∀ c, s.line.txEnable = true → exec (.lineCharacter c) s = .next s) ∧
      (∀ c, exec (.lineCharacter { character := c, startedWhileDriven := true }) s = .next s) ∧
      (∀ c, s.line.txEnable = false → s.line.spoiled = true → exec (.lineCharacter (heard c)) s =
        .next { s with line := { s.line with rx := none, frameTimer := none, spoiled := false } }) ∧
      (s.line.txEnable = false → s.line.spoiled = false →
        exec (.lineCharacter (heard { data := b, mark := true, framing := false })) s = .next { s with line := { s.line with
          rx := some [b], frameTimer := some { bits := 44, rate := s.store.settings.lineRate } } }) ∧
      (∀ m, s.line.txEnable = false → s.line.spoiled = false →
        exec (.lineCharacter (heard { data := b, mark := m, framing := true })) s = .next { s with line := { s.line with rx := none, frameTimer := none } }) ∧
      (s.line.txEnable = false → s.line.spoiled = false → s.line.rx = none →
        exec (.lineCharacter (heard { data := b, mark := false, framing := false })) s = .next s) ∧
      (∀ c, c.mark = true →
        exec (.sensorCharacter h c) s =
          .next { s with fronts := s.fronts.set h { s.fronts.get h with rx := some [c] } } ∧
        exec (.driveStatusCharacter h c) s =
          .next { s with drives := s.drives.set h { s.drives.get h with rx := some [c] } }) ∧
      ∀ c, c.mark = false →
        ((s.fronts.get h).rx = none → exec (.sensorCharacter h c) s = .next s) ∧
        ((s.drives.get h).rx = none → exec (.driveStatusCharacter h c) s = .next s))

/-- The characters of a frame, one after another, do what the frame as a whole does (R161, R162, R184, and log entry 4 for the rows
that stand for whole frames): on the line, on a sensor input and on a drive status input. On the line, a complete frame whose 8-bit sum
is not 0 and a frame whose length character is above 128 are dropped, and nothing else changes. A good frame to the indexer address with
snoop on is an INDEX frame, or ignored when its kind or length is another (R175); to the strap address of a link that is not listen-only
it is a command; to any other address, address 0 and every address but the strap's in STARTING among them, it is ignored (R162), so
nothing but the frame in reception goes. A sensor frame is handed on as bad with
a framing error in any character, a sum that is not 0 or a lead other than 0x50 to 0x53, and a drive status frame with a framing error,
such a sum, a lead other than 0x70 or a status above 2. (On the line: characters that started while the HD6 did not drive it, log entry
37.) -/
def Obligations.CharactersMakeUpTheirFrame : Prop :=
(∀ (address : Nat) (kind : Byte) (p : List Byte) s, address < 256 → p.length ≤ 128 → s.line.txEnable = false →
    runAll ((asCharacters (lineFrame address kind p)).map fun c => .lineCharacter (heard c)) s =
      .next (s.wholeFrame address kind p)) ∧
(∀ (address kind size : Byte) (p : List Byte) s, s.line.txEnable = false →
    let bytes := [address, kind, size] ++ p
    let dropped : State := { s with line := { s.line with rx := none, frameTimer := none, spoiled := false } }
    128 < size.toNat ∨ (p.length = size.toNat + 1 ∧ (bytes.map BitVec.toNat).sum % 256 ≠ 0) →
    runAll ((asCharacters bytes).map fun c => .lineCharacter (heard c)) s = .next dropped) ∧
(∀ (address : Nat) (kind : Byte) (p : List Byte) s, address < 256 → p.length ≤ 128 → s.line.txEnable = false →
    let snooped := address = s.store.settings.indexer ∧ address ≠ s.line.strap.toNat ∧ s.sup.mode ≠ .starting
    let commanded := address = s.line.strap.toNat ∧ s.line.strap ≠ 0
    let dropped : State := { s with line := { s.line with rx := none, frameTimer := none, spoiled := false } }
    let arrives := runAll ((asCharacters (lineFrame address kind p)).map fun c => .lineCharacter (heard c)) s
    (¬snooped → ¬commanded → arrives = .next dropped) ∧
    (snooped → kind ≠ 0x51 ∨ p.length ≠ 4 → arrives = .next dropped) ∧
    (∀ serial, snooped → kind = 0x51 → p = leWord32 serial → arrives = exec (.index serial) s)) ∧
  (∀ kind p s, exec (.unknownKind kind p) s = .next (s.wholeFrame s.line.strap.toNat kind p)) ∧
  (∀ (k : CommandKind) (p : List Byte) s, s.line.strap ≠ 0 →
    exec (k.instr p) s = .next (s.wholeFrame s.line.strap.toNat k.code p)) ∧
  (∀ (h : HeadId) (lead lo hi check : Byte) (f0 f1 f2 f3 : Bool) s,
    let cs : List Character := [{ data := lead, mark := true, framing := f0 }, { data := lo, mark := false, framing := f1 },
      { data := hi, mark := false, framing := f2 }, { data := check, mark := false, framing := f3 }]
    let clean := (∀ c ∈ cs, c.framing = false) ∧ (cs.map fun c => c.data.toNat).sum % 256 = 0
    let good : SampleStatus → SampleFrame := fun status => if clean then .good status (hi ++ lo) else .bad
    runAll (cs.map (.sensorCharacter h)) s = exec (.sample h
      (if lead = 0x50 then good .ok else if lead = 0x51 then good .low else if lead = 0x52 then good .high
       else if lead = 0x53 then good .weak else .bad)) s) ∧
  ∀ (h : HeadId) (lead status check : Byte) (f0 f1 f2 : Bool) s,
    let cs : List Character := [{ data := lead, mark := true, framing := f0 }, { data := status, mark := false, framing := f1 },
      { data := check, mark := false, framing := f2 }]
    let clean := lead = 0x70 ∧ (∀ c ∈ cs, c.framing = false) ∧ (cs.map fun c => c.data.toNat).sum % 256 = 0
    let good : DriveStatus → StatusFrame := fun st => if clean then .good st else .bad
    runAll (cs.map (.driveStatusCharacter h)) s = exec (.driveStatus h
      (if status = 0 then good .ready else if status = 1 then good .notReady else if status = 2 then good .tripped else .bad)) s

/-! ## Invariants -/

/-- Right after reset every invariant stated here holds. (State.reset has the model's own values where the spec gives none: log
entries 10, 15, 16 and 23.) -/
def Obligations.ResetStateIsSound : Prop :=
State.reset.HeadsSound ∧ State.reset.PowerSafe ∧ State.reset.FramesFollowOutput ∧ State.reset.CyclesSound ∧
    State.reset.LoopsSound ∧ State.reset.CeilingsSound ∧ State.reset.FrontsSound ∧ State.reset.DispatchSound ∧
    State.reset.LinksSound ∧ State.reset.LineSound ∧ State.reset.ModesSound ∧ State.reset.IndexSound ∧
    State.reset.TraceSound ∧ State.reset.NumbersSound

/-- Power reaches no head but one in HEATING on a cycle that is not dry (Table 3.1, R93, R107, R111, R112, R119), through every
command. -/
def Obligations.PowerOnlyWhileHeating : Prop :=
StepKeeps fun s => s.HeadsSound ∧ s.PowerSafe ∧ s.FramesFollowOutput

/-- Contexts, loop state and ceilings stay as the heat cycle and the power loop say (R43, R44, R61, R62, R78 to R80, R83), through
every command. -/
def Obligations.CyclesStaySound : Prop :=
StepKeeps fun s => s.HeadsSound ∧ s.CyclesSound ∧ s.LoopsSound ∧ s.CeilingsSound

/-- The front ends stay within their ranges, calibration copies stay sound, the replay table keeps its entries, and replays run on
active dry cycles alone (R27, R29, R35, R36, R38, R40, R177). -/
def Obligations.FrontEndsStaySound : Prop :=
StepKeeps State.FrontsSound

/-- The budget never exceeds 2400, nor the grants of an expiry the budget, nor a counter the relief threshold (R90, R91, R97, R99).
-/
def Obligations.DispatcherStaysWithinItsBounds : Prop :=
StepKeeps fun s => s.HeadsSound ∧ s.DispatchSound

/-- FIFOs and queues keep their bounds, timers run with their frames, and the line is driven only while a reply is sent, with no
character then in reception (R122, R127, R128, R158 to R160, R163, R17). -/
def Obligations.LinksStaySound : Prop :=
StepKeeps fun s => s.LinksSound ∧ s.LineSound

/-- Modes admit the cycles they should (R169, R170, 9.5), the store keeps its slots, the code index stands for the VALID ones, and no
code stands twice (R4, R7, R9). -/
def Obligations.ModesAndIndexStaySound : Prop :=
StepKeeps fun s => s.HeadsSound ∧ s.ModesSound ∧ s.IndexSound

/-- The trace buffers never run over, their counts are their records', and each active cycle holds its one reservation (R142, R143,
R145 to R147). -/
def Obligations.TraceBuffersStaySound : Prop :=
StepKeeps fun s => s.HeadsSound ∧ s.CyclesSound ∧ s.TraceSound

/-- No two records in the buffers, and no two active cycles, carry the same number (R88, R150), through every command but a START that
takes the counter from its last number, 4294967295, to 1. -/
def Obligations.CycleNumbersStayUnique : Prop :=
∀ s s', s.NumbersSound → step s = .next s' → (s.disp.cycleCounter = 4294967295 → s'.disp.cycleCounter ≠ 1) → s'.NumbersSound
end

