-- ==== Sys2Proof/Laws/PerSix.lean ====
section
/-! SUPPORT. Reading and writing one of six. -/

namespace Sys2Proof.PerSix

variable {α β : Type}

/-- A statement about each of the six numbers, and the six statements. -/
theorem forall_six {p : Fin 6 → Prop} : (∀ i, p i) ↔ p 0 ∧ p 1 ∧ p 2 ∧ p 3 ∧ p 4 ∧ p 5 := by
  constructor
  · intro h; exact ⟨h 0, h 1, h 2, h 3, h 4, h 5⟩
  · rintro ⟨h0, h1, h2, h3, h4, h5⟩ i
    match i with
    | 0 => exact h0
    | 1 => exact h1
    | 2 => exact h2
    | 3 => exact h3
    | 4 => exact h4
    | 5 => exact h5

@[simp] theorem get_set_same (p : PerSix α) (i : Fin 6) (x : α) : (p.set i x).get i = x := by
  revert i; rw [forall_six]; exact ⟨rfl, rfl, rfl, rfl, rfl, rfl⟩

theorem get_set_other (p : PerSix α) {i j : Fin 6} (x : α) (h : j ≠ i) : (p.set i x).get j = p.get j := by
  revert i j; simp only [forall_six]
  refine ⟨⟨?_, ?_, ?_, ?_, ?_, ?_⟩, ⟨?_, ?_, ?_, ?_, ?_, ?_⟩, ⟨?_, ?_, ?_, ?_, ?_, ?_⟩, ⟨?_, ?_, ?_, ?_, ?_, ?_⟩,
    ⟨?_, ?_, ?_, ?_, ?_, ?_⟩, ⟨?_, ?_, ?_, ?_, ?_, ?_⟩⟩ <;> intro h <;> first | rfl | exact absurd rfl h

/-- Reading any number after a write. -/
theorem get_set (p : PerSix α) (i j : Fin 6) (x : α) : (p.set i x).get j = if j = i then x else p.get j := by
  split
  · next h => rw [h, get_set_same]
  · next h => exact get_set_other p x h

@[simp] theorem get_modify_same (p : PerSix α) (i : Fin 6) (f : α → α) : (p.modify i f).get i = f (p.get i) :=
  get_set_same p i _

theorem get_modify_other (p : PerSix α) {i j : Fin 6} (f : α → α) (h : j ≠ i) : (p.modify i f).get j = p.get j :=
  get_set_other p _ h

/-- Reading any number after a change. -/
theorem get_modify (p : PerSix α) (i j : Fin 6) (f : α → α) :
    (p.modify i f).get j = if j = i then f (p.get i) else p.get j := get_set p i j _

@[simp] theorem get_map (p : PerSix α) (f : α → β) (i : Fin 6) : (p.map f).get i = f (p.get i) := by
  revert i; rw [forall_six]; exact ⟨rfl, rfl, rfl, rfl, rfl, rfl⟩

@[simp] theorem get_ofFn (f : Fin 6 → α) (i : Fin 6) : (ofFn f).get i = f i := by
  revert i; rw [forall_six]; exact ⟨rfl, rfl, rfl, rfl, rfl, rfl⟩

@[simp] theorem get_const (x : α) (i : Fin 6) : (const x).get i = x := by
  revert i; rw [forall_six]; exact ⟨rfl, rfl, rfl, rfl, rfl, rfl⟩

/-- Families with equal members are equal. -/
theorem ext_get {p q : PerSix α} (h : ∀ i, p.get i = q.get i) : p = q := by
  obtain ⟨h0, h1, h2, h3, h4, h5⟩ := forall_six.mp h
  cases p; cases q
  exact congr (congr (congr (congr (congr (congrArg PerSix.mk h0) h1) h2) h3) h4) h5

@[simp] theorem set_set (p : PerSix α) (i : Fin 6) (x y : α) : (p.set i x).set i y = p.set i y := by
  apply ext_get; intro j; simp only [get_set]; split <;> rfl

end Sys2Proof.PerSix
end

