-- ==== Sys2Proof/Laws/State.lean ====
section
/-! SUPPORT. What each named update of the state does to each of its fields. -/

namespace Sys2Proof.Machine

variable (s : State)

/-! ### modStore -/

@[simp] theorem State.modStore_store (f : Store → Store) : (s.modStore f).store = f s.store := rfl
@[simp] theorem State.modStore_fronts (f : Store → Store) : (s.modStore f).fronts = s.fronts := rfl
@[simp] theorem State.modStore_heads (f : Store → Store) : (s.modStore f).heads = s.heads := rfl
@[simp] theorem State.modStore_disp (f : Store → Store) : (s.modStore f).disp = s.disp := rfl
@[simp] theorem State.modStore_drives (f : Store → Store) : (s.modStore f).drives = s.drives := rfl
@[simp] theorem State.modStore_cabinet (f : Store → Store) : (s.modStore f).cabinet = s.cabinet := rfl
@[simp] theorem State.modStore_links (f : Store → Store) : (s.modStore f).links = s.links := rfl
@[simp] theorem State.modStore_line (f : Store → Store) : (s.modStore f).line = s.line := rfl
@[simp] theorem State.modStore_sup (f : Store → Store) : (s.modStore f).sup = s.sup := rfl
@[simp] theorem State.modStore_trace (f : Store → Store) : (s.modStore f).trace = s.trace := rfl
@[simp] theorem State.modStore_freeCount (f : Store → Store) : (s.modStore f).freeCount = s.freeCount := rfl
@[simp] theorem State.modStore_pending (f : Store → Store) : (s.modStore f).pending = s.pending := rfl

/-! ### modDisp -/

@[simp] theorem State.modDisp_store (f : Dispatcher → Dispatcher) : (s.modDisp f).store = s.store := rfl
@[simp] theorem State.modDisp_fronts (f : Dispatcher → Dispatcher) : (s.modDisp f).fronts = s.fronts := rfl
@[simp] theorem State.modDisp_heads (f : Dispatcher → Dispatcher) : (s.modDisp f).heads = s.heads := rfl
@[simp] theorem State.modDisp_disp (f : Dispatcher → Dispatcher) : (s.modDisp f).disp = f s.disp := rfl
@[simp] theorem State.modDisp_drives (f : Dispatcher → Dispatcher) : (s.modDisp f).drives = s.drives := rfl
@[simp] theorem State.modDisp_cabinet (f : Dispatcher → Dispatcher) : (s.modDisp f).cabinet = s.cabinet := rfl
@[simp] theorem State.modDisp_links (f : Dispatcher → Dispatcher) : (s.modDisp f).links = s.links := rfl
@[simp] theorem State.modDisp_line (f : Dispatcher → Dispatcher) : (s.modDisp f).line = s.line := rfl
@[simp] theorem State.modDisp_sup (f : Dispatcher → Dispatcher) : (s.modDisp f).sup = s.sup := rfl
@[simp] theorem State.modDisp_trace (f : Dispatcher → Dispatcher) : (s.modDisp f).trace = s.trace := rfl
@[simp] theorem State.modDisp_freeCount (f : Dispatcher → Dispatcher) : (s.modDisp f).freeCount = s.freeCount := rfl
@[simp] theorem State.modDisp_pending (f : Dispatcher → Dispatcher) : (s.modDisp f).pending = s.pending := rfl

/-! ### modLine -/

@[simp] theorem State.modLine_store (f : LineLink → LineLink) : (s.modLine f).store = s.store := rfl
@[simp] theorem State.modLine_fronts (f : LineLink → LineLink) : (s.modLine f).fronts = s.fronts := rfl
@[simp] theorem State.modLine_heads (f : LineLink → LineLink) : (s.modLine f).heads = s.heads := rfl
@[simp] theorem State.modLine_disp (f : LineLink → LineLink) : (s.modLine f).disp = s.disp := rfl
@[simp] theorem State.modLine_drives (f : LineLink → LineLink) : (s.modLine f).drives = s.drives := rfl
@[simp] theorem State.modLine_cabinet (f : LineLink → LineLink) : (s.modLine f).cabinet = s.cabinet := rfl
@[simp] theorem State.modLine_links (f : LineLink → LineLink) : (s.modLine f).links = s.links := rfl
@[simp] theorem State.modLine_line (f : LineLink → LineLink) : (s.modLine f).line = f s.line := rfl
@[simp] theorem State.modLine_sup (f : LineLink → LineLink) : (s.modLine f).sup = s.sup := rfl
@[simp] theorem State.modLine_trace (f : LineLink → LineLink) : (s.modLine f).trace = s.trace := rfl
@[simp] theorem State.modLine_freeCount (f : LineLink → LineLink) : (s.modLine f).freeCount = s.freeCount := rfl
@[simp] theorem State.modLine_pending (f : LineLink → LineLink) : (s.modLine f).pending = s.pending := rfl

/-! ### modSup -/

@[simp] theorem State.modSup_store (f : Supervision → Supervision) : (s.modSup f).store = s.store := rfl
@[simp] theorem State.modSup_fronts (f : Supervision → Supervision) : (s.modSup f).fronts = s.fronts := rfl
@[simp] theorem State.modSup_heads (f : Supervision → Supervision) : (s.modSup f).heads = s.heads := rfl
@[simp] theorem State.modSup_disp (f : Supervision → Supervision) : (s.modSup f).disp = s.disp := rfl
@[simp] theorem State.modSup_drives (f : Supervision → Supervision) : (s.modSup f).drives = s.drives := rfl
@[simp] theorem State.modSup_cabinet (f : Supervision → Supervision) : (s.modSup f).cabinet = s.cabinet := rfl
@[simp] theorem State.modSup_links (f : Supervision → Supervision) : (s.modSup f).links = s.links := rfl
@[simp] theorem State.modSup_line (f : Supervision → Supervision) : (s.modSup f).line = s.line := rfl
@[simp] theorem State.modSup_sup (f : Supervision → Supervision) : (s.modSup f).sup = f s.sup := rfl
@[simp] theorem State.modSup_trace (f : Supervision → Supervision) : (s.modSup f).trace = s.trace := rfl
@[simp] theorem State.modSup_freeCount (f : Supervision → Supervision) : (s.modSup f).freeCount = s.freeCount := rfl
@[simp] theorem State.modSup_pending (f : Supervision → Supervision) : (s.modSup f).pending = s.pending := rfl

/-! ### modTrace -/

@[simp] theorem State.modTrace_store (f : TraceUnit → TraceUnit) : (s.modTrace f).store = s.store := rfl
@[simp] theorem State.modTrace_fronts (f : TraceUnit → TraceUnit) : (s.modTrace f).fronts = s.fronts := rfl
@[simp] theorem State.modTrace_heads (f : TraceUnit → TraceUnit) : (s.modTrace f).heads = s.heads := rfl
@[simp] theorem State.modTrace_disp (f : TraceUnit → TraceUnit) : (s.modTrace f).disp = s.disp := rfl
@[simp] theorem State.modTrace_drives (f : TraceUnit → TraceUnit) : (s.modTrace f).drives = s.drives := rfl
@[simp] theorem State.modTrace_cabinet (f : TraceUnit → TraceUnit) : (s.modTrace f).cabinet = s.cabinet := rfl
@[simp] theorem State.modTrace_links (f : TraceUnit → TraceUnit) : (s.modTrace f).links = s.links := rfl
@[simp] theorem State.modTrace_line (f : TraceUnit → TraceUnit) : (s.modTrace f).line = s.line := rfl
@[simp] theorem State.modTrace_sup (f : TraceUnit → TraceUnit) : (s.modTrace f).sup = s.sup := rfl
@[simp] theorem State.modTrace_trace (f : TraceUnit → TraceUnit) : (s.modTrace f).trace = f s.trace := rfl
@[simp] theorem State.modTrace_freeCount (f : TraceUnit → TraceUnit) : (s.modTrace f).freeCount = s.freeCount := rfl
@[simp] theorem State.modTrace_pending (f : TraceUnit → TraceUnit) : (s.modTrace f).pending = s.pending := rfl

/-! ### modFront -/

@[simp] theorem State.modFront_store (h : HeadId) (f : FrontEnd → FrontEnd) : (s.modFront h f).store = s.store := rfl
theorem State.modFront_fronts (h : HeadId) (f : FrontEnd → FrontEnd) : (s.modFront h f).fronts = s.fronts.modify h f := rfl
@[simp] theorem State.modFront_fronts_same (h : HeadId) (f : FrontEnd → FrontEnd) : (s.modFront h f).fronts.get h = f (s.fronts.get h) :=
  PerSix.get_modify_same _ _ _
@[simp] theorem State.modFront_fronts_other {h k : HeadId} (f : FrontEnd → FrontEnd) (hk : k ≠ h) :
    (s.modFront h f).fronts.get k = s.fronts.get k := PerSix.get_modify_other _ _ hk
@[simp] theorem State.modFront_heads (h : HeadId) (f : FrontEnd → FrontEnd) : (s.modFront h f).heads = s.heads := rfl
@[simp] theorem State.modFront_disp (h : HeadId) (f : FrontEnd → FrontEnd) : (s.modFront h f).disp = s.disp := rfl
@[simp] theorem State.modFront_drives (h : HeadId) (f : FrontEnd → FrontEnd) : (s.modFront h f).drives = s.drives := rfl
@[simp] theorem State.modFront_cabinet (h : HeadId) (f : FrontEnd → FrontEnd) : (s.modFront h f).cabinet = s.cabinet := rfl
@[simp] theorem State.modFront_links (h : HeadId) (f : FrontEnd → FrontEnd) : (s.modFront h f).links = s.links := rfl
@[simp] theorem State.modFront_line (h : HeadId) (f : FrontEnd → FrontEnd) : (s.modFront h f).line = s.line := rfl
@[simp] theorem State.modFront_sup (h : HeadId) (f : FrontEnd → FrontEnd) : (s.modFront h f).sup = s.sup := rfl
@[simp] theorem State.modFront_trace (h : HeadId) (f : FrontEnd → FrontEnd) : (s.modFront h f).trace = s.trace := rfl
@[simp] theorem State.modFront_freeCount (h : HeadId) (f : FrontEnd → FrontEnd) : (s.modFront h f).freeCount = s.freeCount := rfl
@[simp] theorem State.modFront_pending (h : HeadId) (f : FrontEnd → FrontEnd) : (s.modFront h f).pending = s.pending := rfl

/-! ### modHead -/

@[simp] theorem State.modHead_store (h : HeadId) (f : Head → Head) : (s.modHead h f).store = s.store := rfl
@[simp] theorem State.modHead_fronts (h : HeadId) (f : Head → Head) : (s.modHead h f).fronts = s.fronts := rfl
theorem State.modHead_heads (h : HeadId) (f : Head → Head) : (s.modHead h f).heads = s.heads.modify h f := rfl
@[simp] theorem State.modHead_heads_same (h : HeadId) (f : Head → Head) : (s.modHead h f).heads.get h = f (s.heads.get h) :=
  PerSix.get_modify_same _ _ _
@[simp] theorem State.modHead_heads_other {h k : HeadId} (f : Head → Head) (hk : k ≠ h) :
    (s.modHead h f).heads.get k = s.heads.get k := PerSix.get_modify_other _ _ hk
@[simp] theorem State.modHead_disp (h : HeadId) (f : Head → Head) : (s.modHead h f).disp = s.disp := rfl
@[simp] theorem State.modHead_drives (h : HeadId) (f : Head → Head) : (s.modHead h f).drives = s.drives := rfl
@[simp] theorem State.modHead_cabinet (h : HeadId) (f : Head → Head) : (s.modHead h f).cabinet = s.cabinet := rfl
@[simp] theorem State.modHead_links (h : HeadId) (f : Head → Head) : (s.modHead h f).links = s.links := rfl
@[simp] theorem State.modHead_line (h : HeadId) (f : Head → Head) : (s.modHead h f).line = s.line := rfl
@[simp] theorem State.modHead_sup (h : HeadId) (f : Head → Head) : (s.modHead h f).sup = s.sup := rfl
@[simp] theorem State.modHead_trace (h : HeadId) (f : Head → Head) : (s.modHead h f).trace = s.trace := rfl
@[simp] theorem State.modHead_freeCount (h : HeadId) (f : Head → Head) : (s.modHead h f).freeCount = s.freeCount := rfl
@[simp] theorem State.modHead_pending (h : HeadId) (f : Head → Head) : (s.modHead h f).pending = s.pending := rfl

/-! ### modDrive -/

@[simp] theorem State.modDrive_store (h : HeadId) (f : DriveUnit → DriveUnit) : (s.modDrive h f).store = s.store := rfl
@[simp] theorem State.modDrive_fronts (h : HeadId) (f : DriveUnit → DriveUnit) : (s.modDrive h f).fronts = s.fronts := rfl
@[simp] theorem State.modDrive_heads (h : HeadId) (f : DriveUnit → DriveUnit) : (s.modDrive h f).heads = s.heads := rfl
@[simp] theorem State.modDrive_disp (h : HeadId) (f : DriveUnit → DriveUnit) : (s.modDrive h f).disp = s.disp := rfl
theorem State.modDrive_drives (h : HeadId) (f : DriveUnit → DriveUnit) : (s.modDrive h f).drives = s.drives.modify h f := rfl
@[simp] theorem State.modDrive_drives_same (h : HeadId) (f : DriveUnit → DriveUnit) : (s.modDrive h f).drives.get h = f (s.drives.get h) :=
  PerSix.get_modify_same _ _ _
@[simp] theorem State.modDrive_drives_other {h k : HeadId} (f : DriveUnit → DriveUnit) (hk : k ≠ h) :
    (s.modDrive h f).drives.get k = s.drives.get k := PerSix.get_modify_other _ _ hk
@[simp] theorem State.modDrive_cabinet (h : HeadId) (f : DriveUnit → DriveUnit) : (s.modDrive h f).cabinet = s.cabinet := rfl
@[simp] theorem State.modDrive_links (h : HeadId) (f : DriveUnit → DriveUnit) : (s.modDrive h f).links = s.links := rfl
@[simp] theorem State.modDrive_line (h : HeadId) (f : DriveUnit → DriveUnit) : (s.modDrive h f).line = s.line := rfl
@[simp] theorem State.modDrive_sup (h : HeadId) (f : DriveUnit → DriveUnit) : (s.modDrive h f).sup = s.sup := rfl
@[simp] theorem State.modDrive_trace (h : HeadId) (f : DriveUnit → DriveUnit) : (s.modDrive h f).trace = s.trace := rfl
@[simp] theorem State.modDrive_freeCount (h : HeadId) (f : DriveUnit → DriveUnit) : (s.modDrive h f).freeCount = s.freeCount := rfl
@[simp] theorem State.modDrive_pending (h : HeadId) (f : DriveUnit → DriveUnit) : (s.modDrive h f).pending = s.pending := rfl

/-! ### modLink -/

@[simp] theorem State.modLink_store (h : LinkId) (f : StationLink → StationLink) : (s.modLink h f).store = s.store := rfl
@[simp] theorem State.modLink_fronts (h : LinkId) (f : StationLink → StationLink) : (s.modLink h f).fronts = s.fronts := rfl
@[simp] theorem State.modLink_heads (h : LinkId) (f : StationLink → StationLink) : (s.modLink h f).heads = s.heads := rfl
@[simp] theorem State.modLink_disp (h : LinkId) (f : StationLink → StationLink) : (s.modLink h f).disp = s.disp := rfl
@[simp] theorem State.modLink_drives (h : LinkId) (f : StationLink → StationLink) : (s.modLink h f).drives = s.drives := rfl
@[simp] theorem State.modLink_cabinet (h : LinkId) (f : StationLink → StationLink) : (s.modLink h f).cabinet = s.cabinet := rfl
theorem State.modLink_links (h : LinkId) (f : StationLink → StationLink) : (s.modLink h f).links = s.links.modify h f := rfl
@[simp] theorem State.modLink_links_same (h : LinkId) (f : StationLink → StationLink) : (s.modLink h f).links.get h = f (s.links.get h) :=
  PerSix.get_modify_same _ _ _
@[simp] theorem State.modLink_links_other {h k : LinkId} (f : StationLink → StationLink) (hk : k ≠ h) :
    (s.modLink h f).links.get k = s.links.get k := PerSix.get_modify_other _ _ hk
@[simp] theorem State.modLink_line (h : LinkId) (f : StationLink → StationLink) : (s.modLink h f).line = s.line := rfl
@[simp] theorem State.modLink_sup (h : LinkId) (f : StationLink → StationLink) : (s.modLink h f).sup = s.sup := rfl
@[simp] theorem State.modLink_trace (h : LinkId) (f : StationLink → StationLink) : (s.modLink h f).trace = s.trace := rfl
@[simp] theorem State.modLink_freeCount (h : LinkId) (f : StationLink → StationLink) : (s.modLink h f).freeCount = s.freeCount := rfl
@[simp] theorem State.modLink_pending (h : LinkId) (f : StationLink → StationLink) : (s.modLink h f).pending = s.pending := rfl

/-! ### modCtx -/

@[simp] theorem State.modCtx_store (h : HeadId) (f : Context → Context) : (s.modCtx h f).store = s.store := rfl
@[simp] theorem State.modCtx_fronts (h : HeadId) (f : Context → Context) : (s.modCtx h f).fronts = s.fronts := rfl
@[simp] theorem State.modCtx_heads_same (h : HeadId) (f : Context → Context) :
    (s.modCtx h f).heads.get h = { s.heads.get h with ctx := (s.heads.get h).ctx.map f } :=
  State.modHead_heads_same s h _
@[simp] theorem State.modCtx_heads_other {h k : HeadId} (f : Context → Context) (hk : k ≠ h) :
    (s.modCtx h f).heads.get k = s.heads.get k := State.modHead_heads_other s _ hk
@[simp] theorem State.modCtx_disp (h : HeadId) (f : Context → Context) : (s.modCtx h f).disp = s.disp := rfl
@[simp] theorem State.modCtx_drives (h : HeadId) (f : Context → Context) : (s.modCtx h f).drives = s.drives := rfl
@[simp] theorem State.modCtx_cabinet (h : HeadId) (f : Context → Context) : (s.modCtx h f).cabinet = s.cabinet := rfl
@[simp] theorem State.modCtx_links (h : HeadId) (f : Context → Context) : (s.modCtx h f).links = s.links := rfl
@[simp] theorem State.modCtx_line (h : HeadId) (f : Context → Context) : (s.modCtx h f).line = s.line := rfl
@[simp] theorem State.modCtx_sup (h : HeadId) (f : Context → Context) : (s.modCtx h f).sup = s.sup := rfl
@[simp] theorem State.modCtx_trace (h : HeadId) (f : Context → Context) : (s.modCtx h f).trace = s.trace := rfl
@[simp] theorem State.modCtx_freeCount (h : HeadId) (f : Context → Context) : (s.modCtx h f).freeCount = s.freeCount := rfl
@[simp] theorem State.modCtx_pending (h : HeadId) (f : Context → Context) : (s.modCtx h f).pending = s.pending := rfl

/-! ### modFlags -/

@[simp] theorem State.modFlags_store (h : HeadId) (f : CycleFlags → CycleFlags) : (s.modFlags h f).store = s.store := rfl
@[simp] theorem State.modFlags_fronts (h : HeadId) (f : CycleFlags → CycleFlags) : (s.modFlags h f).fronts = s.fronts := rfl
@[simp] theorem State.modFlags_heads_same (h : HeadId) (f : CycleFlags → CycleFlags) :
    (s.modFlags h f).heads.get h =
      { s.heads.get h with ctx := (s.heads.get h).ctx.map fun c => { c with flags := f c.flags } } :=
  State.modCtx_heads_same s h _
@[simp] theorem State.modFlags_heads_other {h k : HeadId} (f : CycleFlags → CycleFlags) (hk : k ≠ h) :
    (s.modFlags h f).heads.get k = s.heads.get k := State.modCtx_heads_other s _ hk
@[simp] theorem State.modFlags_disp (h : HeadId) (f : CycleFlags → CycleFlags) : (s.modFlags h f).disp = s.disp := rfl
@[simp] theorem State.modFlags_drives (h : HeadId) (f : CycleFlags → CycleFlags) : (s.modFlags h f).drives = s.drives := rfl
@[simp] theorem State.modFlags_cabinet (h : HeadId) (f : CycleFlags → CycleFlags) : (s.modFlags h f).cabinet = s.cabinet := rfl
@[simp] theorem State.modFlags_links (h : HeadId) (f : CycleFlags → CycleFlags) : (s.modFlags h f).links = s.links := rfl
@[simp] theorem State.modFlags_line (h : HeadId) (f : CycleFlags → CycleFlags) : (s.modFlags h f).line = s.line := rfl
@[simp] theorem State.modFlags_sup (h : HeadId) (f : CycleFlags → CycleFlags) : (s.modFlags h f).sup = s.sup := rfl
@[simp] theorem State.modFlags_trace (h : HeadId) (f : CycleFlags → CycleFlags) : (s.modFlags h f).trace = s.trace := rfl
@[simp] theorem State.modFlags_freeCount (h : HeadId) (f : CycleFlags → CycleFlags) : (s.modFlags h f).freeCount = s.freeCount := rfl
@[simp] theorem State.modFlags_pending (h : HeadId) (f : CycleFlags → CycleFlags) : (s.modFlags h f).pending = s.pending := rfl

/-! ### drawFree -/

@[simp] theorem State.drawFree_store : s.drawFree.store = s.store := rfl
@[simp] theorem State.drawFree_fronts : s.drawFree.fronts = s.fronts := rfl
@[simp] theorem State.drawFree_heads : s.drawFree.heads = s.heads := rfl
@[simp] theorem State.drawFree_disp : s.drawFree.disp = s.disp := rfl
@[simp] theorem State.drawFree_drives : s.drawFree.drives = s.drives := rfl
@[simp] theorem State.drawFree_cabinet : s.drawFree.cabinet = s.cabinet := rfl
@[simp] theorem State.drawFree_links : s.drawFree.links = s.links := rfl
@[simp] theorem State.drawFree_line : s.drawFree.line = s.line := rfl
@[simp] theorem State.drawFree_sup : s.drawFree.sup = s.sup := rfl
@[simp] theorem State.drawFree_trace : s.drawFree.trace = s.trace := rfl
@[simp] theorem State.drawFree_freeCount : s.drawFree.freeCount = s.freeCount + 1 := rfl
@[simp] theorem State.drawFree_pending : s.drawFree.pending = s.pending := rfl

@[simp] theorem State.fields_eq (h : HeadId) : s.fields h = s.store.inForce.get h := rfl

end Sys2Proof.Machine
end

