-- ==== Sys2Proof/Laws/Cycle.lean ====
section
/-! SUPPORT. What a cut, the end of a cycle and an action on all heads can do (R58, R62, R93, R102, R112, R170). -/

namespace Sys2Proof.Machine

variable (s : State) (h : HeadId) (reason : Option Reason)

/-! ### The cut -/

@[simp] theorem State.cut_store : (s.cut h).store = s.store := rfl
@[simp] theorem State.cut_fronts : (s.cut h).fronts = s.fronts := rfl
@[simp] theorem State.cut_cabinet : (s.cut h).cabinet = s.cabinet := rfl
@[simp] theorem State.cut_links : (s.cut h).links = s.links := rfl
@[simp] theorem State.cut_line : (s.cut h).line = s.line := rfl
@[simp] theorem State.cut_sup : (s.cut h).sup = s.sup := rfl
@[simp] theorem State.cut_trace : (s.cut h).trace = s.trace := rfl
@[simp] theorem State.cut_freeCount : (s.cut h).freeCount = s.freeCount := rfl
@[simp] theorem State.cut_pending : (s.cut h).pending = s.pending := rfl

@[simp] theorem State.cut_heads_same :
    (s.cut h).heads.get h =
      { s.heads.get h with ctx := (s.heads.get h).ctx.map fun c => c.accrue (s.cutEnergy h) } :=
  State.modCtx_heads_same s h _
@[simp] theorem State.cut_heads_other {k : HeadId} (hk : k ≠ h) : (s.cut h).heads.get k = s.heads.get k :=
  State.modCtx_heads_other s _ hk
@[simp] theorem State.cut_drives_same :
    (s.cut h).drives.get h = (s.drives.get h).cut (s.store.inForce.get h).driveType := PerSix.get_modify_same _ _ _
@[simp] theorem State.cut_drives_other {k : HeadId} (hk : k ≠ h) : (s.cut h).drives.get k = s.drives.get k :=
  PerSix.get_modify_other _ _ hk
/-- A cut touches the dispatcher in the head's request and grant entries alone. -/
theorem State.cut_disp :
    (s.cut h).disp =
      { s.disp with request := s.disp.request.set h none, grant := s.disp.grant.set h { grant := 0, served := 0 } } := rfl

/-! ### Command events (R108) -/

@[simp] theorem DriveUnit.command_output (d : DriveUnit) (v : DriveCommand) : (d.command v).output = v := by
  unfold DriveUnit.command; split <;> rfl
@[simp] theorem DriveUnit.command_state (d : DriveUnit) (v : DriveCommand) : (d.command v).state = d.state := by
  unfold DriveUnit.command; split <;> rfl
@[simp] theorem DriveUnit.command_timer (d : DriveUnit) (v : DriveCommand) : (d.command v).timer = d.timer := by
  unfold DriveUnit.command; split <;> rfl
@[simp] theorem DriveUnit.command_windowStart (d : DriveUnit) (v : DriveCommand) :
    (d.command v).windowStart = d.windowStart := by
  unfold DriveUnit.command; split <;> rfl
@[simp] theorem DriveUnit.command_onTime (d : DriveUnit) (v : DriveCommand) : (d.command v).onTime = d.onTime := by
  unfold DriveUnit.command; split <;> rfl
@[simp] theorem DriveUnit.command_onRunning (d : DriveUnit) (v : DriveCommand) : (d.command v).onRunning = d.onRunning := by
  unfold DriveUnit.command; split <;> rfl
@[simp] theorem DriveUnit.command_rx (d : DriveUnit) (v : DriveCommand) : (d.command v).rx = d.rx := by
  unfold DriveUnit.command; split <;> rfl
/-- The frame of a command event starts on an idle line and waits otherwise, in place of one that waited. -/
theorem DriveUnit.command_frames (d : DriveUnit) (v : DriveCommand) :
    (d.inProgress = none ∧ (d.command v).inProgress = some v ∧ (d.command v).waiting = d.waiting) ∨
      (d.inProgress ≠ none ∧ (d.command v).inProgress = d.inProgress ∧ (d.command v).waiting = some v) := by
  unfold DriveUnit.command
  cases hd : d.inProgress <;> simp
@[simp] theorem DriveType.zero_value (ty : DriveType) : ty.zero.value = 0 := by cases ty <;> rfl

/-! ### The drain watch (R170) -/

@[simp] theorem State.watchDrain_store : s.watchDrain.store = s.store := by
  unfold State.watchDrain; split <;> rfl
@[simp] theorem State.watchDrain_fronts : s.watchDrain.fronts = s.fronts := by
  unfold State.watchDrain; split <;> rfl
@[simp] theorem State.watchDrain_heads : s.watchDrain.heads = s.heads := by
  unfold State.watchDrain; split <;> rfl
@[simp] theorem State.watchDrain_disp : s.watchDrain.disp = s.disp := by
  unfold State.watchDrain; split <;> rfl
@[simp] theorem State.watchDrain_drives : s.watchDrain.drives = s.drives := by
  unfold State.watchDrain; split <;> rfl
@[simp] theorem State.watchDrain_cabinet : s.watchDrain.cabinet = s.cabinet := by
  unfold State.watchDrain; split <;> rfl
@[simp] theorem State.watchDrain_links : s.watchDrain.links = s.links := by
  unfold State.watchDrain; split <;> rfl
@[simp] theorem State.watchDrain_line : s.watchDrain.line = s.line := by
  unfold State.watchDrain; split <;> rfl
@[simp] theorem State.watchDrain_trace : s.watchDrain.trace = s.trace := by
  unfold State.watchDrain; split <;> rfl
@[simp] theorem State.watchDrain_freeCount : s.watchDrain.freeCount = s.freeCount := by
  unfold State.watchDrain; split <;> rfl
@[simp] theorem State.watchDrain_pending : s.watchDrain.pending = s.pending := by
  unfold State.watchDrain; split <;> rfl
/-- The drain watch moves the mode to STANDBY exactly when it is DRAINING and no head is active. -/
theorem State.watchDrain_sup :
    s.watchDrain.sup =
      if s.sup.mode = .draining ∧ s.anyActive = false then { s.sup with mode := .standby } else s.sup := by
  unfold State.watchDrain; split <;> rfl

/-! ### Steps 2 to 7 of the end of a cycle (R62) -/

/-- The state before the drain watch, for a head that holds a context. -/
theorem State.finishCycle_of_ctx {c : Context} (hc : (s.heads.get h).ctx = some c) :
    s.finishCycle h reason =
      ({ s with
        fronts := s.fronts.modify h fun fe => { fe with replayActive := false }
        trace := s.trace.append h (c.ended (s.heads.get h).state s.disp.timestamp reason).cycle
          (traceRecord h (c.ended (s.heads.get h).state s.disp.timestamp reason))
        heads := s.heads.set h
          { state := endState (cycleResult reason (c.ended (s.heads.get h).state s.disp.timestamp reason).flags)
            ctx := some (c.ended (s.heads.get h).state s.disp.timestamp reason)
            notice := true } } : State).watchDrain := by
  simp only [State.finishCycle, hc]; rfl

theorem State.finishCycle_of_none (hc : (s.heads.get h).ctx = none) : s.finishCycle h reason = s := by
  simp only [State.finishCycle, hc]

@[simp] theorem State.finishCycle_store : (s.finishCycle h reason).store = s.store := by
  cases hc : (s.heads.get h).ctx with
  | none => rw [State.finishCycle_of_none s h reason hc]
  | some c => rw [State.finishCycle_of_ctx s h reason hc]; simp
@[simp] theorem State.finishCycle_disp : (s.finishCycle h reason).disp = s.disp := by
  cases hc : (s.heads.get h).ctx with
  | none => rw [State.finishCycle_of_none s h reason hc]
  | some c => rw [State.finishCycle_of_ctx s h reason hc]; simp
@[simp] theorem State.finishCycle_drives : (s.finishCycle h reason).drives = s.drives := by
  cases hc : (s.heads.get h).ctx with
  | none => rw [State.finishCycle_of_none s h reason hc]
  | some c => rw [State.finishCycle_of_ctx s h reason hc]; simp
@[simp] theorem State.finishCycle_cabinet : (s.finishCycle h reason).cabinet = s.cabinet := by
  cases hc : (s.heads.get h).ctx with
  | none => rw [State.finishCycle_of_none s h reason hc]
  | some c => rw [State.finishCycle_of_ctx s h reason hc]; simp
@[simp] theorem State.finishCycle_links : (s.finishCycle h reason).links = s.links := by
  cases hc : (s.heads.get h).ctx with
  | none => rw [State.finishCycle_of_none s h reason hc]
  | some c => rw [State.finishCycle_of_ctx s h reason hc]; simp
@[simp] theorem State.finishCycle_line : (s.finishCycle h reason).line = s.line := by
  cases hc : (s.heads.get h).ctx with
  | none => rw [State.finishCycle_of_none s h reason hc]
  | some c => rw [State.finishCycle_of_ctx s h reason hc]; simp
@[simp] theorem State.finishCycle_freeCount : (s.finishCycle h reason).freeCount = s.freeCount := by
  cases hc : (s.heads.get h).ctx with
  | none => rw [State.finishCycle_of_none s h reason hc]
  | some c => rw [State.finishCycle_of_ctx s h reason hc]; simp
@[simp] theorem State.finishCycle_pending : (s.finishCycle h reason).pending = s.pending := by
  cases hc : (s.heads.get h).ctx with
  | none => rw [State.finishCycle_of_none s h reason hc]
  | some c => rw [State.finishCycle_of_ctx s h reason hc]; simp

/-! ### The end of a cycle (R62) -/

theorem State.endCycle_of_inactive (ha : s.isActive h = false) : s.endCycle h reason = s := by
  unfold State.isActive at ha
  unfold State.endCycle
  split <;> simp_all [HeadState.active]

@[simp] theorem State.endCycle_cabinet : (s.endCycle h reason).cabinet = s.cabinet := by
  unfold State.endCycle; split <;> simp [State.dropLookup]
@[simp] theorem State.endCycle_links : (s.endCycle h reason).links = s.links := by
  unfold State.endCycle; split <;> simp [State.dropLookup]
@[simp] theorem State.endCycle_line : (s.endCycle h reason).line = s.line := by
  unfold State.endCycle; split <;> simp [State.dropLookup]
@[simp] theorem State.endCycle_freeCount : (s.endCycle h reason).freeCount = s.freeCount := by
  unfold State.endCycle; split <;> simp [State.dropLookup]
@[simp] theorem State.endCycle_pending : (s.endCycle h reason).pending = s.pending := by
  unfold State.endCycle; split <;> simp [State.dropLookup]
/-- The store loses the head's queued lookup at the end of a cycle in LOOKUP, and nothing else. -/
theorem State.endCycle_store :
    (s.endCycle h reason).store =
      { s.store with
        queue := if (s.heads.get h).state = .lookup then s.store.queue.filter fun e => e.head != h else s.store.queue } := by
  unfold State.endCycle; split <;> simp_all [State.dropLookup]
/-- The dispatcher loses the head's request and grant entries at the end of a cycle in HEATING, and nothing else. -/
theorem State.endCycle_disp :
    (s.endCycle h reason).disp =
      if (s.heads.get h).state = .heating then
        { s.disp with request := s.disp.request.set h none, grant := s.disp.grant.set h { grant := 0, served := 0 } }
      else s.disp := by
  unfold State.endCycle; split <;> simp_all [State.dropLookup, State.cut_disp]
theorem State.endCycle_drives_other {k : HeadId} (hk : k ≠ h) : (s.endCycle h reason).drives.get k = s.drives.get k := by
  unfold State.endCycle; split <;> simp [State.dropLookup, hk]
/-- The head's drive is cut at the end of a cycle in HEATING, and left otherwise. -/
theorem State.endCycle_drives_same :
    (s.endCycle h reason).drives.get h =
      if (s.heads.get h).state = .heating then (s.drives.get h).cut (s.store.inForce.get h).driveType
      else s.drives.get h := by
  unfold State.endCycle; split <;> simp_all [State.dropLookup]

theorem State.finishCycle_heads_other {k : HeadId} (hk : k ≠ h) :
    (s.finishCycle h reason).heads.get k = s.heads.get k := by
  cases hc : (s.heads.get h).ctx with
  | none => rw [State.finishCycle_of_none s h reason hc]
  | some c => rw [State.finishCycle_of_ctx s h reason hc]; simp [PerSix.get_set_other _ _ hk]
theorem State.finishCycle_fronts_other {k : HeadId} (hk : k ≠ h) :
    (s.finishCycle h reason).fronts.get k = s.fronts.get k := by
  cases hc : (s.heads.get h).ctx with
  | none => rw [State.finishCycle_of_none s h reason hc]
  | some c => rw [State.finishCycle_of_ctx s h reason hc]; simp [PerSix.get_modify_other _ _ hk]

theorem State.endCycle_heads_other {k : HeadId} (hk : k ≠ h) : (s.endCycle h reason).heads.get k = s.heads.get k := by
  unfold State.endCycle; split <;> simp [State.dropLookup, hk, State.finishCycle_heads_other]
theorem State.endCycle_fronts_other {k : HeadId} (hk : k ≠ h) : (s.endCycle h reason).fronts.get k = s.fronts.get k := by
  unfold State.endCycle; split <;> simp [State.dropLookup, hk, State.finishCycle_fronts_other]

/-- The append leaves the other heads' reservations. -/
theorem TraceUnit.append_reservation_other (t : TraceUnit) {k : HeadId} (cycle : Word32) (record : List Word16)
    (hk : k ≠ h) : (t.append h cycle record).reservation.get k = t.reservation.get k := by
  unfold TraceUnit.append
  split
  · rfl
  · next r _ => obtain ⟨i, _⟩ := r; cases i <;> simp [TraceUnit.modify, TraceUnit.set, PerSix.get_set_other _ _ hk]
/-- The append leaves no reservation of its head (R147 step 5). -/
theorem TraceUnit.append_reservation_same (t : TraceUnit) (cycle : Word32) (record : List Word16) :
    (t.append h cycle record).reservation.get h = none := by
  unfold TraceUnit.append
  split
  · next hr => exact hr
  · simp

theorem State.finishCycle_trace {c : Context} (hc : (s.heads.get h).ctx = some c) :
    (s.finishCycle h reason).trace =
      s.trace.append h (c.ended (s.heads.get h).state s.disp.timestamp reason).cycle
        (traceRecord h (c.ended (s.heads.get h).state s.disp.timestamp reason)) := by
  rw [State.finishCycle_of_ctx s h reason hc]; simp

@[simp] theorem Context.ended_cycle (c : Context) (st : HeadState) (now : Word32) :
    (c.ended st now reason).cycle = c.cycle := by
  unfold Context.ended; split <;> rfl
@[simp] theorem Context.ended_reason (c : Context) (st : HeadState) (now : Word32) :
    (c.ended st now reason).reason = reason := rfl
@[simp] theorem Context.ended_result (c : Context) (st : HeadState) (now : Word32) :
    (c.ended st now reason).result = some (cycleResult reason c.flags) := by
  unfold Context.ended; split <;> rfl
@[simp] theorem Context.ended_flags (c : Context) (st : HeadState) (now : Word32) :
    (c.ended st now reason).flags = c.flags := by
  unfold Context.ended; split <;> rfl
@[simp] theorem Context.ended_cycleTimer (c : Context) (st : HeadState) (now : Word32) :
    (c.ended st now reason).cycleTimer = none := rfl

theorem State.finishCycle_heads_same {c : Context} (hc : (s.heads.get h).ctx = some c) :
    (s.finishCycle h reason).heads.get h =
      { state := endState (cycleResult reason c.flags)
        ctx := some (c.ended (s.heads.get h).state s.disp.timestamp reason), notice := true } := by
  rw [State.finishCycle_of_ctx s h reason hc]; simp

/-- The append puts the record at the end of the reserved buffer (R147). -/
theorem TraceUnit.append_records (t : TraceUnit) (cycle : Word32) (record : List Word16) {v : Reservation}
    (hv : t.reservation.get h = some v) :
    ((t.append h cycle record).get v.buffer).records = (t.get v.buffer).records ++ [record] := by
  obtain ⟨i, n⟩ := v
  cases i <;> simp [TraceUnit.append, hv, TraceUnit.modify, TraceUnit.set, TraceUnit.get, TraceBuffer.append]

/-- An append leaves every record that was there where it was (R147). -/
theorem TraceUnit.append_grows (t : TraceUnit) (cycle : Word32) (record : List Word16) (i : BufferId) :
    ∃ new, ((t.append h cycle record).get i).records = (t.get i).records ++ new := by
  unfold TraceUnit.append
  split
  · exact ⟨[], by simp⟩
  · next r _ =>
    obtain ⟨j, n⟩ := r
    cases i <;> cases j <;> simp [TraceUnit.modify, TraceUnit.set, TraceUnit.get, TraceBuffer.append]

/-- After steps 2 to 7 the head's cycle is over (R61, R62), its record in the buffer of its reservation (R147). -/
theorem State.finishCycle_cycleOver {c : Context} (hc : (s.heads.get h).ctx = some c) :
    s.cycleOver (s.finishCycle h reason) h c.cycle (cycleResult reason c.flags) reason := by
  refine ⟨⟨_, State.finishCycle_heads_same s h reason hc, ?_, ?_, ?_, ?_, fun v hv => ?_⟩, ?_, ?_⟩
  · simp
  · simp
  · simp
  · simp
  · rw [State.finishCycle_trace s h reason hc]
    exact ⟨_, TraceUnit.append_records h _ _ _ hv, by simp⟩
  · rw [State.finishCycle_of_ctx s h reason hc]; simp
  · rw [State.finishCycle_trace s h reason hc]; exact TraceUnit.append_reservation_same h _ _ _

/-- After the end of an active head's cycle by an ending event it is ABORTED with the event's reason (R61, R62). -/
theorem State.endCycle_cycleOver {c : Context} (r : Reason) (ha : s.isActive h = true)
    (hc : (s.heads.get h).ctx = some c) : s.cycleOver (s.endCycle h (some r)) h c.cycle .aborted (some r) := by
  unfold State.isActive at ha
  unfold State.endCycle
  split
  · exact State.finishCycle_cycleOver (s.dropLookup h) h (some r) hc
  · exact State.finishCycle_cycleOver (s.cut h) h (some r) (c := c.accrue (s.cutEnergy h)) (by simp [hc])
  · exact State.finishCycle_cycleOver s h (some r) hc
  all_goals simp_all [HeadState.active]

/-- The end of a cycle leaves every record in the buffers where it was (R147). -/
theorem State.endCycle_records_grow (i : BufferId) :
    ∃ new, ((s.endCycle h reason).trace.get i).records = (s.trace.get i).records ++ new := by
  have key : ∀ u : State, u.trace = s.trace →
      ∃ new, ((u.finishCycle h reason).trace.get i).records = (s.trace.get i).records ++ new := by
    intro u hu
    cases hc : (u.heads.get h).ctx with
    | none => exact ⟨[], by rw [State.finishCycle_of_none u h reason hc, hu]; simp⟩
    | some c => rw [State.finishCycle_trace u h reason hc, hu]; exact TraceUnit.append_grows h _ _ _ _
  unfold State.endCycle
  split
  · exact key _ rfl
  · exact key _ rfl
  · exact key _ rfl
  all_goals exact ⟨[], by simp⟩

/-- The end of a cycle moves the mode at most from DRAINING to STANDBY, and changes nothing else of the supervision unit. -/
theorem State.endCycle_sup :
    (s.endCycle h reason).sup = s.sup ∨
      (s.sup.mode = .draining ∧ (s.endCycle h reason).sup = { s.sup with mode := .standby }) := by
  have key : ∀ u : State, u.sup = s.sup → (u.finishCycle h reason).sup = s.sup ∨
      (s.sup.mode = .draining ∧ (u.finishCycle h reason).sup = { s.sup with mode := .standby }) := by
    intro u hu
    cases hc : (u.heads.get h).ctx with
    | none => rw [State.finishCycle_of_none u h reason hc]; exact Or.inl hu
    | some c =>
      rw [State.finishCycle_of_ctx u h reason hc, State.watchDrain_sup]
      split
      · next hd => right; simp_all
      · left; exact hu
  unfold State.endCycle
  split
  · exact key _ rfl
  · exact key _ rfl
  · exact key _ rfl
  all_goals exact Or.inl rfl

/-- The end of a cycle leaves the other heads and everything kept for them alone. -/
theorem State.endCycle_untouched {k : HeadId} (hk : k ≠ h) : s.headUntouched (s.endCycle h reason) k := by
  refine ⟨State.endCycle_heads_other s h reason hk, State.endCycle_fronts_other s h reason hk,
    State.endCycle_drives_other s h reason hk, ?_, ?_, ?_⟩
  · rw [State.endCycle_disp]; split
    · exact PerSix.get_set_other _ _ hk
    · rfl
  · rw [State.endCycle_disp]; split
    · exact PerSix.get_set_other _ _ hk
    · rfl
  · have key : ∀ u : State, u.trace = s.trace → (u.finishCycle h reason).trace.reservation.get k =
        s.trace.reservation.get k := by
      intro u hu
      cases hc : (u.heads.get h).ctx with
      | none => rw [State.finishCycle_of_none u h reason hc, hu]
      | some c =>
        rw [State.finishCycle_trace u h reason hc, TraceUnit.append_reservation_other h _ _ _ hk, hu]
    unfold State.endCycle
    split
    · exact key _ rfl
    · exact key _ rfl
    · exact key _ rfl
    all_goals rfl

/-! ### The links do not matter to the end of a cycle -/

theorem State.watchDrain_with_links (f : PerSix StationLink) :
    State.watchDrain { s with links := f } = { s.watchDrain with links := f } := by
  have e : State.watchDrain { s with links := f } =
      if s.sup.mode = .draining ∧ s.anyActive = false then { s with links := f, sup := { s.sup with mode := .standby } }
      else { s with links := f } := rfl
  rw [e]
  unfold State.watchDrain
  split <;> rfl

theorem State.finishCycle_with_links (f : PerSix StationLink) :
    State.finishCycle { s with links := f } h reason = { s.finishCycle h reason with links := f } := by
  unfold State.finishCycle
  cases hc : (s.heads.get h).ctx with
  | none => simp [hc]
  | some c =>
    simp only [hc]
    let c1 := c.ended (s.heads.get h).state s.disp.timestamp reason
    exact State.watchDrain_with_links (((s.modFront h fun fe => { fe with replayActive := false }).modTrace fun t =>
      t.append h c1.cycle (traceRecord h c1)).modHead h fun _ =>
        { state := endState (cycleResult reason c1.flags), ctx := some c1, notice := true }) f

/-- The end of a cycle and a change of the links commute, so a reply may be placed before or after it. -/
theorem State.endCycle_with_links (f : PerSix StationLink) :
    State.endCycle { s with links := f } h reason = { s.endCycle h reason with links := f } := by
  unfold State.endCycle
  simp only
  split
  · exact State.finishCycle_with_links (s.dropLookup h) h reason f
  · exact State.finishCycle_with_links (s.cut h) h reason f
  · exact State.finishCycle_with_links s h reason f
  all_goals rfl

/-! ### Actions on all heads -/

/-- What an action on each head keeps, the action on every head keeps (in whatever order it takes them). -/
theorem State.forHeads_keeps (P : State → Prop) (f : HeadId → State → State)
    (hf : ∀ h t, P t → P (f h t)) (hs : P s.drawFree) : P (s.forHeads f) := by
  unfold State.forHeads
  generalize s.headOrder = hs'
  generalize s.drawFree = t at *
  induction hs' generalizing t with
  | nil => exact hs
  | cons x xs ih => exact ih _ (hf x t hs)

/-- The same for an action on every head in number order. -/
theorem State.forHeadsInOrder_keeps (P : State → Prop) (f : HeadId → State → State)
    (hf : ∀ h t, P t → P (f h t)) (hs : P s) : P (s.forHeadsInOrder f) := by
  unfold State.forHeadsInOrder
  generalize sixInOrder = l
  induction l generalizing s with
  | nil => exact hs
  | cons x xs ih => exact ih _ (hf x s hs)

theorem insertAt_perm {α : Type} (x : α) (n : Nat) (ys : List α) : (insertAt x n ys).Perm (x :: ys) := by
  induction ys generalizing n with
  | nil => cases n <;> exact List.Perm.refl _
  | cons y ys ih =>
    cases n with
    | zero => exact List.Perm.refl _
    | succ n => exact ((ih n).cons y).trans (List.Perm.swap x y ys)

/-- A free order is a permutation, whatever the number that selects it. -/
theorem permute_perm {α : Type} (k : Nat) (xs : List α) : (permute k xs).Perm xs := by
  induction xs generalizing k with
  | nil => exact List.Perm.refl _
  | cons x xs ih => exact (insertAt_perm x _ _).trans ((ih _).cons x)

/-- Each head is taken exactly once. -/
theorem State.headOrder_mem (k : HeadId) : k ∈ s.headOrder ∧ s.headOrder.Nodup := by
  have hp : s.headOrder.Perm sixInOrder := permute_perm _ _
  refine ⟨hp.mem_iff.mpr ?_, hp.nodup_iff.mpr (by decide)⟩
  revert k; decide

/-- An action that leaves every other head's part `q` of the state, over a list that names each head once: the part at `k`
is what the action at `k` made of it, from a state where it still was as at the start. -/
theorem foldHeads_at {β : Type} (q : State → HeadId → β) (f : HeadId → State → State)
    (hf : ∀ h k t, k ≠ h → q (f h t) k = q t k) :
    ∀ (l : List HeadId) (k : HeadId) (s : State), l.Nodup →
      (k ∉ l → q (l.foldl (fun t h => f h t) s) k = q s k) ∧
      (k ∈ l → ∃ t, q t k = q s k ∧ q (l.foldl (fun t h => f h t) s) k = q (f k t) k) := by
  intro l
  induction l with
  | nil => intro k s _; exact ⟨fun _ => rfl, fun h => absurd h (by simp)⟩
  | cons x xs ih =>
    intro k s hn
    have hx := (List.nodup_cons.mp hn).1
    have hxs := (List.nodup_cons.mp hn).2
    constructor
    · intro hk
      obtain ⟨hkx, hk⟩ := not_or.mp (fun h => hk (List.mem_cons.mpr h))
      rw [List.foldl_cons, (ih k _ hxs).1 hk]
      exact hf x k s hkx
    · intro hk
      by_cases hkx : k = x
      · subst hkx
        exact ⟨s, rfl, by rw [List.foldl_cons]; exact (ih k _ hxs).1 hx⟩
      · obtain ⟨t, ht, hr⟩ := (ih k (f x s) hxs).2 ((List.mem_cons.mp hk).resolve_left hkx)
        exact ⟨t, ht.trans (hf x k s hkx), by rw [List.foldl_cons]; exact hr⟩

end Sys2Proof.Machine
end

