-- ==== Sys2Proof/Laws/Heat.lean ====
section
/-! SUPPORT. The heat cycle at a sample: what a running head is, what a usable sample hands to it, and the cycle numbers. -/

namespace Sys2Proof.Machine

/-- A head runs a recipe exactly when its context holds one whose current segment exists (R47). -/
theorem State.running_iff (s : State) (h : HeadId) (c : Context) (r : Recipe) (g : Segment) :
    s.running h = some (c, r, g) ↔
      (s.heads.get h).ctx = some c ∧ c.recipe = some r ∧ r.segments[c.segIndex]? = some g := by
  unfold State.running
  split
  · simp_all
  · split
    · rename_i h1 h2
      simp_all
      intro h
      subst h
      simp_all
    · split <;> simp_all <;> grind

section recordAs
variable (c : Context) (now : Word32) (b : Bool)
@[simp] theorem Context.recordAs_inBand : (c.recordAs now b).inBand = c.inBand + c.bandInterval now := rfl
@[simp] theorem Context.recordAs_prev : (c.recordAs now b).prev = some (now, b) := rfl
@[simp] theorem Context.recordAs_clock : (c.recordAs now b).clock = c.clock := rfl
@[simp] theorem Context.recordAs_peak : (c.recordAs now b).peak = c.peak := rfl
@[simp] theorem Context.recordAs_cycle : (c.recordAs now b).cycle = c.cycle := rfl
/-- The sample that enters HOLD adds nothing to its time in band (R50). -/
@[simp] theorem Context.enterHold_inBand (i t : Nat) : (c.enterHold i now t b).inBand = 0 := rfl
end recordAs

/-- A usable sample below the end of the table: the front end follows it (R32, R35), then its cycle's sample event runs. -/
theorem exec_sample_usable (s : State) (h : HeadId) (status : SampleStatus) (raw : Word16) (t : Nat)
    (hc : (s.fronts.get h).calibration.convert status raw = some t) (hm : s.sup.mode ≠ .starting)
    (hr : (s.fronts.get h).replayActive = false) (hs : status ≠ .high) :
    exec (.sample h (.good status raw)) s = .next
      (({ s with fronts := s.fronts.set h { s.fronts.get h with
            rx := none, lastStatus := some status, temperature := some t, sensor := .fresh
            timer := some (s.store.inForce.get h).sensorTimeout } }).sampleEvent h t false) := by
  have hb : (status == .high) = false := by cases status <;> simp_all
  simp [exec, execSample, State.sampleFrame, hm, hr, State.takeSample, hc, hb]
  congr 1
  simp [State.modFront, PerSix.modify, FrontEnd.usable, hr]

/-- Whether a head is active is its state's alone (Table 3.1). -/
theorem State.isActive_iff (s : State) (h : HeadId) :
    s.isActive h = true ↔
      (s.heads.get h).state = .lookup ∨ (s.heads.get h).state = .heating ∨ (s.heads.get h).state = .hold := by
  unfold State.isActive
  cases (s.heads.get h).state <;> simp [HeadState.active]

end Sys2Proof.Machine
end

