-- ==== Sys2Proof/Laws/Line.lean ====
section
/-! SUPPORT. What a supervisor command's frame can come to: lost, dropped, refused by the gates, or performed and answered. -/

namespace Sys2Proof.Machine

/-- What the line link takes (R159): a character that did not start while the HD6 drove the line, while it does not drive it. -/
@[simp] theorem LineLink.hears_heard (k : LineLink) (c : Character) : k.hears (heard c) = !k.txEnable := by
  simp [LineLink.hears, heard]
@[simp] theorem LineLink.hears_started (k : LineLink) (c : Character) :
    k.hears { character := c, startedWhileDriven := true } = false := by
  simp [LineLink.hears]

/-- New settings mark the line as `spoil` gives, and touch nothing else of it (R17). -/
theorem LineLink.spoil_eq (k : LineLink) (b : Bool) :
    k.spoil b = { k with spoiled := k.spoiled || (b && !k.txEnable) } := rfl
@[simp] theorem LineLink.spoil_idle (k : LineLink) : k.spoil false = k := by simp [LineLink.spoil]
@[simp] theorem LineLink.spoil_sending {k : LineLink} (b : Bool) (h : k.txEnable = true) : k.spoil b = k := by
  cases k; simp_all [LineLink.spoil]

/-- The state a taken command is performed in (R163): no frame in reception, a reply owed, the turnaround timer started. -/
def State.owing (s : State) : State := (s.modLine LineLink.dropFrame).owe

@[simp] theorem State.owing_store (s : State) : s.owing.store = s.store := rfl
@[simp] theorem State.owing_fronts (s : State) : s.owing.fronts = s.fronts := rfl
@[simp] theorem State.owing_heads (s : State) : s.owing.heads = s.heads := rfl
@[simp] theorem State.owing_disp (s : State) : s.owing.disp = s.disp := rfl
@[simp] theorem State.owing_drives (s : State) : s.owing.drives = s.drives := rfl
@[simp] theorem State.owing_cabinet (s : State) : s.owing.cabinet = s.cabinet := rfl
@[simp] theorem State.owing_links (s : State) : s.owing.links = s.links := rfl
@[simp] theorem State.owing_sup (s : State) : s.owing.sup = s.sup := rfl
@[simp] theorem State.owing_trace (s : State) : s.owing.trace = s.trace := rfl
@[simp] theorem State.owing_freeCount (s : State) : s.owing.freeCount = s.freeCount := rfl
@[simp] theorem State.owing_pending (s : State) : s.owing.pending = s.pending := rfl
@[simp] theorem State.owing_isActive (s : State) (h : HeadId) : s.owing.isActive h = s.isActive h := rfl
@[simp] theorem State.owing_isDry (s : State) (h : HeadId) : s.owing.isDry h = s.isDry h := rfl
@[simp] theorem State.owing_fields (s : State) (h : HeadId) : s.owing.fields h = s.store.inForce.get h := rfl

/-- Every command row is its kind's frame. -/
theorem exec_instr (k : CommandKind) (p : List Byte) (s : State) :
    exec (k.instr p) s = .next (s.supervisorFrame k k.perform p) := by
  cases k <;> rfl

/-- A frame that is taken is gated and performed. -/
theorem State.supervisorFrame_taken {s : State} (h : s.takes) (k : CommandKind)
    (perform : List Byte → State → State × CommandOutcome) (p : List Byte) :
    s.supervisorFrame k perform p = takeCommand k perform p (s.modLine LineLink.dropFrame) := by
  obtain ⟨h1, h2, h3, h4⟩ := h
  simp only [State.supervisorFrame, h1, h2, if_neg h3, h4, if_true, Bool.false_eq_true, if_false]

/-- A frame met by a reply pending, by a listen-only link, by the HD6's own driving of the line, or losing its first character. -/
theorem State.supervisorFrame_not_taken (s : State) (k : CommandKind)
    (perform : List Byte → State → State × CommandOutcome) (p : List Byte) (h : ¬s.takes) :
    s.supervisorFrame k perform p =
      if s.line.txEnable then s
      else if s.line.spoiled then s.modLine LineLink.loseFrame else s.modLine LineLink.dropFrame := by
  simp only [State.supervisorFrame]
  by_cases h1 : s.line.txEnable = true <;> simp only [h1, if_true, Bool.false_eq_true, if_false]
  by_cases h2 : s.line.spoiled = true <;> simp only [h2, if_true, Bool.false_eq_true, if_false]
  by_cases h3 : s.line.strap = 0 <;> simp only [h3, if_true, if_false]
  exact if_neg fun h4 => h ⟨by simpa using h1, by simpa using h2, h3, h4⟩

/-- A formed reply leaves the link as `State.replies` gives. -/
theorem formReply_owing {s t : State} (r : LineReply) (hl : t.line = s.owing.line) :
    t.formReply r = { t with line := (s.replies r.kind r.payload).line } := by
  simp only [State.formReply, hl, State.modLine]
  rfl

/-- A command performed with success: its effect, and the reply with the kind plus 0x80 (R164). -/
theorem exec_success {s t : State} (k : CommandKind) (p q : List Byte) (h : s.takes)
    (hg : gateFailure k p.length s.sup.mode = none) (hp : k.perform p s.owing = (t, .success q))
    (hl : t.line = s.owing.line) :
    exec (k.instr p) s = .next { t with line := (s.replies (k.code + 0x80) q).line } := by
  rw [exec_instr, State.supervisorFrame_taken h]
  simp only [takeCommand]
  rw [show (s.modLine LineLink.dropFrame).sup = s.sup from rfl, hg]
  rw [show (s.modLine LineLink.dropFrame).owe = s.owing from rfl]
  simp only [hp, concludeCommand]
  rw [formReply_owing _ hl]
  rfl

/-- A command refused by the rule that owns it: its effect, if any, and the REFUSED reply (R164). -/
theorem exec_refused {s t : State} (k : CommandKind) (p : List Byte) (r : LineRefusal) (d : Byte) (h : s.takes)
    (hg : gateFailure k p.length s.sup.mode = none) (hp : k.perform p s.owing = (t, .refused r d))
    (hl : t.line = s.owing.line) :
    exec (k.instr p) s = .next { t with line := (s.replies 0xFF [BitVec.ofNat 8 r.code, d]).line } := by
  rw [exec_instr, State.supervisorFrame_taken h]
  simp only [takeCommand]
  rw [show (s.modLine LineLink.dropFrame).sup = s.sup from rfl, hg]
  rw [show (s.modLine LineLink.dropFrame).owe = s.owing from rfl]
  simp only [hp, concludeCommand]
  rw [formReply_owing _ hl]
  rfl

/-- A command whose reply waits for its operation, or was formed as the operation completed at its start. -/
theorem exec_forming {s t : State} (k : CommandKind) (p : List Byte) (h : s.takes)
    (hg : gateFailure k p.length s.sup.mode = none) (hp : k.perform p s.owing = (t, .forming)) :
    exec (k.instr p) s = .next t := by
  rw [exec_instr, State.supervisorFrame_taken h]
  simp only [takeCommand]
  rw [show (s.modLine LineLink.dropFrame).sup = s.sup from rfl, hg]
  rw [show (s.modLine LineLink.dropFrame).owe = s.owing from rfl]
  simp only [hp, concludeCommand]

/-- A command refused by a gate (R165 tests 2 to 4). -/
theorem exec_gated {s : State} (k : CommandKind) (p : List Byte) (r : LineRefusal) (d : Byte) (h : s.takes)
    (hg : gateFailure k p.length s.sup.mode = some (r, d)) :
    exec (k.instr p) s = .next (s.replies 0xFF [BitVec.ofNat 8 r.code, d]) := by
  rw [exec_instr, State.supervisorFrame_taken h]
  simp only [takeCommand]
  rw [show (s.modLine LineLink.dropFrame).sup = s.sup from rfl, hg]
  rw [show (s.modLine LineLink.dropFrame).owe = s.owing from rfl]
  simp only [concludeCommand]
  rw [formReply_owing _ rfl]
  rfl

theorem gateFailure_none (k : CommandKind) (n : Nat) (m : Mode) (h1 : k.lengthOk n = true) (h2 : m ≠ .starting)
    (h3 : k.gate m = true) : gateFailure k n m = none := by
  simp [gateFailure, h1, h2, h3]

/-- The kind of a code. -/
theorem commandOf_code (k : CommandKind) : commandOf k.code = some k := by cases k <;> rfl

/-- A whole frame to the strap address of a link that is not listen-only is a command's frame (R162). -/
theorem wholeFrame_command (s : State) (k : CommandKind) (p : List Byte) (h : s.line.strap ≠ 0) :
    s.wholeFrame s.line.strap.toNat k.code p = s.supervisorFrame k k.perform p := by
  have hs : ∀ t : State, t.line.strap = s.line.strap → ¬(t.snoopOn = true ∧ s.line.strap.toNat = t.store.settings.indexer) := by
    rintro t ht ⟨h1, h2⟩
    simp [State.snoopOn, ht, ← h2] at h1
  unfold State.wholeFrame State.supervisorFrame
  split
  · rfl
  split
  · rfl
  · simp only [State.routeFrame]
    rw [if_neg (hs (s.modLine LineLink.dropFrame) rfl),
      if_pos (show (s.modLine LineLink.dropFrame).line.strap ≠ 0 ∧
        s.line.strap.toNat = (s.modLine LineLink.dropFrame).line.strap.toNat from ⟨h, rfl⟩)]
    simp only [State.commandFrame, commandOf_code]
    rfl

/-- What the mode gate lets through outside STARTING, but for the two gated commands (Table 9.2). -/
theorem CommandKind.gate_open (k : CommandKind) (m : Mode) (h1 : k ≠ .writeSettings) (h2 : k ≠ .loadReplay) :
    k.gate m = true := by
  cases k <;> simp_all [CommandKind.gate]

end Sys2Proof.Machine
end

