-- ==== Sys2Proof/Laws/Links.lean ====
section
/-! SUPPORT. The station links: counts of the FIFO, closing a unit, placing a frame, taking a unit. -/

namespace Sys2Proof.Machine

/-- A frame placed at the tail is the link as `queued` gives. -/
theorem StationLink.place_eq (k : StationLink) (f : StationFrame) : k.place f = k.queued f := by
  unfold StationLink.place StationLink.kick StationLink.queued
  by_cases h1 : k.sending = none <;> by_cases h2 : k.paused = false <;> simp [h1, h2]

@[simp] theorem StationLink.place_txQueue (k : StationLink) (f : StationFrame) : (k.place f).txQueue = k.txQueue ++ [f] := by
  rw [StationLink.place_eq]; rfl
@[simp] theorem StationLink.place_closed (k : StationLink) (f : StationFrame) : (k.place f).closed = k.closed := by
  rw [StationLink.place_eq]; rfl
@[simp] theorem StationLink.place_opened (k : StationLink) (f : StationFrame) : (k.place f).opened = k.opened := by
  rw [StationLink.place_eq]; rfl
@[simp] theorem StationLink.place_interTimer (k : StationLink) (f : StationFrame) : (k.place f).interTimer = k.interTimer := by
  rw [StationLink.place_eq]; rfl
@[simp] theorem StationLink.place_discard (k : StationLink) (f : StationFrame) : (k.place f).discard = k.discard := by
  rw [StationLink.place_eq]; rfl

/-- Where sending resumes is in the same frame, at the character the pause let finish or the one after it (R138). -/
theorem StationLink.resume_of_sending {k : StationLink} {f : StationFrame} {rest : List StationFrame} {p : Nat}
    (hq : k.txQueue = f :: rest) (hp : k.sending = some p) (position : Nat) :
    k.resume position = some (if p < position ∧ p + 1 < f.characters.length then p + 1 else p) := by
  simp [StationLink.resume, hq, hp]

/-- A unit taken and answered leaves the state as `answer` gives. -/
theorem State.takeUnit_placeFrame (s : State) (l : LinkId) (f : StationFrame) :
    (s.takeUnit l).placeFrame l f = s.answer l f := by
  unfold State.placeFrame State.takeUnit State.modLink State.answer
  have : ∀ (p : PerSix StationLink) (g : StationLink → StationLink) (j : StationLink → StationLink),
      (p.modify l g).modify l j = p.set l (j (g (p.get l))) := by
    intro p g j; simp [PerSix.modify]
  simp only [this]
  congr 2
  rw [StationLink.place_eq]
  unfold StationLink.answered StationLink.judgeTaken
  rcases s.links.get l with ⟨st, closed, opened, timer, discard, hold, tx, sending, paused, pin, spoiled⟩
  generalize closed.drop 1 = rest
  cases opened with
  | none =>
    by_cases h : (rest.map List.length).sum ≤ s.store.settings.holdLow <;>
      simp [StationLink.fifoCount, StationLink.queued, h]
  | some u =>
    by_cases h : (rest.map List.length).sum + u.length ≤ s.store.settings.holdLow <;>
      simp [StationLink.fifoCount, StationLink.queued, h]

/-- What serves a unit is what the service takes. -/
theorem State.nextUnit_of_serves {s : State} {l : LinkId} {u : List FifoChar} (h : s.serves l u) : s.nextUnit l = some u := by
  obtain ⟨h1, h2, h3, rest, h4⟩ := h
  have hn : s.nextNotice l = none := by
    simp only [State.nextNotice, List.find?_eq_none]
    intro h _; simp [h3 h]
  have hc : (s.links.get l).canPlace = true := by
    simp [StationLink.canPlace, h1, Config.transmitSize, h2]
  simp [State.nextUnit, hn, hc, h4]

/-- A START whose unit the link takes is judged at its request handling. -/
theorem exec_start {s : State} {l : LinkId} {u : List FifoChar} {p : List Byte} (h : s.serves l u)
    (hu : judgeUnit u = .start p) : exec (.start l) s = .next ((s.takeUnit l).handleStart l p) := by
  simp only [exec, execStart, State.nextUnit_of_serves h, hu]
theorem exec_abort {s : State} {l : LinkId} {u : List FifoChar} {p : List Byte} (h : s.serves l u)
    (hu : judgeUnit u = .abort p) : exec (.abort l) s = .next ((s.takeUnit l).handleAbort l p) := by
  simp only [exec, execAbort, State.nextUnit_of_serves h, hu]
theorem exec_release {s : State} {l : LinkId} {u : List FifoChar} {p : List Byte} (h : s.serves l u)
    (hu : judgeUnit u = .release p) : exec (.release l) s = .next ((s.takeUnit l).handleRelease l p) := by
  simp only [exec, execRelease, State.nextUnit_of_serves h, hu]
theorem exec_query {s : State} {l : LinkId} {u : List FifoChar} {p : List Byte} (h : s.serves l u)
    (hu : judgeUnit u = .query p) : exec (.query l) s = .next ((s.takeUnit l).handleQuery l p) := by
  simp only [exec, execQuery, State.nextUnit_of_serves h, hu]

/-- The wire form of a frame keeps its bytes, and so its length. -/
@[simp] theorem asCharacters_length (bs : List Byte) : (asCharacters bs).length = bs.length := by
  cases bs <;> simp [asCharacters]
@[simp] theorem asCharacters_data (bs : List Byte) : (asCharacters bs).map (·.data) = bs := by
  cases bs <;> simp [asCharacters, Function.comp_def]

/-- A character that nothing spoils is taken as it is. -/
@[simp] theorem taken_false (c : Character) : taken c false = c := by simp [taken]

/-! ### The mark of R17 -/

@[simp] theorem StationLink.spoil_spoiled (k : StationLink) (b : Bool) : (k.spoil b).spoiled = (k.spoiled || b) := rfl
@[simp] theorem StationLink.spoil_state (k : StationLink) (b : Bool) : (k.spoil b).state = k.state := rfl
@[simp] theorem StationLink.spoil_closed (k : StationLink) (b : Bool) : (k.spoil b).closed = k.closed := rfl
@[simp] theorem StationLink.spoil_opened (k : StationLink) (b : Bool) : (k.spoil b).opened = k.opened := rfl
@[simp] theorem StationLink.spoil_interTimer (k : StationLink) (b : Bool) : (k.spoil b).interTimer = k.interTimer := rfl
@[simp] theorem StationLink.spoil_discard (k : StationLink) (b : Bool) : (k.spoil b).discard = k.discard := rfl
@[simp] theorem StationLink.spoil_holdOut (k : StationLink) (b : Bool) : (k.spoil b).holdOut = k.holdOut := rfl
@[simp] theorem StationLink.spoil_txQueue (k : StationLink) (b : Bool) : (k.spoil b).txQueue = k.txQueue := rfl
@[simp] theorem StationLink.spoil_sending (k : StationLink) (b : Bool) : (k.spoil b).sending = k.sending := rfl
@[simp] theorem StationLink.spoil_paused (k : StationLink) (b : Bool) : (k.spoil b).paused = k.paused := rfl
@[simp] theorem StationLink.spoil_holdIn (k : StationLink) (b : Bool) : (k.spoil b).holdIn = k.holdIn := rfl

/-- The payload of a request has its kind's length (Table 7.2 test 6). -/
theorem judgeUnit_start_length {u : List FifoChar} {p : List Byte} (h : judgeUnit u = .start p) : p.length = 7 := by
  unfold judgeUnit requestOfUnit at h
  (repeat' split at h) <;> simp_all
theorem judgeUnit_abort_length {u : List FifoChar} {p : List Byte} (h : judgeUnit u = .abort p) : p.length = 1 := by
  unfold judgeUnit requestOfUnit at h
  (repeat' split at h) <;> simp_all
theorem judgeUnit_release_length {u : List FifoChar} {p : List Byte} (h : judgeUnit u = .release p) : p.length = 1 := by
  unfold judgeUnit requestOfUnit at h
  (repeat' split at h) <;> simp_all
theorem judgeUnit_query_length {u : List FifoChar} {p : List Byte} (h : judgeUnit u = .query p) : p.length = 1 := by
  unfold judgeUnit requestOfUnit at h
  (repeat' split at h) <;> simp_all

/-- The head a payload's first byte names. -/
theorem headOf_first {p : List Byte} {h : HeadId} (hp : (p.headD 0).toNat = h.val) : headOf (byteAt p 0) = some h := by
  have : byteAt p 0 = h.val := by cases p <;> simpa [byteAt] using hp
  simp [headOf, this]
theorem headOf_first_none {p : List Byte} (hp : 5 < (p.headD 0).toNat) : headOf (byteAt p 0) = none := by
  have : ¬byteAt p 0 < 6 := by
    have : byteAt p 0 = (p.headD 0).toNat := by cases p <;> rfl
    omega
  simp [headOf, this]

/-! ### The FIFO -/

/-- Closing the unit in reception keeps the count. -/
@[simp] theorem StationLink.closeUnit_fifoCount (k : StationLink) : k.closeUnit.fifoCount = k.fifoCount := by
  unfold StationLink.closeUnit
  cases h : k.opened with
  | none => rfl
  | some u => simp [StationLink.fifoCount, h]
@[simp] theorem StationLink.closeUnit_opened (k : StationLink) : k.closeUnit.opened = none := by
  unfold StationLink.closeUnit
  split
  · assumption
  · rfl
@[simp] theorem StationLink.judgeStored_fifoCount (k : StationLink) (n : Nat) : (k.judgeStored n).fifoCount = k.fifoCount := by
  unfold StationLink.judgeStored; split <;> rfl
@[simp] theorem StationLink.judgeTaken_fifoCount (k : StationLink) (n : Nat) : (k.judgeTaken n).fifoCount = k.fifoCount := by
  unfold StationLink.judgeTaken; split <;> rfl
/-- A lead stored adds one to the count. -/
@[simp] theorem StationLink.storeLead_fifoCount (k : StationLink) (set : Settings) (c : Character) :
    (k.storeLead set c).fifoCount = k.fifoCount + 1 := by
  unfold StationLink.storeLead
  rw [StationLink.judgeStored_fifoCount, ← StationLink.closeUnit_fifoCount k]
  simp [StationLink.fifoCount]
/-- A character of the frame in reception adds one to the count. -/
theorem StationLink.storeOther_fifoCount (k : StationLink) (set : Settings) (u : List FifoChar) (c : Character)
    (h : k.opened = some u) : (k.storeOther set u c).fifoCount = k.fifoCount + 1 := by
  unfold StationLink.storeOther
  simp only [StationLink.judgeStored_fifoCount]
  split
  · rw [StationLink.closeUnit_fifoCount]; simp [StationLink.fifoCount, h]; omega
  · simp [StationLink.fifoCount, h]; omega

end Sys2Proof.Machine
end

