-- ==== Sys2Proof/WellFormed.lean ====
section
/-! DEFINITION. Which commands can come about: what a character stream, a frame and the memory can carry. A meaning is total
on every command; a statement asks for a well-formed one only where an operand outside its range could not occur. -/

namespace Sys2Proof

/-- A changed word differs in some bit. -/
def CellFlip.wellFormed (f : CellFlip) : Bool := f.mask != 0

/-- A changed word lies in one of the 55 store slots (R7) and differs in some bit. -/
def SlotFlip.wellFormed (f : SlotFlip) : Bool := decide (f.slot < 55) && f.mask != 0

/-- A store record has at most 128 words: the longest, a recipe of 8 segments, has 125 bytes (R182). -/
def cellsWellFormed (cells : List NvCell) : Bool := decide (cells.length ≤ 128)

def WriteResult.wellFormed : WriteResult → Bool
  | .asWritten flips => flips.all CellFlip.wellFormed
  | .other held => cellsWellFormed held

def AbandonedWrite.wellFormed : AbandonedWrite → Bool
  | .former => true
  | .finished => true
  | .damaged held => cellsWellFormed held

/-- A line frame's payload has at most 128 characters (R161). -/
def payloadWellFormed (p : List Byte) : Bool := decide (p.length ≤ 128)

/-- The kinds that name a supervisor command (Table 11.4). -/
def commandCodes : List Nat :=
  [0x01, 0x02, 0x03, 0x04, 0x05, 0x06, 0x08, 0x10, 0x11, 0x12, 0x13, 0x18, 0x19, 0x1A, 0x1B, 0x20, 0x21, 0x22, 0x23, 0x28]

/-- Whether a command can come about with these operands. -/
def Instr.wellFormed : Instr → Bool
  | .reset _ _ left => left.wellFormed
  | .startUpScanComplete flips => flips.all SlotFlip.wellFormed
  | .recipeWriteComplete w => w.wellFormed
  | .recipeEraseComplete => true
  | .calibrationWriteComplete w => w.wellFormed
  | .settingsWriteComplete w => w.held.wellFormed
  | .recipeReadComplete flips => flips.all CellFlip.wellFormed
  | .lookupComplete flips => flips.all CellFlip.wellFormed
  | .storePortStart => true
  | .sample _ _ => true
  | .replayStep _ => true
  | .sensorTimerExpiry _ => true
  | .cycleTimeExpiry _ => true
  | .dispatchExpiry => true
  | .windowStart _ => true
  | .onPartEnd _ => true
  | .driveFrameSent _ => true
  | .driveStatus _ _ => true
  | .driveStatusTimeout _ => true
  | .cabinetInputChange _ => true
  | .stationCharacter _ _ => true
  | .interCharacterTimerExpiry _ => true
  | .start _ => true
  | .abort _ => true
  | .release _ => true
  | .query _ => true
  | .linkError _ => true
  | .finished _ => true
  | .transmitFrameSent _ => true
  | .holdInputChange _ _ position => decide (position < 17)
  | .frameTimerExpiry => true
  | .index _ => true
  | .turnaroundExpiry => true
  | .replySent => true
  | .status p => payloadWellFormed p
  | .setBudget p => payloadWellFormed p
  | .setMode p => payloadWellFormed p
  | .ackRestart p => payloadWellFormed p
  | .headEnable p => payloadWellFormed p
  | .clear p => payloadWellFormed p
  | .readHead p => payloadWellFormed p
  | .readRecipe p => payloadWellFormed p
  | .listCodes p => payloadWellFormed p
  | .readCal p => payloadWellFormed p
  | .readSettings p => payloadWellFormed p
  | .writeRecipe p => payloadWellFormed p
  | .eraseRecipe p => payloadWellFormed p
  | .writeCal p => payloadWellFormed p
  | .writeSettings p => payloadWellFormed p
  | .traceInfo p => payloadWellFormed p
  | .readTrace p => payloadWellFormed p
  | .releaseTrace p => payloadWellFormed p
  | .flushTrace p => payloadWellFormed p
  | .loadReplay p => payloadWellFormed p
  | .lineCharacter _ => true
  | .unknownKind kind p => payloadWellFormed p && !commandCodes.contains kind.toNat
  | .sensorCharacter _ _ => true
  | .driveStatusCharacter _ _ => true
  | .timestampTick => true

end Sys2Proof
end

