-- ==== Sys2Proof/Laws/PerInstr.lean ====
section
/-! SUPPORT. A fact about every command as syntax: the payload a well-formed one carries fits a line frame (R161). -/

namespace Sys2Proof

/-- The payload of a command that is a whole line frame; the other rows carry none. -/
def Instr.payload : Instr → List Byte
  | .reset _ _ _ => []
  | .startUpScanComplete _ => []
  | .recipeWriteComplete _ => []
  | .recipeEraseComplete => []
  | .calibrationWriteComplete _ => []
  | .settingsWriteComplete _ => []
  | .recipeReadComplete _ => []
  | .lookupComplete _ => []
  | .storePortStart => []
  | .sample _ _ => []
  | .replayStep _ => []
  | .sensorTimerExpiry _ => []
  | .cycleTimeExpiry _ => []
  | .dispatchExpiry => []
  | .windowStart _ => []
  | .onPartEnd _ => []
  | .driveFrameSent _ => []
  | .driveStatus _ _ => []
  | .driveStatusTimeout _ => []
  | .cabinetInputChange _ => []
  | .stationCharacter _ _ => []
  | .interCharacterTimerExpiry _ => []
  | .start _ => []
  | .abort _ => []
  | .release _ => []
  | .query _ => []
  | .linkError _ => []
  | .finished _ => []
  | .transmitFrameSent _ => []
  | .holdInputChange _ _ _ => []
  | .frameTimerExpiry => []
  | .index _ => []
  | .turnaroundExpiry => []
  | .replySent => []
  | .status p => p
  | .setBudget p => p
  | .setMode p => p
  | .ackRestart p => p
  | .headEnable p => p
  | .clear p => p
  | .readHead p => p
  | .readRecipe p => p
  | .listCodes p => p
  | .readCal p => p
  | .readSettings p => p
  | .writeRecipe p => p
  | .eraseRecipe p => p
  | .writeCal p => p
  | .writeSettings p => p
  | .traceInfo p => p
  | .readTrace p => p
  | .releaseTrace p => p
  | .flushTrace p => p
  | .loadReplay p => p
  | .lineCharacter _ => []
  | .unknownKind _ p => p
  | .sensorCharacter _ _ => []
  | .driveStatusCharacter _ _ => []
  | .timestampTick => []

namespace Laws

/-- What the family says of one command: well-formed, its payload has at most 128 characters. -/
def PayloadsFit.Statement (i : Instr) : Prop := i.wellFormed = true → i.payload.length ≤ 128

/-- A command with no payload. -/
theorem payloadsFit_none {i : Instr} (h : i.payload = []) : PayloadsFit.Statement i := by
  intro _
  simp [h]

/-- A command with a payload that its well-formedness bounds. -/
theorem payloadsFit_of {i : Instr} (h : i.wellFormed = payloadWellFormed i.payload) : PayloadsFit.Statement i := by
  intro hw
  rw [h] at hw
  simpa [payloadWellFormed] using hw

theorem PayloadsFit.reset (straps : BitVec 5) (cabinet : CabinetState) (left : AbandonedWrite) : PayloadsFit.Statement (.reset straps cabinet left) :=
  payloadsFit_none rfl
theorem PayloadsFit.startUpScanComplete (flips : List SlotFlip) : PayloadsFit.Statement (.startUpScanComplete flips) :=
  payloadsFit_none rfl
theorem PayloadsFit.recipeWriteComplete (readBack : WriteResult) : PayloadsFit.Statement (.recipeWriteComplete readBack) :=
  payloadsFit_none rfl
theorem PayloadsFit.recipeEraseComplete : PayloadsFit.Statement (.recipeEraseComplete) := payloadsFit_none rfl
theorem PayloadsFit.calibrationWriteComplete (readBack : WriteResult) : PayloadsFit.Statement (.calibrationWriteComplete readBack) :=
  payloadsFit_none rfl
theorem PayloadsFit.settingsWriteComplete (readBack : SettingsCompletion) :
    PayloadsFit.Statement (.settingsWriteComplete readBack) :=
  payloadsFit_none rfl
theorem PayloadsFit.recipeReadComplete (flips : List CellFlip) : PayloadsFit.Statement (.recipeReadComplete flips) :=
  payloadsFit_none rfl
theorem PayloadsFit.lookupComplete (flips : List CellFlip) : PayloadsFit.Statement (.lookupComplete flips) :=
  payloadsFit_none rfl
theorem PayloadsFit.storePortStart : PayloadsFit.Statement (.storePortStart) := payloadsFit_none rfl
theorem PayloadsFit.sample (head : HeadId) (frame : SampleFrame) : PayloadsFit.Statement (.sample head frame) :=
  payloadsFit_none rfl
theorem PayloadsFit.replayStep (head : HeadId) : PayloadsFit.Statement (.replayStep head) := payloadsFit_none rfl
theorem PayloadsFit.sensorTimerExpiry (head : HeadId) : PayloadsFit.Statement (.sensorTimerExpiry head) :=
  payloadsFit_none rfl
theorem PayloadsFit.cycleTimeExpiry (head : HeadId) : PayloadsFit.Statement (.cycleTimeExpiry head) :=
  payloadsFit_none rfl
theorem PayloadsFit.dispatchExpiry : PayloadsFit.Statement (.dispatchExpiry) := payloadsFit_none rfl
theorem PayloadsFit.windowStart (head : HeadId) : PayloadsFit.Statement (.windowStart head) := payloadsFit_none rfl
theorem PayloadsFit.onPartEnd (head : HeadId) : PayloadsFit.Statement (.onPartEnd head) := payloadsFit_none rfl
theorem PayloadsFit.driveFrameSent (head : HeadId) : PayloadsFit.Statement (.driveFrameSent head) :=
  payloadsFit_none rfl
theorem PayloadsFit.driveStatus (head : HeadId) (frame : StatusFrame) : PayloadsFit.Statement (.driveStatus head frame) :=
  payloadsFit_none rfl
theorem PayloadsFit.driveStatusTimeout (head : HeadId) : PayloadsFit.Statement (.driveStatusTimeout head) :=
  payloadsFit_none rfl
theorem PayloadsFit.cabinetInputChange (level : CabinetState) : PayloadsFit.Statement (.cabinetInputChange level) :=
  payloadsFit_none rfl
theorem PayloadsFit.stationCharacter (link : LinkId) (c : Character) : PayloadsFit.Statement (.stationCharacter link c) :=
  payloadsFit_none rfl
theorem PayloadsFit.interCharacterTimerExpiry (link : LinkId) : PayloadsFit.Statement (.interCharacterTimerExpiry link) :=
  payloadsFit_none rfl
theorem PayloadsFit.start (link : LinkId) : PayloadsFit.Statement (.start link) := payloadsFit_none rfl
theorem PayloadsFit.abort (link : LinkId) : PayloadsFit.Statement (.abort link) := payloadsFit_none rfl
theorem PayloadsFit.release (link : LinkId) : PayloadsFit.Statement (.release link) := payloadsFit_none rfl
theorem PayloadsFit.query (link : LinkId) : PayloadsFit.Statement (.query link) := payloadsFit_none rfl
theorem PayloadsFit.linkError (link : LinkId) : PayloadsFit.Statement (.linkError link) := payloadsFit_none rfl
theorem PayloadsFit.finished (link : LinkId) : PayloadsFit.Statement (.finished link) := payloadsFit_none rfl
theorem PayloadsFit.transmitFrameSent (link : LinkId) : PayloadsFit.Statement (.transmitFrameSent link) :=
  payloadsFit_none rfl
theorem PayloadsFit.holdInputChange (link : LinkId) (asserted : Bool) (position : Nat) : PayloadsFit.Statement (.holdInputChange link asserted position) :=
  payloadsFit_none rfl
theorem PayloadsFit.frameTimerExpiry : PayloadsFit.Statement (.frameTimerExpiry) := payloadsFit_none rfl
theorem PayloadsFit.index (serial : Word32) : PayloadsFit.Statement (.index serial) := payloadsFit_none rfl
theorem PayloadsFit.turnaroundExpiry : PayloadsFit.Statement (.turnaroundExpiry) := payloadsFit_none rfl
theorem PayloadsFit.replySent : PayloadsFit.Statement (.replySent) := payloadsFit_none rfl
theorem PayloadsFit.status (payload : List Byte) : PayloadsFit.Statement (.status payload) := payloadsFit_of rfl
theorem PayloadsFit.setBudget (payload : List Byte) : PayloadsFit.Statement (.setBudget payload) := payloadsFit_of rfl
theorem PayloadsFit.setMode (payload : List Byte) : PayloadsFit.Statement (.setMode payload) := payloadsFit_of rfl
theorem PayloadsFit.ackRestart (payload : List Byte) : PayloadsFit.Statement (.ackRestart payload) :=
  payloadsFit_of rfl
theorem PayloadsFit.headEnable (payload : List Byte) : PayloadsFit.Statement (.headEnable payload) :=
  payloadsFit_of rfl
theorem PayloadsFit.clear (payload : List Byte) : PayloadsFit.Statement (.clear payload) := payloadsFit_of rfl
theorem PayloadsFit.readHead (payload : List Byte) : PayloadsFit.Statement (.readHead payload) := payloadsFit_of rfl
theorem PayloadsFit.readRecipe (payload : List Byte) : PayloadsFit.Statement (.readRecipe payload) :=
  payloadsFit_of rfl
theorem PayloadsFit.listCodes (payload : List Byte) : PayloadsFit.Statement (.listCodes payload) := payloadsFit_of rfl
theorem PayloadsFit.readCal (payload : List Byte) : PayloadsFit.Statement (.readCal payload) := payloadsFit_of rfl
theorem PayloadsFit.readSettings (payload : List Byte) : PayloadsFit.Statement (.readSettings payload) :=
  payloadsFit_of rfl
theorem PayloadsFit.writeRecipe (payload : List Byte) : PayloadsFit.Statement (.writeRecipe payload) :=
  payloadsFit_of rfl
theorem PayloadsFit.eraseRecipe (payload : List Byte) : PayloadsFit.Statement (.eraseRecipe payload) :=
  payloadsFit_of rfl
theorem PayloadsFit.writeCal (payload : List Byte) : PayloadsFit.Statement (.writeCal payload) := payloadsFit_of rfl
theorem PayloadsFit.writeSettings (payload : List Byte) : PayloadsFit.Statement (.writeSettings payload) :=
  payloadsFit_of rfl
theorem PayloadsFit.traceInfo (payload : List Byte) : PayloadsFit.Statement (.traceInfo payload) := payloadsFit_of rfl
theorem PayloadsFit.readTrace (payload : List Byte) : PayloadsFit.Statement (.readTrace payload) := payloadsFit_of rfl
theorem PayloadsFit.releaseTrace (payload : List Byte) : PayloadsFit.Statement (.releaseTrace payload) :=
  payloadsFit_of rfl
theorem PayloadsFit.flushTrace (payload : List Byte) : PayloadsFit.Statement (.flushTrace payload) :=
  payloadsFit_of rfl
theorem PayloadsFit.loadReplay (payload : List Byte) : PayloadsFit.Statement (.loadReplay payload) :=
  payloadsFit_of rfl
theorem PayloadsFit.lineCharacter (c : LineCharacter) : PayloadsFit.Statement (.lineCharacter c) := payloadsFit_none rfl
theorem PayloadsFit.unknownKind (kind : Byte) (payload : List Byte) : PayloadsFit.Statement (.unknownKind kind payload) :=
  by
  intro hw
  simp only [Instr.wellFormed, payloadWellFormed, Bool.and_eq_true, decide_eq_true_eq] at hw
  exact hw.1
theorem PayloadsFit.sensorCharacter (head : HeadId) (c : Character) : PayloadsFit.Statement (.sensorCharacter head c) :=
  payloadsFit_none rfl
theorem PayloadsFit.driveStatusCharacter (head : HeadId) (c : Character) : PayloadsFit.Statement (.driveStatusCharacter head c) :=
  payloadsFit_none rfl
theorem PayloadsFit.timestampTick : PayloadsFit.Statement (.timestampTick) := payloadsFit_none rfl

end Laws

end Sys2Proof
end

