-- ==== Sys2Proof/Laws/Store.lean ====
section
/-! SUPPORT. What the operations of the recipe store do to each of its fields, and to the code index. -/

namespace Sys2Proof.Machine

variable (st : Store)

/-! ### Counting reads (R20): nothing but the counts and the last error -/

/-- `countRead` is the store with other counts and another last error. -/
theorem Store.countRead_eq (slot : Nat) (c u : Bool) :
    st.countRead slot c u =
      { st with
        corrected := if c then min (st.corrected + 1) 65535 else st.corrected
        uncorrectable := if u then min (st.uncorrectable + 1) 65535 else st.uncorrectable
        lastError := if u then some (slot, .uncorrectable) else if c then some (slot, .corrected) else st.lastError } := by
  cases c <;> cases u <;> rfl

section countRead
variable (slot : Nat) (c u : Bool)
@[simp] theorem Store.countRead_nv : (st.countRead slot c u).nv = st.nv := by rw [Store.countRead_eq]
@[simp] theorem Store.countRead_slotStatus : (st.countRead slot c u).slotStatus = st.slotStatus := by rw [Store.countRead_eq]
@[simp] theorem Store.countRead_lastRevision : (st.countRead slot c u).lastRevision = st.lastRevision := by
  rw [Store.countRead_eq]
@[simp] theorem Store.countRead_index : (st.countRead slot c u).index = st.index := by rw [Store.countRead_eq]
@[simp] theorem Store.countRead_port : (st.countRead slot c u).port = st.port := by rw [Store.countRead_eq]
@[simp] theorem Store.countRead_supervisor : (st.countRead slot c u).supervisor = st.supervisor := by rw [Store.countRead_eq]
@[simp] theorem Store.countRead_queue : (st.countRead slot c u).queue = st.queue := by rw [Store.countRead_eq]
@[simp] theorem Store.countRead_lastOpKind : (st.countRead slot c u).lastOpKind = st.lastOpKind := by rw [Store.countRead_eq]
@[simp] theorem Store.countRead_lastOpResult : (st.countRead slot c u).lastOpResult = st.lastOpResult := by
  rw [Store.countRead_eq]
@[simp] theorem Store.countRead_settingsDefaulted : (st.countRead slot c u).settingsDefaulted = st.settingsDefaulted := by
  rw [Store.countRead_eq]
@[simp] theorem Store.countRead_settingsFailed : (st.countRead slot c u).settingsFailed = st.settingsFailed := by
  rw [Store.countRead_eq]
@[simp] theorem Store.countRead_settings : (st.countRead slot c u).settings = st.settings := by rw [Store.countRead_eq]
@[simp] theorem Store.countRead_inForce : (st.countRead slot c u).inForce = st.inForce := by rw [Store.countRead_eq]
@[simp] theorem Store.countRead_deferred : (st.countRead slot c u).deferred = st.deferred := by rw [Store.countRead_eq]
@[simp] theorem Store.countRead_corrected :
    (st.countRead slot c u).corrected = if c then min (st.corrected + 1) 65535 else st.corrected := by
  rw [Store.countRead_eq]
@[simp] theorem Store.countRead_uncorrectable :
    (st.countRead slot c u).uncorrectable = if u then min (st.uncorrectable + 1) 65535 else st.uncorrectable := by
  rw [Store.countRead_eq]
@[simp] theorem Store.countRead_lastError :
    (st.countRead slot c u).lastError =
      if u then some (slot, .uncorrectable) else if c then some (slot, .corrected) else st.lastError := by
  rw [Store.countRead_eq]
end countRead

/-! ### The code index (R9) -/

theorem mem_insertEntry {e x : IndexEntry} {l : List IndexEntry} : e ∈ insertEntry x l ↔ e = x ∨ e ∈ l := by
  induction l with
  | nil => simp [insertEntry]
  | cons y ys ih =>
    simp only [insertEntry]
    split <;> simp [ih, or_left_comm]

/-- Insertion keeps the codes strictly ascending when the new code is not among them. -/
theorem insertEntry_ascending {x : IndexEntry} {l : List IndexEntry}
    (hl : (l.map (·.code)).Pairwise (· < ·)) (hx : ∀ e ∈ l, e.code ≠ x.code) :
    ((insertEntry x l).map (·.code)).Pairwise (· < ·) := by
  induction l with
  | nil => simp [insertEntry]
  | cons y ys ih =>
    simp only [List.map_cons, List.pairwise_cons] at hl
    simp only [insertEntry]
    split
    · next h =>
      simp only [List.map_cons, List.pairwise_cons]
      exact ⟨by
        rintro c hc
        rcases List.mem_cons.mp hc with rfl | hc
        · exact h
        · exact lt_trans h (hl.1 c hc), hl⟩
    · next h =>
      have hy : y.code < x.code := lt_of_le_of_ne (not_lt.mp h) (hx y List.mem_cons_self)
      simp only [List.map_cons, List.pairwise_cons]
      refine ⟨?_, ih hl.2 fun e he => hx e (List.mem_cons_of_mem _ he)⟩
      intro c hc
      obtain ⟨e, he, rfl⟩ := List.mem_map.mp hc
      rcases mem_insertEntry.mp he with rfl | he
      · exact hy
      · exact hl.1 _ (List.mem_map_of_mem he)

theorem Store.mem_dropIndex {slot : Nat} {e : IndexEntry} :
    e ∈ (st.dropIndex slot).index ↔ e ∈ st.index ∧ e.slot ≠ slot := by
  simp [Store.dropIndex]

/-- The entries after a code has been entered for a slot: its own, and those of the other slots. -/
theorem Store.mem_enterIndex {code slot : Nat} {e : IndexEntry} :
    e ∈ (st.enterIndex code slot).index ↔ e = { code := code, slot := slot } ∨ (e ∈ st.index ∧ e.slot ≠ slot) := by
  simp [Store.enterIndex, mem_insertEntry, Store.mem_dropIndex]

/-- `slotOf` finds a slot exactly where the index holds the code, when codes stand once. -/
theorem Store.slotOf_eq_none {code : Nat} : st.slotOf code = none ↔ ∀ e ∈ st.index, e.code ≠ code := by
  simp [Store.slotOf]

theorem Store.slotOf_eq_some {code slot : Nat} (hl : (st.index.map (·.code)).Pairwise (· < ·)) :
    st.slotOf code = some slot ↔ { code := code, slot := slot } ∈ st.index := by
  unfold Store.slotOf
  generalize st.index = l at *
  induction l with
  | nil => simp
  | cons y ys ih =>
    simp only [List.map_cons, List.pairwise_cons] at hl
    by_cases h : y.code = code
    · simp only [List.find?_cons, h, beq_self_eq_true, Option.map_some, Option.some.injEq, List.mem_cons]
      constructor
      · rintro rfl; left; rw [← h]
      · rintro (h' | h')
        · rw [← h']
        · exact absurd (hl.1 code (List.mem_map.mpr ⟨_, h', rfl⟩)) (by omega)
    · have : (y.code == code) = false := by simp [h]
      simp only [List.find?_cons, this, List.mem_cons]
      rw [ih hl.2]
      constructor
      · exact Or.inr
      · rintro (h' | h')
        · exact absurd (by rw [← h']) h
        · exact h'

/-! ### Other fields of the small operations -/

section small
variable (slot code : Nat) (v : SlotStatus) (rev : Word16) (cells : Option (List NvCell))
@[simp] theorem Store.damage_slotStatus : (st.damage slot).slotStatus = st.slotStatus.set slot .damaged := rfl
@[simp] theorem Store.damage_index : (st.damage slot).index = st.index.filter fun e => e.slot != slot := rfl
@[simp] theorem Store.damage_nv : (st.damage slot).nv = st.nv := rfl
@[simp] theorem Store.damage_lastRevision : (st.damage slot).lastRevision = st.lastRevision := rfl
@[simp] theorem Store.setStatus_slotStatus : (st.setStatus slot v).slotStatus = st.slotStatus.set slot v := rfl
@[simp] theorem Store.setStatus_index : (st.setStatus slot v).index = st.index := rfl
@[simp] theorem Store.setStatus_nv : (st.setStatus slot v).nv = st.nv := rfl
@[simp] theorem Store.setStatus_lastRevision : (st.setStatus slot v).lastRevision = st.lastRevision := rfl
@[simp] theorem Store.setRevision_lastRevision : (st.setRevision slot rev).lastRevision = st.lastRevision.set slot rev := rfl
@[simp] theorem Store.setRevision_slotStatus : (st.setRevision slot rev).slotStatus = st.slotStatus := rfl
@[simp] theorem Store.setRevision_index : (st.setRevision slot rev).index = st.index := rfl
@[simp] theorem Store.setRevision_nv : (st.setRevision slot rev).nv = st.nv := rfl
@[simp] theorem Store.enterIndex_slotStatus : (st.enterIndex code slot).slotStatus = st.slotStatus := rfl
@[simp] theorem Store.enterIndex_nv : (st.enterIndex code slot).nv = st.nv := rfl
@[simp] theorem Store.enterIndex_lastRevision : (st.enterIndex code slot).lastRevision = st.lastRevision := rfl
@[simp] theorem Store.setCells_nv : (st.setCells slot cells).nv = st.nv.set slot cells := rfl
@[simp] theorem Store.setCells_index : (st.setCells slot cells).index = st.index := rfl
@[simp] theorem Store.setCells_slotStatus : (st.setCells slot cells).slotStatus = st.slotStatus := rfl
@[simp] theorem Store.setCells_lastRevision : (st.setCells slot cells).lastRevision = st.lastRevision := rfl
@[simp] theorem Store.markSettings_settingsFailed (ok : Bool) : (st.markSettings ok).settingsFailed = !ok := rfl
@[simp] theorem Store.markSettings_nv (ok : Bool) : (st.markSettings ok).nv = st.nv := rfl
@[simp] theorem Store.markSettings_settings (ok : Bool) : (st.markSettings ok).settings = st.settings := rfl
end small

/-! ### The settings record at the scan (R17, R22) -/

/-- What a FAILED write left is unreadable. -/
theorem Store.readSettings_failed (cells : List NvCell) (h : st.settingsFailed = true) :
    (st.readSettings cells).2 = none := by
  simp [Store.readSettings, h]

/-- Any other record is read as it stands. -/
theorem Store.readSettings_held (cells : List NvCell) (h : st.settingsFailed = false) :
    st.readSettings cells = readRecord storedSettingsOk cells := by
  simp [Store.readSettings, h]

/-! ### Changed bits stay changed (R21, log entry 9) -/

/-- A word with two changed bits still has two when more have changed. -/
theorem popCount_or (a b : Byte) (h : 2 ≤ popCount a) : 2 ≤ popCount (a ||| b) :=
  le_trans h (List.countP_mono_left fun i _ hi => by simp at hi ⊢; exact Or.inl hi)

/-- A record that reads as uncorrectable does so whatever further bits change. -/
theorem eccRead_flipCell_none (cells : List NvCell) (f : CellFlip) (h : (eccRead cells).2 = none) :
    (eccRead (flipCell cells f)).2 = none := by
  obtain ⟨k, m⟩ := f
  induction cells generalizing k with
  | nil => simp [eccRead] at h
  | cons c cs ih =>
    cases k with
    | zero =>
      by_cases hc : 2 ≤ popCount c.flips
      · simp [flipCell, eccRead, popCount_or _ m hc]
      · simp only [eccRead, hc, if_false, Option.map_eq_none_iff] at h
        simp only [flipCell, List.modify_zero_cons, eccRead]
        split <;> simp [h]
    | succ k =>
      by_cases hc : 2 ≤ popCount c.flips
      · simp [flipCell, eccRead, hc]
      · simp only [eccRead, hc, if_false, Option.map_eq_none_iff] at h
        have := ih h k
        simp only [flipCell] at this
        simp [flipCell, eccRead, hc, this]

theorem eccRead_flipCells_none (flips : List CellFlip) (cells : List NvCell) (h : (eccRead cells).2 = none) :
    (eccRead (flipCells cells flips)).2 = none := by
  unfold flipCells
  induction flips generalizing cells with
  | nil => exact h
  | cons f fs ih => exact ih _ (eccRead_flipCell_none cells f h)

/-- A slot whose record is uncorrectable keeps one that is, whatever bits a scan finds changed. -/
theorem Store.flipSlots_none (flips : List SlotFlip) (slot : Nat) (cells : List NvCell)
    (h : st.nv.getD slot none = some cells) (he : (eccRead cells).2 = none) :
    ∃ found, (st.flipSlots flips).nv.getD slot none = some found ∧ (eccRead found).2 = none := by
  unfold Store.flipSlots
  induction flips generalizing st cells with
  | nil => exact ⟨_, h, he⟩
  | cons f fs ih =>
    have hf : (st.flip f.slot [{ cell := f.cell, mask := f.mask }]).nv.getD slot none =
        some (if f.slot = slot then flipCells cells [{ cell := f.cell, mask := f.mask }] else cells) := by
      simp only [Store.flip, List.getD_eq_getElem?_getD, List.getElem?_modify] at h ⊢
      cases hx : st.nv[slot]? with
      | none => simp [hx] at h
      | some y => simp [hx] at h; subst h; split <;> simp_all
    refine ih _ _ hf ?_
    split
    · exact eccRead_flipCells_none _ _ he
    · exact he

/-! ### Reading a recipe (R20, R21) -/

/-- What reading a recipe's record can do: the counts, and when it is unreadable the slot DAMAGED and out of the index. -/
theorem Store.readRecipe_store (slot : Nat) (flips : List CellFlip) :
    (st.readRecipe slot flips).1 =
      let st2 := (st.flip slot flips).countRead slot (st.readRecipe slot flips).2.1 (st.readRecipe slot flips).2.2.isNone
      if (st.readRecipe slot flips).2.2.isNone then st2.damage slot else st2 := rfl

end Sys2Proof.Machine
end

