-- ==== Sys2Proof/Tests/Slice0.lean ====
section
/-! SUPPORT. Tests: ill-formed operands are refused, the spec's worked examples come out as it works them (each names its place),
and for every statement with hypotheses a state that meets them. -/

namespace Sys2Proof.Tests

open Sys2Proof Sys2Proof.Machine

set_option Elab.async false

/-! ## Ill-formed commands -/

theorem test_wf_changed_word_keeps_bits : CellFlip.wellFormed { cell := 3, mask := 0 } = false := by decide
theorem test_wf_slot_beyond_memory : SlotFlip.wellFormed { slot := 55, cell := 0, mask := 1 } = false := by decide
theorem test_wf_slot_flip_without_bits : SlotFlip.wellFormed { slot := 54, cell := 0, mask := 0 } = false := by decide
theorem test_wf_record_too_long : cellsWellFormed (List.replicate 129 { value := 0, flips := 0 }) = false := by
  decide +kernel
theorem test_wf_write_result : (WriteResult.asWritten [{ cell := 0, mask := 0 }]).wellFormed = false := by decide
theorem test_wf_abandoned_write :
    (AbandonedWrite.damaged (List.replicate 129 { value := 0, flips := 3 })).wellFormed = false := by decide +kernel
theorem test_wf_payload_too_long : (Instr.status (List.replicate 129 0)).wellFormed = false := by decide +kernel
theorem test_wf_hold_position_beyond_frames : (Instr.holdInputChange 0 true 17).wellFormed = false := by decide
theorem test_wf_unknown_kind_is_known : (Instr.unknownKind 0x28 []).wellFormed = false := by decide
theorem test_wf_unknown_kind : (Instr.unknownKind 0x29 []).wellFormed = true := by decide


/-! ## States the tests start from -/

/-- The state after a command; the same state where it stops. -/
def after (c : Instr) (s : State) : State :=
  match exec c s with
  | .next t => t
  | .fault _ => s
  | .refused _ => s

/-- The state after several commands. -/
def afterAll (cs : List Instr) (s : State) : State := cs.foldl (fun t c => after c t) s

/-- Part of Table 2.2's calibration copy, filled up to seventeen points that do not decrease. -/
def table22 (offset : Int) : Calibration :=
  { points := [150, 900, 1800, 2700, 3600, 4500, 5400, 6400, 7200, 8000, 8800, 9600, 10200, 10800, 11300, 11800, 12000]
    offset := offset }

/-- A calibration whose point k is 750 × k: a raw count of 4096 × k converts to 750 × k. -/
def straight : Calibration := { points := (List.range 17).map (750 * ·), offset := 0 }

/-- A running part in PRODUCTION with the factory settings in force: every head IDLE, enabled, calibrated and FRESH, every drive
READY, the strap address 9. -/
def ready : State :=
  { State.reset with
    store := { State.reset.store with port := .idle, inForce := factorySettings.heads }
    line := LineLink.reset 9
    cabinet := .ready
    links := PerSix.const { StationLink.reset false with state := .running }
    sup := { Supervision.reset with mode := .production, restart := false, enable := PerSix.const true }
    fronts := PerSix.const { FrontEnd.reset with
      temperature := some 6750, lastStatus := some .ok, sensor := .fresh, timer := some 50, calibration := straight
      calValid := true }
    drives := PerSix.const { DriveUnit.reset with state := .ready, timer := some 50 } }

/-- The same part in another mode. -/
def readyIn (m : Mode) : State := { ready with sup := { ready.sup with mode := m } }

/-- Recipe 2210 of Table 3.8. -/
def recipe2210 : Recipe :=
  { revision := 3, code := 2210, maxTemp := 7600, maxCycleTime := 8000, energyMin := 90, energyMax := 200, kp := 512
    ki := 64, lagLimit := 150
    segments := [⟨.ramp, 6800, 1200, 400, 150, 100, 0⟩, ⟨.soak, 7300, 800, 350, 120, 60, 0⟩,
      ⟨.flow, 7400, 1500, 300, 140, 50, 60⟩, ⟨.hold, 4500, 2000, 0, 0, 10, 0⟩] }

/-- The body of a WRITE_RECIPE of recipe 2210 (Table 11.6). -/
def body2210 : List Byte :=
  le16 2210 ++ le8 4 ++ le16 7600 ++ le32 8000 ++ le16 90 ++ le16 200 ++ le16 512 ++ le16 64 ++ le16 150
    ++ le8 0 ++ le16 6800 ++ le16 1200 ++ le16 400 ++ le16 150 ++ le16 100 ++ le16 0
    ++ le8 1 ++ le16 7300 ++ le16 800 ++ le16 350 ++ le16 120 ++ le16 60 ++ le16 0
    ++ le8 2 ++ le16 7400 ++ le16 1500 ++ le16 300 ++ le16 140 ++ le16 50 ++ le16 60
    ++ le8 3 ++ le16 4500 ++ le16 2000 ++ le16 0 ++ le16 0 ++ le16 10 ++ le16 0

/-- Cycle 204 of 3.7, created on link S1 at timestamp 0. -/
def cycle204 (dry : Bool) : Context := Context.created 204 880015 70411 1 2210 0 dry

/-- Cycle 204 in its segment `i`, entered at timestamp `start` with this energy in the segment and in all. -/
def inSegment (i : Nat) (start : Word32) (segEnergy total : Nat) (dry : Bool) : Context :=
  { cycle204 dry with
    recipe := some recipe2210, revision := 3, segIndex := i, clock := some start, origin := 2150
    segEnergy := segEnergy, totalEnergy := total, cycleTimer := some 8000
    summaries := List.replicate i ⟨.ramp, 0, 0, 0⟩, loop := LoopState.first ⟨.ramp, 6800, 1200, 400, 150, 100, 0⟩ }

/-- H1 of `ready` in a state with a context, its reservation in A, at a timestamp; the last expiry was at 0. -/
def withH1 (st : HeadState) (c : Context) (now : Word32) (s : State) : State :=
  { s with
    heads := s.heads.set 1 { state := st, ctx := some c, notice := false }
    trace := { s.trace with
      a := { s.trace.a with reserved := 48 }
      reservation := s.trace.reservation.set 1 (some { buffer := .a, cycle := c.cycle }) }
    disp := { s.disp with
      timestamp := now
      request := s.disp.request.set 1 (if st = .heating then some { request := 290, cls := .class0 } else none) } }

/-- The unit of a station frame as the FIFO holds it, all clean. -/
def unitOf (kind : Byte) (payload : List Byte) : List FifoChar :=
  let body := [kind, BitVec.ofNat 8 payload.length] ++ payload
  (body ++ [checkByte body]).map fun b => { data := b, mark := false, tag := .clean }

/-- A link of the part with one unit in its FIFO. -/
def withUnit (l : LinkId) (u : List FifoChar) (s : State) : State :=
  { s with links := s.links.set l { s.links.get l with closed := [u] } }

/-- The last frame in a link's transmit queue. -/
def lastSent (l : LinkId) (s : State) : Option StationFrame := (s.links.get l).txQueue.getLast?

/-! ## Worked examples of the spec -/

-- 2.4, "Examples of conversion"
theorem test_convert_30000 : (table22 (-12)).convert .ok 30000 = some 6647 := by decide +kernel
theorem test_convert_top : (table22 12).convert .ok 65535 = some 12000 := by decide +kernel
theorem test_convert_high : (table22 12).convert .high 0 = some 12000 := by decide +kernel
theorem test_convert_below_zero : (table22 (-400)).convert .ok 1000 = some 0 := by decide +kernel
theorem test_convert_low : (table22 (-400)).convert .low 0 = some 0 := by decide +kernel

-- 4.9: the SOAK sample, the overshoot, rounding, saturation (run 4), the starved head
def gains : Recipe := { recipe2210 with kp := 512, ki := 64 }
def soak49 : Segment := ⟨.soak, 7300, 1000, 350, 120, 60, 0⟩
def loopAt (a : Int) (request ceiling : Nat) : LoopState :=
  { LoopState.created with accumulator := a, prevRequest := request, prevCeiling := ceiling }
theorem test_loop_soak : (loopAt 40960 290 350).run gains soak49 ⟨290, 290⟩ 7215 7300 = ⟨46400, 301, 350, 7300, 85, .none⟩ := by
  decide +kernel
theorem test_loop_overshoot : (loopAt 46400 301 350).run gains soak49 ⟨290, 290⟩ 7330 7300 = ⟨44480, 70, 350, 7300, -30, .none⟩ := by
  decide +kernel
theorem test_rounding_down : proportional 200 (-1) = -1 ∧ proportional 512 (-1) = -2 ∧ integralTerm (-740) = -1 := by
  decide +kernel
theorem test_loop_at_ceiling :
    (loopAt 217600 400 400).run gains ⟨.ramp, 6800, 1200, 400, 150, 100, 0⟩ ⟨300, 300⟩ 910 1000
      = ⟨217600, 383, 400, 1000, 90, .atCeiling⟩ := by decide +kernel
theorem test_loop_starved :
    (loopAt 163840 262 300).run gains ⟨.flow, 7400, 1500, 300, 140, 50, 0⟩ ⟨180, 260⟩ 7380 7400
      = ⟨163840, 220, 300, 7400, 20, .starved⟩ := by decide +kernel

-- 5.7 and 10.1: divisions
def parts (l : List (Option (Nat × ServeClass))) : Participants :=
  PerSix.ofFn fun h => (l.getD h.val none).map fun p => { request := p.1, cls := p.2 }
theorem test_division_one_leftover :
    divideBudget 800 2 (parts [some (300, .class1), some (350, .class0), some (301, .class0), some (280, .class1)])
      = { grants := ⟨300, 118, 102, 280, 0, 0⟩, remainder := 0, pointer := 3 } := by decide +kernel
theorem test_division_skips_and_wraps :
    divideBudget 700 4 (parts [some (199, .class0), some (101, .class0), some (299, .class0), none, some (0, .class0), some (401, .class0)])
      = { grants := ⟨140, 70, 209, 0, 0, 281⟩, remainder := 0, pointer := 1 } := by decide +kernel
theorem test_division_relief_1030 :
    divideBudget 800 0 (parts [some (335, .class1), some (440, .class2), some (325, .class1)])
      = { grants := ⟨183, 440, 177, 0, 0, 0⟩, remainder := 0, pointer := 1 } := by decide +kernel
theorem test_division_of_nothing :
    divideBudget 0 3 (parts [some (300, .class1)]) = { grants := ⟨0, 0, 0, 0, 0, 0⟩, remainder := 0, pointer := 3 } := by
  decide +kernel

-- 5.9, "Energy at a cut": grant 102 for 7 ms
theorem test_cut_energy :
    ({ ready with disp := { ready.disp with
        timestamp := 5127, lastExpiry := 5120
        grant := ready.disp.grant.set 2 { grant := 102, served := 301 } } } : State).cutEnergy 2 = 714 := by decide +kernel

-- 6.4, the latches of H4's three windows
theorem test_latches : latchOf 160 63 400 = 25 ∧ latchOf 250 63 400 = 39 ∧ latchOf 300 63 400 = 47 := by decide

-- 1.2, "Locating a refused field": a HOLD at s = 1 of three, then its ceiling 120 and its feed-forward at the end
def threeSegments (kinds : List Nat) (holdCeiling holdFeed : Nat) : List Byte :=
  le16 5 ++ le8 3 ++ le16 7600 ++ le32 8000 ++ le16 0 ++ le16 0 ++ le16 0 ++ le16 0 ++ le16 0
    ++ (kinds.map fun k =>
      if k = 3 then le8 3 ++ le16 4500 ++ le16 100 ++ le16 holdCeiling ++ le16 holdFeed ++ le16 10 ++ le16 0
      else le8 k ++ le16 6800 ++ le16 100 ++ le16 400 ++ le16 0 ++ le16 10 ++ le16 0).flatten
theorem test_field_hold_not_last : recipeFailure 12 (threeSegments [0, 3, 2] 120 0) = some 24 := by decide +kernel
theorem test_field_hold_ceiling : recipeFailure 12 (threeSegments [0, 2, 3] 120 0) = some 35 := by decide +kernel
theorem test_field_hold_feed : recipeFailure 12 (threeSegments [0, 2, 3] 0 1) = some 36 := by decide +kernel
theorem test_recipe_2210_passes : recipeFailure 5 body2210 = none := by decide +kernel
theorem test_recipe_2210_decodes : decodeRecipe 3 body2210 = recipe2210 := by decide +kernel

-- 11.5: the record of cycle 204, GOOD with four summaries
theorem test_trace_word_0 :
    let r := traceRecord 1 { inSegment 4 0 0 0 false with result := some .good }
    (r.headD 0).toNat = 22 * 2048 + 4 * 128 + 1 * 32 + 0 ∧ r.length = 32 ∧ r.drop 30 = [0xEE01, 204] := by decide +kernel

-- 8.6 step 4 and 10.2 step 2: condition 9 closes the FILLING buffer
theorem test_buffer_switch :
    let t : TraceUnit := { TraceUnit.reset with a := ⟨.filling, 3996, 96, 191, 1002, 1202, []⟩ }
    (t.judgeStart.2, t.judgeStart.1.a.state, t.judgeStart.1.b.state) = (some .b, .closing, .filling) := by decide +kernel
theorem test_start_refused_trace_full :
    let t : TraceUnit := { TraceUnit.reset with
      a := ⟨.full, 4000, 0, 125, 1, 125, []⟩, b := ⟨.filling, 4000, 96, 120, 2801, 2920, []⟩ }
    (t.judgeStart.2, t.judgeStart.1.b.state) = (none, .closing) := by decide +kernel
-- 8.6: records of 16 and 32 words fit one READ_TRACE reply, a third of 28 does not
theorem test_read_trace_room :
    (takeRecords [List.replicate 16 0, List.replicate 32 0, List.replicate 28 0] 128).length = 96 := by decide +kernel

/-! ## One command, one effect -/

/-- A supervisor operation on the port. -/
def busyWith (op : SupervisorOp) (s : State) : State :=
  { s with store := { s.store with port := .supervisor, supervisor := some { op := op, started := true } } }

/-- Recipe 2210 stored in slot 5 with revision 3. -/
def stocked (s : State) : State :=
  { s with store := { s.store with
      nv := s.store.nv.set 5 (some (cleanCells (storedRecipe 3 body2210)))
      slotStatus := s.store.slotStatus.set 5 .valid
      lastRevision := s.store.lastRevision.set 5 3
      index := [{ code := 2210, slot := 5 }] } }

/-- H1 heating in segment 0 from timestamp 2 on, at 602. -/
def ramping : State := withH1 .heating (inSegment 0 2 51204 51204 false) 602 ready
/-- H1 heating in its FLOW since 2232, at 3900, its grant 53 written at 3898. -/
def flowing : State :=
  let s := withH1 .heating (inSegment 2 2232 60006 141025 false) 3900 ready
  { s with disp := { s.disp with lastExpiry := 3898, grant := s.disp.grant.set 1 { grant := 53, served := 53 } } }
/-- H1 holding since 3900, at 6340. -/
def holding : State := withH1 .hold (inSegment 3 3900 0 141131 false) 6340 ready
/-- H1 waiting for its lookup of slot 5. -/
def looking : State :=
  let s := stocked (withH1 .lookup (cycle204 false) 1 ready)
  { s with store := { s.store with port := .lookup { head := 1, cycle := 204, code := 2210 } 5 } }
/-- H1 done, its FINISHED frame still to be queued. -/
def finishedH1 : State :=
  ready.modHead 1 fun _ => { state := .done, ctx := some { cycle204 false with result := some .good }, notice := true }

theorem test_reset : let t := after (.reset 9 .ready .former) ramping
    (t.line.strap, t.sup.mode, t.heads.get 1, t.store.port) = (9, .starting, Head.reset, .scan) := by decide +kernel
theorem test_scan : let t := after (.startUpScanComplete []) State.reset
    (t.sup.mode, (t.links.get 5).state, t.disp.budgetSetting, (t.drives.get 3).inProgress)
      = (.standby, .running, 0, some (.level 0)) := by decide +kernel
theorem test_recipe_write : let t := after (.recipeWriteComplete (.asWritten [])) (busyWith (.recipeWrite 12 body2210) ready)
    (t.store.slotStatus.getD 12 .empty, t.store.index, t.store.lastRevision.getD 12 0, t.store.lastOpResult)
      = (.valid, [{ code := 2210, slot := 12 }], 1, some .ok) := by decide +kernel
theorem test_recipe_write_fails :
    let t := after (.recipeWriteComplete (.asWritten [{ cell := 0, mask := 3 }])) (busyWith (.recipeWrite 5 body2210) (stocked ready))
    (t.store.slotStatus.getD 5 .empty, t.store.index, t.store.lastRevision.getD 5 0, t.store.lastError)
      = (.damaged, [], 4, some (5, .uncorrectable)) := by decide +kernel
theorem test_erase : let t := after .recipeEraseComplete (busyWith (.recipeErase 5) (stocked ready))
    (t.store.slotStatus.getD 5 .valid, t.store.index, t.store.nv.getD 5 none) = (.empty, [], none) := by decide +kernel
theorem test_calibration_write :
    let body := (List.range 17).flatMap (fun k => le16 (100 * k)) ++ leSigned16 (-12)
    let t := after (.calibrationWriteComplete (.asWritten [])) (busyWith (.calibrationWrite 2 body) ready)
    ((t.fronts.get 2).calValid, (t.fronts.get 2).calibration.offset, (t.fronts.get 2).calibration.point 16)
      = (true, -12, 1600) := by decide +kernel
/-- A settings write read back clean, each link and the line in the middle of a character or in none. -/
def inForce (onLinks onLine : Bool) : SettingsCompletion :=
  { held := .asWritten [], onLinks := PerSix.const onLinks, onLine := onLine }
theorem test_settings_write :
    let body := ({ factorySettings with reliefThreshold := 3, holdHigh := 20, holdLow := 0 }).bytes
    let t := after (.settingsWriteComplete (inForce false false)) (busyWith (.settingsWrite body) (readyIn .standby))
    (t.store.settings.reliefThreshold, t.store.lastOpKind, t.store.deferred) = (3, some .settingsWrite, PerSix.const false) := by
  decide +kernel
/-- A settings record beyond repair is defaulted again by the next reset, whatever bits the scan finds changed (R21). -/
theorem test_damaged_settings_stay :
    let s := { State.reset with store := { State.reset.store with nv := State.reset.store.nv.set 54 (some (cleanCells factorySettings.bytes)) } }
    let found := [{ slot := 54, cell := 0, mask := 3 }]
    let t := afterAll [.startUpScanComplete found, .reset 9 .ready .former, .startUpScanComplete found] s
    (t.store.settingsDefaulted, t.store.uncorrectable) = (true, 1) := by decide +kernel
/-- A write of settings that reads back clean and different fails; the next reset's scan finds the record unreadable (R17). -/
theorem test_settings_write_fails :
    let body := ({ factorySettings with reliefThreshold := 3 }).bytes
    let held := cleanCells ({ factorySettings with reliefThreshold := 5 }).bytes
    let t := after (.settingsWriteComplete { inForce false false with held := .other held })
      (busyWith (.settingsWrite body) (readyIn .standby))
    let u := afterAll [.reset 9 .ready .former, .startUpScanComplete []] t
    (t.store.lastOpResult, t.store.settingsDefaulted, u.store.settingsDefaulted, u.store.settings.reliefThreshold, u.store.lastError)
      = (some .failed, false, true, 4, some (54, .uncorrectable)) := by decide +kernel
theorem test_read_complete :
    let s := busyWith (.recipeRead 5) (stocked ready)
    let t := after (.recipeReadComplete []) { s with line := { s.line with reply := .forming } }
    (t.line.replyFrame.map fun r => (r.kind, r.payload.take 4), t.line.reply) = (some (0x90, [5, 1, 3, 0]), .sending) := by
  decide +kernel
theorem test_lookup_good : let t := after (.lookupComplete []) looking
    ((t.heads.get 1).state, t.store.port, ((t.heads.get 1).ctx.map fun c => (c.revision, c.cycleTimer)),
      (t.disp.request.get 1).map (·.request)) = (.heating, .idle, some (3, some 8000), some 0) := by decide +kernel
theorem test_lookup_damaged : let t := after (.lookupComplete [{ cell := 30, mask := 3 }]) looking
    ((t.heads.get 1).state, (t.heads.get 1).ctx.bind (·.reason), t.store.slotStatus.getD 5 .empty)
      = (.faulted, some .recipeDamaged, .damaged) := by decide +kernel
theorem test_port_start :
    let e : LookupEntry := { head := 1, cycle := 204, code := 2210 }
    let s := stocked ready
    (after .storePortStart { s with store := { s.store with queue := [e] } }).store.port = .lookup e 5 := by decide +kernel
-- 3.7, at 1202 and at 3900
theorem test_sample_completes_ramp :
    let t := after (.sample 1 (.good .ok 37083)) { ramping with disp := { ramping.disp with timestamp := 1202 } }
    ((t.heads.get 1).ctx.map fun c => (c.summaries, c.segIndex, c.clock, c.loop.lastSetpoint))
      = some ([⟨.ramp, 1200, 6790, 512⟩], 1, some 1202, 7300) := by decide +kernel
theorem test_sample_ends_heating : let t := after (.sample 1 (.good .ok 40464)) flowing
    ((t.heads.get 1).state, ((t.heads.get 1).ctx.map fun c => (c.summaries.getLast?, c.totalEnergy, c.flags.warns)))
      = (.hold, some (some ⟨.flow, 1668, 7409, 601⟩, 141131, false)) := by decide +kernel
theorem test_replay_step :
    let s := withH1 .lookup (cycle204 true) 5 (readyIn .service)
    let s1 := s.modFront 1 fun fe => { fe with replayActive := true, replayPos := 7, replayNext := 5 }
    let t := after (.replayStep 1) { s1 with sup := { s1.sup with replayTable := s1.sup.replayTable.set 8 { raw := 4096, status := .ok } } }
    ((t.fronts.get 1).replayPos, (t.fronts.get 1).temperature) = (8, some 750) := by decide +kernel
theorem test_sensor_lost :
    let t := after (.sensorTimerExpiry 1) (ramping.modFront 1 fun fe => { fe with timer := some 0 })
    ((t.fronts.get 1).sensor, (t.heads.get 1).state, (t.heads.get 1).ctx.bind (·.reason), (t.disp.request.get 1))
      = (.stale, .faulted, some .sensorLost, none) := by decide +kernel
theorem test_cycle_time_in_hold :
    let t := after (.cycleTimeExpiry 1) (withH1 .hold { inSegment 3 3900 0 0 false with cycleTimer := some 0 } 8001 ready)
    ((t.heads.get 1).state, ((t.heads.get 1).ctx.map fun c => (c.result, c.flags.hotRelease))) = (.done, some (some .warn, true)) := by
  decide +kernel
-- 5.7, the first allocation as an expiry
theorem test_dispatch_expiry :
    let entry (r : Nat) (c : RequestClass) : Option RequestEntry := some { request := r, cls := c }
    let t := after .dispatchExpiry { ready with disp := { ready.disp with
      timestamp := 10, budgetSetting := 800, pointer := 2
      request := ⟨entry 300 .class1, entry 350 .class0, entry 301 .class0, entry 280 .class1, none, none⟩ } }
    (t.disp.grant.map (·.grant), t.disp.shortfall, t.disp.pointer, t.disp.lastTotal, (t.drives.get 1).output)
      = (⟨300, 118, 102, 280, 0, 0⟩, ⟨0, 1, 1, 0, 0, 0⟩, 3, 800, .level 118) := by decide +kernel
/-- H1 as a BURST head of max power 400 and window 63, its window started at 1010, at a timestamp. -/
def bursting (grant : Nat) (onTime : Nat) (on : Bool) (now : Word32) : State :=
  let s := withH1 .heating (inSegment 1 1003 0 0 false) now ready
  { s with
    store := { s.store with inForce := s.store.inForce.set 1 { s.store.inForce.get 1 with driveType := .burst, maxPower := 400, burstWindow := 63 } }
    disp := { s.disp with grant := s.disp.grant.set 1 { grant := grant, served := grant } }
    drives := s.drives.set 1 { s.drives.get 1 with output := .gate on, windowStart := some 1010, onTime := onTime, onRunning := on } }
-- 6.4, at 1073 and at 1035
theorem test_window_start : let t := after (.windowStart 1) (bursting 250 25 false 1073)
    ((t.drives.get 1).onTime, (t.drives.get 1).windowStart, (t.drives.get 1).output) = (39, some 1073, .gate true) := by decide +kernel
theorem test_on_part_end : let t := after (.onPartEnd 1) (bursting 160 25 true 1035)
    ((t.drives.get 1).output, (t.heads.get 1).ctx.map (·.segEnergy)) = (.gate false, some 10000) := by decide +kernel
theorem test_drive_frame_sent :
    ((after (.driveFrameSent 0) (ready.modDrive 0 fun d => (d.command (.level 5)).command (.level 7))).drives.get 0).inProgress
      = some (.level 7) := by decide +kernel
theorem test_drive_trip : let t := after (.driveStatus 1 (.good .tripped)) ramping
    ((t.drives.get 1).state, (t.drives.get 1).output, (t.heads.get 1).ctx.bind (·.reason)) = (.tripped, .level 0, some .driveTrip) := by
  decide +kernel
theorem test_drive_timeout :
    let t := after (.driveStatusTimeout 1) (ramping.modDrive 1 fun d => { d with timer := some 0 })
    ((t.drives.get 1).state, (t.heads.get 1).ctx.bind (·.reason)) = (.unknown, some .driveLost) := by decide +kernel
theorem test_cabinet : (after (.cabinetInputChange .ready) { ready with cabinet := .notReady }).cabinet = .ready := by decide +kernel
theorem test_station_lead :
    let t := after (.stationCharacter 3 { data := 0x10, mark := true, framing := false }) ready
    ((t.links.get 3).fifoCount, (t.links.get 3).opened.map List.length, (t.links.get 3).interTimer.isSome) = (1, some 1, true) := by
  decide +kernel
-- R17: a character being received as new settings come into force
theorem test_station_spoiled :
    let t := afterAll [.settingsWriteComplete (inForce true false), .stationCharacter 3 { data := 0x10, mark := true, framing := false }]
      (busyWith (.settingsWrite factorySettings.bytes) (readyIn .standby))
    ((t.links.get 3).opened.map fun u => u.map (·.tag), (t.links.get 3).spoiled, (t.links.get 2).spoiled)
      = (some [.framing], false, true) := by decide +kernel
-- R137: the lead of a sent frame alone carries the mark bit
theorem test_sent_marks : (StationFrame.accept 1 204).characters.map (·.mark)
    = [true, false, false, false, false, false, false, false] := by decide
theorem test_station_gap :
    let t := afterAll [.stationCharacter 3 { data := 0x10, mark := true, framing := false }, .interCharacterTimerExpiry 3] ready
    ((t.links.get 3).opened, (t.links.get 3).closed.length) = (none, 1) := by decide +kernel
theorem test_start :
    let t := after (.start 1) (withUnit 1 (unitOf 0x10 ([1] ++ le16 2210 ++ le32 880015)) (stocked ready))
    ((t.heads.get 1).state, t.disp.cycleCounter, t.trace.a.reserved, lastSent 1 t, t.store.port)
      = (.lookup, 1, 48, some (.accept 1 1), .lookup { head := 1, cycle := 1, code := 2210 } 5) := by decide +kernel
theorem test_start_not_owner :
    lastSent 2 (after (.start 2) (withUnit 2 (unitOf 0x10 ([1] ++ le16 2210 ++ le32 880015)) ready))
      = some (.refuse 1 .notOwner) := by decide +kernel
theorem test_abort : let t := after (.abort 1) (withUnit 1 (unitOf 0x11 [1]) ramping)
    ((t.heads.get 1).state, (t.heads.get 1).ctx.bind (·.reason), lastSent 1 t) = (.faulted, some .station, some (.accept 1 204)) := by
  decide +kernel
theorem test_release : let s := { finishedH1 with heads := finishedH1.heads.modify 1 fun h => { h with notice := false } }
    let t := after (.release 1) (withUnit 1 (unitOf 0x12 [1]) s)
    (t.heads.get 1, lastSent 1 t) = (Head.reset, some (.accept 1 204)) := by decide +kernel
theorem test_query : lastSent 4 (after (.query 4) (withUnit 4 (unitOf 0x13 [1]) holding))
    = some (.state 1 .hold 3 6750 0 204 none none) := by decide +kernel
theorem test_link_error : lastSent 0 (after (.linkError 0) (withUnit 0 (unitOf 0x14 []) ready))
    = some (.linkError .unknownKind 0x14) := by decide +kernel
theorem test_finished : let t := after (.finished 1) finishedH1
    (lastSent 1 t, (t.heads.get 1).notice) = (some (.finished 1 204 (some .good) none), false) := by decide +kernel
theorem test_transmit_sent :
    let t := afterAll [.finished 1, .transmitFrameSent 1] finishedH1
    ((t.links.get 1).txQueue, (t.links.get 1).sending) = ([], none) := by decide +kernel
theorem test_hold_input : let t := afterAll [.holdInputChange 1 true 0, .finished 1] finishedH1
    ((t.links.get 1).paused, (t.links.get 1).sending, (t.links.get 1).txQueue.length) = (true, none, 1) := by decide +kernel
/-- A pause that lets character 2 finish, and its release: sending resumes with character 3 (R138). -/
theorem test_hold_release :
    let s := (ready.modLink 1 fun k => { k with txQueue := [.accept 1 204], sending := some 1 })
    let t := afterAll [.holdInputChange 1 true 2, .holdInputChange 1 false 3] s
    ((t.links.get 1).paused, (t.links.get 1).characterInProgress.map (·.data)) = (false, some 204) := by decide +kernel
theorem test_frame_timer :
    let t := afterAll [.lineCharacter (heard { data := 9, mark := true, framing := false }), .frameTimerExpiry] ready
    (t.line.rx, t.line.frameTimer) = (none, none) := by decide +kernel
theorem test_index_in_starting : (after (.index 70412) (readyIn .starting)).sup.coil = 0 := by decide +kernel
theorem test_turnaround : let t := afterAll [.status [], .turnaroundExpiry] ready
    (t.line.reply, t.line.txEnable) = (.sending, true) := by decide +kernel
theorem test_reply_sent : let t := afterAll [.status [], .turnaroundExpiry, .replySent] ready
    (t.line.reply, t.line.txEnable, t.line.replyFrame) = (.none, false, none) := by decide +kernel

/-- The reply owed after a command: its kind and payload. -/
def replyTo (c : Instr) (s : State) : Option (Byte × List Byte) := (after c s).line.replyFrame.map fun r => (r.kind, r.payload)

theorem test_status : (replyTo (.status []) ready).map (fun r => (r.1, r.2.length, r.2.take 2)) = some (0x81, 81, [2, 0]) := by
  decide +kernel
theorem test_set_budget : replyTo (.setBudget [0xFF, 0xFF]) ready = some (0x82, [0x60, 0x09]) := by decide +kernel
theorem test_set_mode : replyTo (.setMode [4]) (readyIn .standby) = some (0x83, [4]) := by decide +kernel
theorem test_set_mode_busy : replyTo (.setMode [4]) (readyIn .draining) = some (0xFF, [5, 3]) := by decide +kernel
theorem test_ack_restart : (after (.ackRestart []) (readyIn .standby)).sup.restart = false := by decide +kernel
theorem test_head_enable : replyTo (.headEnable [2, 0]) ready = some (0x85, [0x3B]) := by decide +kernel
theorem test_clear_format : replyTo (.clear [0]) ready = some (0xFF, [2, 0x06]) := by decide +kernel
theorem test_read_head : (replyTo (.readHead [1]) holding).map (fun r => (r.2.length, r.2.take 6)) = some (40, [3, 204, 0, 0, 0, 3]) := by
  decide +kernel
-- R179: a BURST head's command output is one byte
theorem test_read_head_burst : (replyTo (.readHead [1]) (bursting 160 25 true 1035)).map (fun r => (r.2.length, r.2.drop 34))
    = some (39, [1, 0, 25, 0, 1]) := by decide +kernel
theorem test_read_recipe : replyTo (.readRecipe [6]) ready = some (0x90, [6, 0, 0, 0]) := by decide +kernel
theorem test_list_codes : replyTo (.listCodes [0]) (stocked ready) = some (0x91, [1, 0xA2, 0x08, 5]) := by decide +kernel
theorem test_read_cal : (replyTo (.readCal [0]) ready).map (fun r => (r.2.length, r.2.take 6)) = some (38, [0, 1, 0, 0, 0xEE, 0x02]) := by
  decide +kernel
theorem test_read_settings : (replyTo (.readSettings []) ready).map (fun r => r.2.length) = some 66 := by decide +kernel
theorem test_write_recipe : let t := after (.writeRecipe ([12] ++ body2210)) ready
    (t.store.supervisor, t.store.port) = (some { op := .recipeWrite 12 body2210, started := true }, .supervisor) := by decide +kernel
theorem test_write_recipe_duplicate : replyTo (.writeRecipe ([12] ++ body2210)) (stocked ready) = some (0xFF, [8, 5]) := by
  decide +kernel
theorem test_erase_recipe : replyTo (.eraseRecipe [48]) ready = some (0xFF, [7, 255]) := by decide +kernel
theorem test_write_cal : replyTo (.writeCal ([1] ++ List.replicate 36 0)) ramping = some (0xFF, [6, 1]) := by decide +kernel
theorem test_write_settings : replyTo (.writeSettings factorySettings.bytes) ready = some (0xFF, [4, 2]) := by decide +kernel
theorem test_trace_info : (replyTo (.traceInfo []) ramping).map (fun r => (r.2.length, r.2.take 5)) = some (34, [1, 0, 0, 48, 0]) := by
  decide +kernel
theorem test_read_trace : replyTo (.readTrace [0, 0, 0]) ready = some (0xFF, [10, 0]) := by decide +kernel
theorem test_release_trace : replyTo (.releaseTrace [0]) ready = some (0xFF, [11, 1]) := by decide +kernel
theorem test_flush_trace : replyTo (.flushTrace []) ramping = some (0xA3, [2, 1]) := by decide +kernel
theorem test_load_replay :
    let t := after (.loadReplay ([254, 0, 2] ++ [1, 2, 0] ++ [3, 4, 3])) (readyIn .service)
    t.sup.replayTable.drop 254 = [{ raw := 0x0201, status := .ok }, { raw := 0x0403, status := .weak }] := by decide +kernel
theorem test_line_character :
    (after (.lineCharacter (heard { data := 9, mark := true, framing := false })) ready).line.rx = some [9] := by decide +kernel
-- R159: a character that started while the HD6 drove the line is lost, though it ends after the reply
theorem test_line_character_driven :
    let t := afterAll [.status [], .turnaroundExpiry, .replySent,
      .lineCharacter { character := { data := 9, mark := true, framing := false }, startedWhileDriven := true }] ready
    (t.line.txEnable, t.line.rx) = (false, none) := by decide +kernel
-- R161: STATUS to address 9, its check right and one too high
theorem test_line_check :
    let sends (check : Byte) : State := afterAll ((asCharacters [9, 0x01, 0, check]).map fun c => .lineCharacter (heard c)) ready
    ((sends 0xF6).line.reply, (sends 0xF7).line.reply, (sends 0xF7).line.rx) = (.waiting, .none, none) := by decide +kernel
theorem test_unknown_kind : replyTo (.unknownKind 0x29 []) ready = some (0xFF, [1, 0x29]) := by decide +kernel
theorem test_sensor_characters :
    let t := afterAll ((asCharacters [0x50, 0x00, 0x10, 0xA0]).map (.sensorCharacter 2)) ready
    ((t.fronts.get 2).temperature, (t.fronts.get 2).rx) = (some 750, none) := by decide +kernel
theorem test_drive_status_characters :
    ((afterAll ((asCharacters [0x70, 0x01, 0x8F]).map (.driveStatusCharacter 2)) ready).drives.get 2).state = .notReady := by
  decide +kernel
theorem test_tick : let t := after .timestampTick { ready with disp := { ready.disp with timestamp := 0xFFFFFFFF } }
    (t.disp.timestamp, (t.fronts.get 0).timer) = (0, some 49) := by decide +kernel

/-! ## The hypotheses of the statements can be met

One theorem or more for each statement of Sys2Proof/Certificates/Slice0/Obligations.lean that has hypotheses, with the values
that meet them, clause by clause. -/

theorem witness_StepRunsTheFrontCommand :
    ({ ready with pending := [.timestampTick, .replySent] } : State).pending = .timestampTick :: [.replySent] ∧
      ready.pending = [] := by decide +kernel

theorem witness_AbandonedOperationLeavesOneOfItsOutcomes :
    (busyWith (.recipeWrite 47 body2210) ready).runningOp = some (.recipeWrite 47 body2210) ∧
      (busyWith (.calibrationWrite 5 []) ready).runningOp = some (.calibrationWrite 5 []) ∧ 53 = 48 + (5 : HeadId).val ∧
      (busyWith (.settingsWrite factorySettings.bytes) ready).runningOp = some (.settingsWrite factorySettings.bytes) ∧
      54 < ready.store.nv.length ∧ (busyWith (.recipeErase 0) ready).runningOp = some (.recipeErase 0) ∧
      (busyWith (.recipeRead 0) ready).runningOp = some (.recipeRead 0) ∧ ready.runningOp = none := by decide +kernel

theorem witness_ScanCompletionHandsOverTheSettings : State.reset.store.port = .scan := by decide +kernel

/-- A memory the scan finds: recipe 2210 in slots 0 and 47, a header beyond repair in slot 1, slot 2 never written; H0's calibration
good, H5's beyond repair, H1's never written; a settings record. -/
def recorded (settings : Option (List NvCell)) : State :=
  let bad : List NvCell := List.replicate 36 { value := 0, flips := 3 }
  let good := some (cleanCells (storedRecipe 3 body2210))
  { State.reset with store := { State.reset.store with
      nv := (((((State.reset.store.nv.set 0 good).set 47 good).set 1 (some bad)).set 48
        (some (cleanCells (straight.bytes)))).set 53 (some bad)).set 54 settings } }

theorem witness_ScanBuildsTheStateFromTheRecords :
    let s := recorded (some (cleanCells factorySettings.bytes))
    let nv := (after (.startUpScanComplete []) s).store.nv
    let header : Nat → Option (List Byte) := fun slot => (eccRead (((nv.getD slot none).getD []).take 21)).2
    (s.store.port = .scan ∧ s.store.slotStatus.length = 48 ∧ s.store.lastRevision.length = 48 ∧ s.store.corrected ≤ 65535 ∧
        s.store.uncorrectable ≤ 65535) ∧
      nv.getD 2 none = none ∧ (nv.getD 1 none ≠ none ∧ header 1 = none) ∧
      (nv.getD 0 none ≠ none ∧ (header 0).any storedHeaderOk = true) ∧
      (nv.getD 47 none ≠ none ∧ (header 47).any storedHeaderOk = true) ∧
      nv.getD 49 none = none ∧ (nv.getD 53 none ≠ none ∧ (eccRead ((nv.getD 53 none).getD [])).2 = none) ∧
      ((eccRead ((nv.getD 48 none).getD [])).2).any storedCalibrationOk = true ∧
      ((eccRead ((nv.getD 54 none).getD [])).2).any storedSettingsOk = true ∧
      (recorded none).store.nv.getD 54 none = none ∧
      (eccRead (((recorded (some [{ value := 0, flips := 3 }])).store.nv.getD 54 none).getD [])).2 = none ∧
      (s.store.settingsFailed = false ∧
        ((recorded (some [{ value := 0, flips := 3 }])).store.nv.getD 54 none).any (fun cells => (eccRead cells).2 == none) = true) ∧
      (s.modStore fun st => { st with settingsFailed := true }).store.settingsFailed = true := by decide +kernel

/-- Words with no bit, one bit and two bits changed. -/
def worn : List NvCell := [{ value := 7, flips := 0 }, { value := 9, flips := 4 }, { value := 5, flips := 3 }, { value := 1, flips := 1 }]

theorem witness_EccReadsCorrectOneBit :
    (∀ c ∈ worn.take 2, ((List.range 8).filter fun i => c.flips.getLsbD i).length ≤ 1) ∧
      (∃ c ∈ worn, 2 ≤ ((List.range 8).filter fun i => c.flips.getLsbD i).length) ∧
      eccRead (worn.take 2) = (true, some [7, 9]) ∧ eccRead worn = (true, none) ∧ eccRead (worn.drop 2) = (false, none) ∧
      (let st := (stocked ready).store
       st.nv[5]? = some (some (cleanCells (storedRecipe 3 body2210))) ∧ 5 < st.slotStatus.length ∧
         (st.readRecipe 5 []).2 = (false, some (storedRecipe 3 body2210)) ∧
         (st.readRecipe 5 [{ cell := 0, mask := 1 }]).2 = (true, some (storedRecipe 3 body2210)) ∧
         (st.readRecipe 5 [{ cell := 0, mask := 3 }]).2.2 = none) := by decide +kernel

theorem witness_RecipeWriteCompletes :
    let s := busyWith (.recipeWrite 47 body2210) ready
    let record := storedRecipe (s.store.lastRevision.getD 47 0 + 1) body2210
    s.runningOp = some (.recipeWrite 47 body2210) ∧ 47 < s.store.nv.length ∧ 47 < s.store.slotStatus.length ∧
      47 < s.store.lastRevision.length ∧ writeOk record (.asWritten [{ cell := 0, mask := 1 }]) = true ∧
      writeOk record (.asWritten [{ cell := 0, mask := 3 }]) = false ∧ writeOk record (.other []) = false := by decide +kernel

theorem witness_EraseAndCalibrationWritesComplete :
    let s := busyWith (.recipeErase 47) ready
    let body := straight.bytes
    (s.runningOp = some (.recipeErase 47) ∧ 47 < s.store.nv.length ∧ 47 < s.store.slotStatus.length ∧
        47 < s.store.lastRevision.length) ∧
      (busyWith (.calibrationWrite 5 body) ready).runningOp = some (.calibrationWrite 5 body) ∧
      writeOk body (.asWritten []) = true ∧ writeOk body (.other []) = false := by decide +kernel

theorem witness_SettingsWriteCompletes :
    let body := factorySettings.bytes
    let s := busyWith (.settingsWrite body) { finishedH1 with sup := { finishedH1.sup with mode := .standby } }
    s.runningOp = some (.settingsWrite body) ∧ writeOk body (inForce true true).held = true ∧
      writeOk body ({ inForce true true with held := .other [] } : SettingsCompletion).held = false ∧
      (s.heads.get 0).state = .idle ∧ (s.heads.get 1).state ≠ .idle := by decide +kernel

theorem witness_RecipeReadCompletes :
    let s0 := busyWith (.recipeRead 5) (stocked ready)
    let s := { s0 with line := { s0.line with reply := .forming } }
    s.runningOp = some (.recipeRead 5) ∧ s.line.reply = .forming ∧ 5 < s.store.slotStatus.length ∧
      (s.store.readRecipe 5 []).2.2 = some (storedRecipe 3 body2210) ∧
      (s.store.readRecipe 5 [{ cell := 72, mask := 3 }]).2.2 = none := by decide +kernel

theorem witness_LookupResultReachesItsHead :
    let e : LookupEntry := { head := 1, cycle := 204, code := 2210 }
    let s := looking
    let weak : State := { s with store := { s.store with inForce := s.store.inForce.modify 1 fun f => { f with maxPower := 399 } } }
    let record := storedRecipe 3 body2210
    let r := decodeRecipe (storedRevision record) (record.drop 2)
    s.store.port = .lookup e 5 ∧ 5 < s.store.slotStatus.length ∧ s.takesLookup e = true ∧
      s.takesLookup { e with cycle := 203 } = false ∧
      (s.store.readRecipe 5 [{ cell := 0, mask := 3 }]).2.2 = none ∧ (s.store.readRecipe 5 []).2.2 = some record ∧
      (∀ g ∈ r.segments, g.ceiling ≤ (s.store.inForce.get 1).maxPower) ∧
      (∃ g ∈ r.segments, (weak.store.inForce.get 1).maxPower < g.ceiling) ∧
      ((s.fronts.get 1).sensor ≠ .stale ∧ s.isDry 1 = false ∧ s.cabinet = .ready ∧ (s.drives.get 1).state ≠ .tripped ∧
        (s.drives.get 1).state ≠ .unknown ∧ r.segments[0]? = some ⟨.ramp, 6800, 1200, 400, 150, 100, 0⟩) ∧
      (let t := s.modFront 1 fun f => { f with sensor := .stale }; t.takesLookup e = true ∧ (t.fronts.get 1).sensor = .stale) ∧
      (let t : State := { s with cabinet := .notReady }; t.takesLookup e = true ∧ t.isDry 1 = false ∧ t.cabinet = .notReady) ∧
      (let t := s.modDrive 1 fun d => { d with state := .tripped }; t.takesLookup e = true ∧ (t.drives.get 1).state = .tripped) ∧
      (let t := s.modDrive 1 fun d => { d with state := .unknown }; t.takesLookup e = true ∧ (t.drives.get 1).state = .unknown) ∧
      (withH1 .lookup (cycle204 true) 1 ready).isDry 1 = true := by decide +kernel

theorem witness_FreePortStartsLookupsFirst :
    let e : LookupEntry := { head := 1, cycle := 204, code := 2210 }
    let s : State := { looking with store := { looking.store with port := .idle, queue := [e] } }
    let bare : State := { s with store := { s.store with index := [] } }
    let op (o : SupervisorOp) : State :=
      { stocked ready with store := { (stocked ready).store with supervisor := some { op := o, started := false } } }
    let asked (u : State) : State := { u with line := { u.line with reply := .forming } }
    (s.store.port = .idle ∧ s.store.queue = e :: [] ∧ s.store.slotOf e.code = some 5) ∧
      (bare.store.slotOf e.code = none ∧ bare.takesLookup e = true) ∧
      ((op (.recipeErase 5)).store.port = .idle ∧ (op (.recipeErase 5)).store.queue = [] ∧
        (op (.recipeErase 5)).store.slotStatus.getD 5 .empty = .valid) ∧
      ((op (.recipeErase 6)).store.port = .idle ∧ (op (.recipeErase 6)).store.queue = [] ∧
        (op (.recipeErase 6)).store.slotStatus.getD 6 .empty = .empty) ∧
      ((asked (op (.recipeRead 6))).store.port = .idle ∧ (asked (op (.recipeRead 6))).store.queue = [] ∧
        (asked (op (.recipeRead 6))).store.slotStatus.getD 6 .empty ≠ .valid ∧
        (asked (op (.recipeRead 6))).line.reply = .forming) := by decide +kernel

theorem witness_InterpolationFollowsTheTable :
    straight.points.length = 17 ∧ (∀ p ∈ straight.points, p ≤ 12000) ∧
      (∀ k, k < 16 → straight.point k ≤ straight.point (k + 1)) ∧ (65535 : Word16).toNat % 4096 = 4095 := by decide +kernel

theorem witness_SampleFramesOutsideHeating :
    ready.sup.mode ≠ .starting ∧ (ready.fronts.get 1).replayActive = false ∧ (ready.heads.get 1).state ≠ .heating ∧
      (ready.heads.get 1).state ≠ .hold ∧ (readyIn .starting).sup.mode = .starting ∧
      ramping.sup.mode ≠ .starting ∧ (ramping.fronts.get 1).replayActive = false ∧
      (ramping.heads.get 1).state = .heating ∧ (ramping.heads.get 1).ctx = some (inSegment 0 2 51204 51204 false) := by
  decide +kernel

/-- H1 on a replayed dry cycle at this position, its next step due. -/
def inReplay (st : HeadState) (pos : Nat) : State :=
  (withH1 st (inSegment 0 2 0 0 true) 602 (readyIn .service)).modFront 1 fun fe =>
    { fe with replayActive := true, replayPos := pos, replayNext := 602 }

theorem witness_ReplayStepTakesTheNextEntry :
    let s := (withH1 .lookup (cycle204 true) 5 (readyIn .service)).modFront 1 fun fe =>
      { fe with replayActive := true, replayPos := 255, replayNext := 5 }
    let weak : State := { s with sup := { s.sup with replayTable := s.sup.replayTable.set 255 { raw := 0, status := .weak } } }
    (s.fronts.get 1).replayActive = true ∧ reached s.disp.timestamp (s.fronts.get 1).replayNext = true ∧
      (s.heads.get 1).state = .lookup ∧ s.sup.mode ≠ .starting ∧
      ((inReplay .heating 7).heads.get 1).state = .heating ∧ ((inReplay .heating 7).fronts.get 1).replayActive = true ∧
      reached (inReplay .heating 7).disp.timestamp ((inReplay .heating 7).fronts.get 1).replayNext = true ∧
      (s.fronts.get 1).calibration.convert (s.sup.replayTable.getD 255 { raw := 0, status := .low }).status 0 = some 0 ∧
      (weak.sup.replayTable.getD 255 { raw := 0, status := .low }).status = .weak := by decide +kernel

theorem witness_SetpointFollowsTheSegment :
    (inSegment 0 2 0 0 false).clock = some 2 ∧ (1 ≤ (⟨.ramp, 6800, 1200, 400, 150, 100, 0⟩ : Segment).duration) ∧
      (⟨.ramp, 6800, 1200, 400, 150, 100, 0⟩ : Segment).duration ≤ (1202 - 2 : Word32).toNat := by decide +kernel

/-- H1's segments 0, 2 and 3 of recipe 2210. -/
def segment0 : Segment := ⟨.ramp, 6800, 1200, 400, 150, 100, 0⟩
def segment1 : Segment := ⟨.soak, 7300, 800, 350, 120, 60, 0⟩
def segment2 : Segment := ⟨.flow, 7400, 1500, 300, 140, 50, 60⟩
def segment3 : Segment := ⟨.hold, 4500, 2000, 0, 0, 10, 0⟩

theorem witness_SampleInHeatingRunsTheLoop :
    let c := inSegment 0 2 51204 51204 false
    (ramping.sup.mode ≠ .starting ∧ (ramping.fronts.get 1).replayActive = false ∧ (ramping.heads.get 1).state = .heating) ∧
      ramping.running 1 = some (c, recipe2210, segment0) ∧ segment0.kind ≠ .hold ∧
      (ramping.fronts.get 1).calibration.convert .ok 24085 = some 4410 ∧ 4410 ≤ recipe2210.maxTemp ∧
      ¬ 4410 + segment0.band < c.setpoint segment0 602 ∧ (602 - 2 : Word32).toNat < segment0.duration ∧
      c.lagStart = none := by decide +kernel

/-- H1 at the end of its ramp. -/
def rampDone : State := { ramping with disp := { ramping.disp with timestamp := 1202 } }

theorem witness_CompletedSegmentLeadsToTheNext :
    let c := inSegment 0 2 51204 51204 false
    rampDone.running 1 = some (c, recipe2210, segment0) ∧ (rampDone.fronts.get 1).calibration.convert .ok 37083 = some 6790 ∧
      6790 ≤ recipe2210.maxTemp ∧ c.clock = some 2 ∧ recipe2210.segments[0 + 1]? = some segment1 ∧ segment1.kind ≠ .hold ∧
      ¬ 6790 + segment0.band < c.setpoint segment0 1202 ∧ segment0.kind = .ramp ∧
      segment0.duration ≤ (1202 - 2 : Word32).toNat := by decide +kernel

theorem witness_LastHeatingSegmentEndsHeating :
    let c := inSegment 2 2232 60006 141025 false
    let bare : Recipe := { recipe2210 with segments := [segment0, segment1, segment2] }
    flowing.running 1 = some (c, recipe2210, segment2) ∧ c.summaries.length = c.segIndex ∧
      (flowing.fronts.get 1).calibration.convert .ok 40464 = some 7409 ∧ 7409 ≤ recipe2210.maxTemp ∧ c.clock = some 2232 ∧
      recipe2210.segments[c.segIndex + 1]? = some segment3 ∧ segment3.kind = .hold ∧ segment2.kind = .flow ∧
      segment2.energyTarget * 1000 ≤ c.segEnergy ∧ bare.segments[c.segIndex + 1]? = none ∧
      (let s := withH1 .heating { c with recipe := some bare } 3900 ready
       s.running 1 = some ({ c with recipe := some bare }, bare, segment2) ∧
         s.trace.reservation.get 1 = some { buffer := .a, cycle := 204 }) := by decide +kernel

theorem witness_SampleJudgementsEndTheCycle :
    let c := { inSegment 0 2 0 0 false with lagStart := some 451 }
    let s := withH1 .heating c 602 ready
    s.running 1 = some (c, recipe2210, segment0) ∧ (s.heads.get 1).state = .heating ∧
      ((s.fronts.get 1).calibration.convert .ok 65535 = some 11999 ∧ recipe2210.maxTemp < 11999) ∧
      ((s.fronts.get 1).calibration.convert .ok 23868 = some 4370 ∧ 4370 + segment0.band < c.setpoint segment0 602 ∧
        recipe2210.lagLimit < (602 - 451 : Word32).toNat) ∧
      (holding.heads.get 1).state = .hold ∧ (holding.running 1).isSome = true := by decide +kernel

theorem witness_HoldReleasesOrWaits :
    let c := inSegment 3 3900 0 141131 false
    (holding.heads.get 1).state = .hold ∧ holding.running 1 = some (c, recipe2210, segment3) ∧
      ((holding.fronts.get 1).calibration.convert .ok 24555 = some 4496 ∧
        segment3.duration ≤ (6340 - 3900 : Word32).toNat ∧ 4496 ≤ segment3.target) ∧
      ((holding.fronts.get 1).calibration.convert .ok 24577 = some 4500 ∧ 4500 ≤ segment3.target) ∧
      ((holding.fronts.get 1).calibration.convert .ok 24582 = some 4501 ∧ ¬ 4501 ≤ segment3.target) := by decide +kernel

/-- Time in band is kept in HOLD too (R53): 40 ms more from a sample in band to one that still waits. -/
theorem test_hold_keeps_time_in_band :
    let c := { inSegment 3 3900 0 141131 false with inBand := 7, prev := some (6300, true) }
    ((after (.sample 1 (.good .ok 24582)) (withH1 .hold c 6340 ready)).heads.get 1).ctx.map (fun c => (c.inBand, c.prev.map (·.1)))
      = some (47, some 6340) := by decide +kernel

theorem witness_TimerExpiriesEndTheCycle :
    let s := ramping.modFront 1 fun fe => { fe with timer := some 0 }
    let t := ready.modFront 1 fun fe => { fe with timer := some 0 }
    let c := { inSegment 0 2 0 0 false with cycleTimer := some 0 }
    let d := { inSegment 3 3900 0 0 false with cycleTimer := some 0 }
    (((s.fronts.get 1).timer = some 0 ∧ (s.heads.get 1).state = .heating ∧
        (s.heads.get 1).ctx = some (inSegment 0 2 51204 51204 false)) ∧
      ((t.fronts.get 1).timer = some 0 ∧ (t.heads.get 1).state ≠ .heating ∧ (t.heads.get 1).state ≠ .hold)) ∧
      ((withH1 .heating c 8001 ready).heads.get 1).ctx = some c ∧ c.cycleTimer = some 0 ∧
      ((withH1 .heating c 8001 ready).heads.get 1).state = .heating ∧
      ((withH1 .hold d 8001 ready).heads.get 1).state = .hold ∧
      (withH1 .hold d 8001 ready).running 1 = some (d, recipe2210, segment3) ∧ d.cycleTimer = some 0 ∧
      ((withH1 .hold d 8001 ready).fronts.get 1).temperature = some 6750 := by decide +kernel

theorem witness_EndOfACycleTakesItsSteps :
    (flowing.heads.get 1).ctx = some (inSegment 2 2232 60006 141025 false) ∧ flowing.isActive 1 = true ∧
      flowing.trace.reservation.get 1 = some { buffer := .a, cycle := 204 } ∧
      (let s : State := { flowing with sup := { flowing.sup with mode := .draining } }
       s.sup.mode = .draining ∧ s.isActive 1 = true ∧ ∀ k, k ≠ 1 → s.isActive k = false) := by decide +kernel

theorem witness_CutAccruesAndRemovesPower :
    (flowing.heads.get 1).ctx = some (inSegment 2 2232 60006 141025 false) := by decide +kernel

theorem witness_RecordCarriesTheContext : (inSegment 8 0 0 0 false).summaries.length ≤ 8 := by decide +kernel

theorem witness_DispatchExpiryServesItsParticipants :
    let s : State := { bursting 250 25 false 1073 with
      disp := { (bursting 250 25 false 1073).disp with lastExpiry := 1063, nextExpiry := 1073, shortfall := ⟨4, 4, 0, 0, 0, 0⟩ } }
    reached s.disp.timestamp s.disp.nextExpiry = true ∧ s.disp.request.get 0 = none ∧
      s.disp.request.get 1 = some { request := 290, cls := .class0 } ∧
      (s.disp.shortfall.get 1 = s.store.settings.reliefThreshold ∧ 0 < 290) ∧
      (s.store.inForce.get 1).driveType = .burst ∧ (s.drives.get 1).windowStart ≠ none ∧
      (ramping.disp.request.get 1).isSome = true ∧ (ramping.store.inForce.get 1).driveType = .level := by decide +kernel

theorem witness_DivisionServesTheClassesInOrder :
    let ps := parts [some (300, .class2), some (200, .class1), some (100, .class0)]
    let total (c : ServeClass) : Nat := (sixInOrder.map fun h => if memberOf ps c h then requestOf ps h else 0).sum
    total .class2 + total .class1 + total .class0 ≤ 600 ∧ 299 < total .class2 ∧
      (total .class2 ≤ 300 ∧ 300 < total .class2 + total .class1) ∧
      (total .class2 + total .class1 ≤ 500 ∧ 500 < total .class2 + total .class1 + total .class0) ∧
      ({ grants := PerSix.const 0, remainder := 700, pointer := 4 } : Division).remainder <
        classSum (parts [some (199, .class0), some (101, .class0), some (299, .class0), none, some (0, .class0),
          some (401, .class0)]) .class0 := by decide +kernel

theorem witness_BurstWindowsAndCommandFrames :
    let s := bursting 400 62 true 1073
    (s.drives.get 1).windowStart = some 1010 ∧ (s.disp.grant.get 1).grant ≤ (s.store.inForce.get 1).maxPower ∧
      reached s.disp.timestamp (1010 + BitVec.ofNat 32 (s.store.inForce.get 1).burstWindow) = true ∧
      ((s.drives.get 1).onRunning = true ∧ (s.drives.get 1).onTime < (s.store.inForce.get 1).burstWindow ∧
        reached s.disp.timestamp (1010 + BitVec.ofNat 32 (s.drives.get 1).onTime) = true) ∧
      ((bursting 400 63 true 1073).store.inForce.get 1).burstWindow ≤ ((bursting 400 63 true 1073).drives.get 1).onTime ∧
      (((ready.modDrive 0 fun d => d.command (.level 5)).drives.get 0).inProgress ≠ none) ∧
      (ready.drives.get 0).inProgress = none := by decide +kernel

theorem witness_DriveStatusReachesItsHead :
    let c := inSegment 0 2 51204 51204 false
    let s := ramping.modDrive 1 fun d => { d with timer := some 0 }
    s.sup.mode ≠ .starting ∧ (s.drives.get 1).state ≠ .tripped ∧ (s.heads.get 1).state = .heating ∧
      (s.heads.get 1).ctx = some c ∧ c.dry = false ∧ (s.drives.get 1).timer = some 0 ∧ (s.drives.get 1).state ≠ .unknown ∧
      (ready.heads.get 1).state ≠ .heating ∧ (readyIn .starting).sup.mode = .starting := by decide +kernel

/-- The indexer has the part's own address, so snoop is off (R162). -/
def snoopless : State :=
  { ready with store := { ready.store with settings := { ready.store.settings with indexer := 9 } } }
/-- The same with a reply pending. -/
def owing : State := after (.status []) snoopless

theorem witness_CabinetAndIndexReachEveryHead :
    ramping.cabinet = .ready ∧ ({ ramping with cabinet := .notReady } : State).cabinet = .notReady ∧
      ((ramping.heads.get 1).state = .heating ∧ (ramping.heads.get 1).ctx = some (inSegment 0 2 51204 51204 false)) ∧
      (ramping.heads.get 0).state ≠ .heating ∧
      (ramping.line.txEnable = false ∧ ramping.line.spoiled = false ∧ ramping.store.settings.indexer ≠ ramping.line.strap.toNat ∧
        ramping.sup.mode ≠ .starting) ∧
      (readyIn .starting).sup.mode = .starting ∧ (holding.heads.get 1).state = .hold ∧ holding.isActive 0 = false ∧
      (snoopless.takes ∧ snoopless.store.settings.indexer = snoopless.line.strap.toNat) ∧
      (owing.line.txEnable = false ∧ owing.line.spoiled = false ∧ owing.store.settings.indexer = owing.line.strap.toNat ∧
        owing.line.reply ≠ .none) ∧
      ({ ready with line := { ready.line with spoiled := true } } : State).line.spoiled = true ∧
      ({ ready with line := { ready.line with txEnable := true } } : State).line.txEnable = true := by
  unfold State.takes
  decide +kernel

/-- A character stored clean. -/
def stored (b : Byte) (mark : Bool) : FifoChar := { data := b, mark := mark, tag := .clean }

/-- A link whose FIFO is full, with its last unit still in reception or closed. -/
def fullLink (opened : Bool) : StationLink :=
  let u := List.replicate 64 (stored 0 false)
  { StationLink.reset false with
    state := .running, closed := if opened then [] else [u], opened := if opened then some u else none }

theorem witness_CharactersAreStoredInUnits :
    let k := (ready.modLink 3 fun k => { k with opened := some [stored 0x10 true] }).links.get 3
    ((ready.links.get 3).state = .running ∧ (ready.links.get 3).spoiled = false ∧ (State.reset.links.get 3).state = .halted ∧
      isAbortAll { data := 0x10, mark := true, framing := false } = false ∧
      isAbortAll { data := 15, mark := false, framing := false } = false ∧ (ready.links.get 3).discard = false ∧
      (ready.links.get 3).fifoCount < 64 ∧ (ready.links.get 3).opened = none ∧ k.opened = some [stored 0x10 true] ∧
      k.state = .running ∧ k.spoiled = false ∧ k.discard = false ∧ k.fifoCount < 64) ∧
    ((fullLink true).state = .running ∧ (fullLink true).spoiled = false ∧ (fullLink true).discard = false ∧
      64 ≤ (fullLink true).fifoCount ∧ (fullLink true).opened = some (List.replicate 64 (stored 0 false)) ∧
      ((fullLink false).opened = none ∧ 64 ≤ (fullLink false).fifoCount ∧
        (fullLink false).closed = [] ++ [List.replicate 64 (stored 0 false)]) ∧
      ({ ready.links.get 0 with discard := true } : StationLink).fifoCount < 64 ∧
      isAbortAll { data := 0x3F, mark := false, framing := false } = false) ∧
    (let t := ready.modLink 3 fun k => { k with spoiled := true }
     (t.links.get 3).state = .running ∧ (t.links.get 3).spoiled = true) := by decide +kernel

theorem witness_AbortAllStopsTheHeadsOfItsLink :
    (ramping.links.get 1).state = .running ∧ (ramping.links.get 1).spoiled = false ∧
      (ramping.store.inForce.get 1).owner = some 1 ∧ ramping.isActive 1 = true ∧
      (ramping.heads.get 1).ctx = some (inSegment 0 2 51204 51204 false) ∧ (ramping.store.inForce.get 0).owner ≠ some 1 ∧
      ((after (.stationCharacter 1 { data := 0x10, mark := true, framing := false }) ready).links.get 1).interTimer ≠ none := by
  decide +kernel

/-- A link that is RUNNING, with room and no notice, serves its only unit. -/
theorem serves_withUnit (l : LinkId) (u : List FifoChar) : (withUnit l u ready).serves l u := by
  have hr : ∀ l, (ready.links.get l).state = .running ∧ (ready.links.get l).txQueue.length < 8 := by decide +kernel
  have hn : ∀ h l, ready.noticeFor l h = false := by decide +kernel
  refine ⟨?_, ?_, fun h => hn h l, [], ?_⟩
  · simpa [withUnit] using (hr l).1
  · simpa [withUnit] using (hr l).2
  · simp [withUnit]

theorem witness_TakenUnitsAreJudgedInOrder :
    let q := unitOf 0x13 [0]
    (withUnit 0 q ready).serves 0 q ∧ q.length = 3 + 1 ∧
      judgeUnit (q.map fun x => { x with tag := .overrunFollow }) = .error .overrun ∧ judgeUnit (q.take 3) = .error .format ∧
      judgeUnit (q.map fun x => { x with tag := .framing }) = .error .check ∧
      judgeUnit (q.map fun x => { x with data := x.data + 1 }) = .error .format ∧
      judgeUnit (unitOf 0x14 []) = .error .unknownKind ∧ judgeUnit (unitOf 0x10 [0]) = .error .format ∧ judgeUnit q = .query [0] :=
  ⟨serves_withUnit _ _, by decide +kernel⟩

/-- A START of code 2210 for a head byte. -/
def startUnit (head : Byte) : List FifoChar := unitOf 0x10 ([head] ++ le16 2210 ++ le32 880015)

theorem witness_StartRefusedByItsFirstFailure :
    let p : List Byte := [1] ++ le16 2210 ++ le32 880015
    (withUnit 1 (startUnit 1) ready).serves 1 (startUnit 1) ∧ judgeUnit (startUnit 1) = .start p ∧
      judgeUnit (startUnit 6) = .start ([6] ++ p.drop 1) ∧ u16At p 1 ≠ 0 ∧ u16At p 1 ≠ 65535 ∧
      (readyIn .standby).startFailure 1 1 = some .mode ∧ ready.startFailure 2 1 = some .notOwner ∧
      ({ ready with sup := { ready.sup with enable := PerSix.const false } } : State).startFailure 1 1 = some .headDisabled ∧
      ramping.startFailure 1 1 = some .busy ∧
      (ready.modFront 1 fun f => { f with calValid := false }).startFailure 1 1 = some .calInvalid ∧
      (ready.modFront 1 fun f => { f with sensor := .stale }).startFailure 1 1 = some .noSensor ∧
      ({ ready with cabinet := .notReady } : State).startFailure 1 1 = some .cabinetDown ∧
      (ready.modDrive 1 fun d => { d with state := .notReady }).startFailure 1 1 = some .driveNotReady ∧
      ready.startFailure 1 1 = none ∧
      (let full : State := { ready with trace := { ready.trace with
          a := { ready.trace.a with used := 4000, reserved := 96 }, b := { ready.trace.b with state := .full, count := 1 } } }
       full.trace.filling = some .a ∧ (full.trace.get .a).free < 48 ∧ (full.trace.get BufferId.a.other).state = .full) :=
  ⟨serves_withUnit _ _, by decide +kernel⟩

theorem witness_StartAcceptedBeginsACycle :
    let p : List Byte := [1] ++ le16 2210 ++ le32 880015
    let s := withUnit 1 (startUnit 1) ready
    let replays : State := { (readyIn .service) with
      store := { ready.store with inForce := ready.store.inForce.modify 1 fun f => { f with source := .replay } } }
    let near : State := { ready with trace := { ready.trace with a := { ready.trace.a with used := 4049, count := 1 } } }
    s.serves 1 (startUnit 1) ∧ judgeUnit (startUnit 1) = .start p ∧ (p.headD 0).toNat = (1 : HeadId).val ∧
      s.startFailure 1 1 = none ∧ s.trace.filling = some .a ∧ 48 ≤ (s.trace.get .a).free ∧
      (s.store.port = .idle ∧ s.store.queue = [] ∧ s.store.supervisor = none) ∧ (stocked s).store.slotOf 2210 = some 5 ∧
      s.store.slotOf 2210 = none ∧ looking.store.port ≠ .idle ∧
      (replays.startFailure 1 1 = none ∧ replays.sup.mode = .service ∧ (replays.store.inForce.get 1).source = .replay ∧
        (replays.sup.replayTable.getD 0 { raw := 0, status := .low }).status ≠ .weak) ∧
      (near.trace.filling = some .a ∧ (near.trace.get .a).free < 48 ∧ (near.trace.get BufferId.a.other).state = .empty) :=
  ⟨serves_withUnit _ _, by decide +kernel⟩

theorem witness_StationRequestsActOnTheirHead :
    let b := unitOf 0x11 [1]
    let r := unitOf 0x12 [1]
    let q := unitOf 0x13 [5]
    let done : State := finishedH1.modHead 1 fun h => { h with notice := false }
    ((withUnit 1 b ready).serves 1 b ∧ (withUnit 1 r ready).serves 1 r ∧ (withUnit 1 q ready).serves 1 q) ∧
      judgeUnit b = .abort [1] ∧ judgeUnit r = .release [1] ∧ judgeUnit q = .query [5] ∧
      judgeUnit (unitOf 0x11 [6]) = .abort [6] ∧ judgeUnit (unitOf 0x12 [6]) = .release [6] ∧
      judgeUnit (unitOf 0x13 [6]) = .query [6] ∧
      ((ready.store.inForce.get 1).owner = some 1 ∧ ready.isActive 1 = false ∧ ramping.isActive 1 = true) ∧
      ((done.heads.get 1).state = .done ∧ (done.heads.get 1).ctx = some { cycle204 false with result := some .good } ∧
        done.store.deferred.get 1 = false ∧ ∀ h, done.noticeFor 1 h = false) ∧
      (ready.heads.get 5).ctx = none :=
  ⟨⟨serves_withUnit _ _, serves_withUnit _ _, serves_withUnit _ _⟩, by decide +kernel⟩

/-- Link S1 with two frames waiting, the oldest in transmission from this position on. -/
def sendingS1 (position : Option Nat) (paused : Bool) : StationLink :=
  { ready.links.get 1 with txQueue := [.accept 1 204, .accept 1 204], sending := position, paused := paused }

theorem witness_NoticesAndTransmitter :
    let c := { cycle204 false with result := some .good }
    let f : StationFrame := .accept 1 204
    ((finishedH1.links.get 1).state = .running ∧ (finishedH1.links.get 1).txQueue.length < 8 ∧
      ((finishedH1.heads.get 1).notice = true ∧ (finishedH1.heads.get 1).ctx = some c ∧ c.link = 1 ∧
        ∀ k, k < (1 : HeadId) → finishedH1.noticeFor 1 k = false) ∧ ∀ h, ready.noticeFor 1 h = false) ∧
    ((sendingS1 (some 7) false).state = .running ∧ (sendingS1 (some 7) false).txQueue = f :: [f] ∧
      (sendingS1 (some 7) false).sending = some 7 ∧ (sendingS1 (some 7) false).paused = false) ∧
    (7 + 1 = f.characters.length ∧ 2 + 1 ≠ f.characters.length) ∧ (7 ≤ 7 ∧ 7 < f.characters.length) ∧
    ((sendingS1 (some 2) true).state = .running ∧ (sendingS1 (some 2) true).txQueue = f :: [f] ∧
      (sendingS1 (some 2) true).sending = some 2 ∧ (sendingS1 (some 2) true).paused = true) ∧
    (2 < 3 ∧ 2 + 1 < f.characters.length ∧ (sendingS1 (some 7) true).sending = some 7 ∧ ¬ 7 + 1 < f.characters.length) ∧
    ((sendingS1 none true).state = .running ∧ (sendingS1 none true).sending = none) ∧
    ((ready.links.get 1).state = .running ∧ (ready.links.get 1).paused = false ∧ (ready.links.get 1).sending = none) ∧
    (State.reset.links.get 1).state = .halted := by decide +kernel

theorem witness_FramesSentHaveTheirLayouts :
    (sendingS1 (some 7) false).txQueue = .accept 1 204 :: [.accept 1 204] ∧ (sendingS1 (some 7) false).sending = some 7 := by
  decide +kernel

theorem takes_readyIn (m : Mode) : (readyIn m).takes := by
  refine ⟨?_, ?_, ?_, ?_⟩ <;> revert m <;> intro m <;> cases m <;> decide +kernel

theorem witness_FramesAreTakenAndGated :
    ready.takes ∧ (readyIn .starting).takes ∧ ready.takesStarted ∧
      ({ ready with line := { ready.line with txEnable := true } } : State).line.txEnable = true ∧
      ({ ready with line := { ready.line with spoiled := true } } : State).line.spoiled = true ∧
      (State.reset.line.txEnable = false ∧ State.reset.line.spoiled = false ∧ State.reset.line.strap = 0) ∧ (readyIn .starting).sup.mode = .starting ∧
      (ready.sup.mode ≠ .standby ∧ ready.sup.mode ≠ .service) ∧ ∀ k ∈ CommandKind.all, k.code ≠ 0x29 :=
  ⟨takes_readyIn _, takes_readyIn _, ⟨takes_readyIn _, by decide +kernel⟩, by decide +kernel⟩

theorem witness_ReadingCommandsChangeNothing :
    ready.takes ∧ ready.takesStarted ∧ 5 < (6 : Byte).toNat ∧ 1 < (2 : Byte).toNat ∧ (ready.trace.get .a).count ≤ 0 ∧
      0 < ((after (.headEnable [1, 0]) ramping).trace.get .a).count ∧ (after (.headEnable [1, 0]) ramping).trace.a.records ≠ [] :=
  ⟨takes_readyIn _, ⟨takes_readyIn _, by decide +kernel⟩, by decide +kernel⟩

theorem witness_SupervisionCommandsSetTheirItem :
    let lengthOk (p : List Byte) : Bool := (List.range 41).any fun m => decide (1 ≤ m) && p.length == 3 + 3 * m
    ready.takes ∧ ready.takesStarted ∧ (readyIn .service).takes ∧ (readyIn .service).sup.mode = .service ∧
      (∀ h, (readyIn .service).isActive h = false) ∧
      (let s := withH1 .heating (inSegment 0 2 0 0 true) 602 (readyIn .service)
       s.isActive 1 = true ∧ ∀ k, k < (1 : HeadId) → s.isActive k = false) ∧
      ((5 : Byte).toNat = (5 : HeadId).val ∧ 5 < (6 : Byte).toNat ∧ 1 < (2 : Byte).toNat ∧ ¬1 < (1 : Byte).toNat) ∧
      (ramping.takesStarted ∧ ramping.isActive 1 = true ∧ (ramping.heads.get 1).ctx = some (inSegment 0 2 51204 51204 false) ∧
        ramping.isActive 5 = false) ∧
      (let p : List Byte := [255, 0, 1, 0, 0, 3]
       p.length = 3 + 3 * byteAt p 2 ∧ u16At p 0 + byteAt p 2 ≤ 256 ∧ 1 ≤ byteAt p 2 ∧ byteAt p 5 ≤ 3) ∧
      (let p : List Byte := [0, 1, 1, 0, 0, 0]; lengthOk p = true ∧ 255 < u16At p 0) ∧
      (let p : List Byte := [255, 0, 2, 0, 0, 0]; lengthOk p = true ∧ u16At p 0 ≤ 255 ∧ p.length ≠ 3 + 3 * byteAt p 2) ∧
      (let p : List Byte := [255, 0, 2, 0, 0, 0, 0, 0, 0]
       lengthOk p = true ∧ u16At p 0 ≤ 255 ∧ p.length = 3 + 3 * byteAt p 2 ∧ 256 < u16At p 0 + byteAt p 2) ∧
      (let p : List Byte := [254, 0, 2, 0, 0, 3, 0, 0, 4]
       lengthOk p = true ∧ u16At p 0 + byteAt p 2 ≤ 256 ∧ p.length = 3 + 3 * byteAt p 2 ∧ 1 < byteAt p 2 ∧
         3 < byteAt p (5 + 3 * 1) ∧ byteAt p (5 + 3 * 0) ≤ 3) ∧
      (readyIn .service).sup.replayTable.length = 256 :=
  ⟨takes_readyIn _, ⟨takes_readyIn _, by decide +kernel⟩, takes_readyIn _, by decide +kernel, by decide +kernel,
    by decide +kernel, by decide +kernel, ⟨⟨takes_readyIn .production, by decide +kernel⟩, by decide +kernel⟩, by decide +kernel⟩

theorem witness_SetModeFollowsItsTable :
    ((readyIn .standby).takesStarted ∧ (readyIn .production).takesStarted ∧ (readyIn .draining).takesStarted ∧
        (readyIn .service).takesStarted) ∧
      (readyIn .standby).sup.restart = false ∧ (∃ h, ramping.isActive h = true) ∧ (∀ h, ready.isActive h = false) ∧
      (let s := withH1 .heating (inSegment 0 2 0 0 true) 602 (readyIn .service)
       s.isActive 1 = true ∧ (s.heads.get 1).ctx = some (inSegment 0 2 0 0 true) ∧ (inSegment 0 2 0 0 true).dry = true) :=
  ⟨⟨⟨takes_readyIn _, by decide +kernel⟩, ⟨takes_readyIn _, by decide +kernel⟩, ⟨takes_readyIn _, by decide +kernel⟩,
    ⟨takes_readyIn _, by decide +kernel⟩⟩, by decide +kernel⟩

theorem witness_ClearEndsEveryCycle :
    ramping.takesStarted ∧ ramping.isActive 1 = true ∧ (ramping.heads.get 1).ctx = some (inSegment 0 2 51204 51204 false) ∧
      ramping.isActive 0 = false ∧ (ramping.heads.get 1).state = .heating ∧ (ramping.heads.get 0).state ≠ .heating ∧
      (let e : LookupEntry := { head := 1, cycle := 204, code := 2210 }
       let s : State := { looking with store := { looking.store with port := .supervisor, queue := [e, { e with head := 2 }] } }
       e ∈ s.store.queue ∧ (s.heads.get 1).state = .lookup ∧ (s.heads.get 2).state ≠ .lookup) :=
  ⟨⟨takes_readyIn .production, by decide +kernel⟩, by decide +kernel⟩

/-- A body at the bounds Table 1.3 gives, with these segment entries. -/
def bodyOf (code count maxTemp cycleTime low high kp ki lag : Nat) (segments : List (List Nat)) : List Byte :=
  le16 code ++ le8 count ++ le16 maxTemp ++ le32 cycleTime ++ le16 low ++ le16 high ++ le16 kp ++ le16 ki ++ le16 lag ++
    (segments.map fun g => le8 (g.getD 0 0) ++ le16 (g.getD 1 0) ++ le16 (g.getD 2 0) ++ le16 (g.getD 3 0) ++
      le16 (g.getD 4 0) ++ le16 (g.getD 5 0) ++ le16 (g.getD 6 0)).flatten

/-- A FLOW within its bounds, and a HOLD. -/
def flow0 : List Nat := [2, 1000, 1, 600, 600, 10, 65535]
def hold0 : List Nat := [3, 0, 1, 0, 0, 500, 0]

-- Table 1.3: each bound passes, and one beyond it fails with its field number
theorem witness_FieldTestsAtTheHeaderBounds :
    let least := bodyOf 1 1 1000 1000 65535 0 0 0 0 [flow0]
    let most := bodyOf 65534 1 12000 120000 9 9 4095 4095 10000 [[0, 12000, 60000, 1, 0, 500, 0]]
    (least.length = 19 + 13 * 1 ∧ most.length = 19 + 13 * 1) ∧
      recipeFailure 0 least = none ∧ recipeFailure 47 most = none ∧ recipeFailure 48 least = some 255 ∧
      recipeFailure 0 (bodyOf 0 1 1000 1000 0 0 0 0 0 [flow0]) = some 0 ∧
      recipeFailure 0 (bodyOf 65535 1 1000 1000 0 0 0 0 0 [flow0]) = some 0 ∧
      recipeFailure 0 (bodyOf 1 0 1000 1000 0 0 0 0 0 []) = some 1 ∧
      recipeFailure 0 (bodyOf 1 2 1000 1000 0 0 0 0 0 [flow0]) = some 1 ∧
      recipeFailure 0 (bodyOf 1 9 1000 1000 0 0 0 0 0 (List.replicate 9 flow0)) = some 1 ∧
      recipeFailure 0 (bodyOf 1 8 1000 1000 0 0 0 0 0 (List.replicate 8 flow0)) = none ∧
      recipeFailure 0 (bodyOf 1 1 999 1000 0 0 0 0 0 [flow0]) = some 2 ∧
      recipeFailure 0 (bodyOf 1 1 12001 1000 0 0 0 0 0 [flow0]) = some 2 ∧
      recipeFailure 0 (bodyOf 1 1 1000 999 0 0 0 0 0 [flow0]) = some 3 ∧
      recipeFailure 0 (bodyOf 1 1 1000 120001 0 0 0 0 0 [flow0]) = some 3 ∧
      recipeFailure 0 (bodyOf 1 1 1000 1000 10 9 0 0 0 [flow0]) = some 5 ∧
      recipeFailure 0 (bodyOf 1 1 1000 1000 0 9 4096 0 0 [flow0]) = some 6 ∧
      recipeFailure 0 (bodyOf 1 1 1000 1000 0 0 0 4096 0 [flow0]) = some 7 ∧
      recipeFailure 0 (bodyOf 1 1 1000 1000 0 0 0 0 10001 [flow0]) = some 8 := by decide +kernel

theorem witness_FieldTestsAtTheSegmentBounds :
    let one (g : List Nat) : Option Nat := recipeFailure 0 (bodyOf 1 1 1000 120000 0 0 0 0 0 [g])
    let two (g k : List Nat) (time : Nat) : Option Nat := recipeFailure 0 (bodyOf 1 2 1000 time 0 0 0 0 0 [g, k])
    two flow0 hold0 1000 = none ∧ one hold0 = some 16 ∧ one [4, 0, 1, 1, 0, 10, 0] = some 16 ∧ two hold0 flow0 1000 = some 16 ∧
      two flow0 [4, 0, 1, 1, 0, 10, 0] 1000 = some 24 ∧ one [0, 1001, 1, 1, 0, 10, 0] = some 17 ∧
      one [0, 0, 0, 1, 0, 10, 0] = some 18 ∧ one [0, 0, 60000, 1, 0, 10, 0] = none ∧ one [0, 0, 60001, 1, 0, 10, 0] = some 18 ∧
      one [0, 0, 1, 0, 0, 10, 0] = some 19 ∧ one [0, 0, 1, 601, 0, 10, 0] = some 19 ∧
      two flow0 [3, 0, 1, 1, 0, 10, 0] 1000 = some 27 ∧ one [0, 0, 1, 5, 6, 10, 0] = some 20 ∧
      one [0, 0, 1, 5, 5, 9, 0] = some 21 ∧ one [0, 0, 1, 5, 5, 500, 0] = none ∧ one [0, 0, 1, 5, 5, 501, 0] = some 21 ∧
      one [1, 0, 1, 5, 5, 10, 1] = some 22 ∧
      two [0, 0, 600, 1, 0, 10, 0] [0, 0, 400, 1, 0, 10, 0] 1000 = none ∧
      two [0, 0, 600, 1, 0, 10, 0] [0, 0, 401, 1, 0, 10, 0] 1000 = some 3 := by decide +kernel

theorem witness_FieldTestsOfCalibration :
    let cal (points : List Nat) (offset : Int) : Option Nat :=
      firstFailing (calibrationTests ((points.map le16).flatten ++ leSigned16 offset))
    let level (n : Nat) : List Nat := List.replicate 17 n
    cal (level 12000) (-500) = none ∧ cal (level 0) 500 = none ∧ cal (level 12001) 0 = some 0 ∧
      cal ((level 5).set 16 4) 0 = some 16 ∧ cal ((level 5).set 0 6) 0 = some 1 ∧ cal (level 5) (-501) = some 17 ∧
      cal (level 5) 501 = some 17 := by decide +kernel

-- Table 11.8: each bound passes, and one beyond it fails with its field number
theorem witness_FieldTestsOfSettings :
    let good := factorySettings.bytes
    let narrow (at_ : Nat) (values : List Nat) : List (Option Nat) :=
      values.map fun v => firstFailing (settingsTests (good.set at_ (BitVec.ofNat 8 v)))
    let wide (at_ : Nat) (values : List Nat) : List (Option Nat) :=
      values.map fun v => firstFailing (settingsTests ((good.set at_ (BitVec.ofNat 8 v)).set (at_ + 1) (BitVec.ofNat 8 (v / 256))))
    (narrow 45 [5, 6, 255] = [none, some 35, none] ∧ narrow 10 [1, 2] = [none, some 8] ∧
        wide 2 [10, 9, 600, 601] = [none, some 2, none, some 2] ∧ narrow 13 [1, 2] = [none, some 10] ∧
        wide 5 [20, 19, 500, 501] = [none, some 4, none, some 4] ∧ narrow 16 [10, 9, 250, 251] = [none, some 12, none, some 12] ∧
        narrow 17 [1, 2] = [none, some 13]) ∧
      wide 54 [2400, 2401] = [none, some 42] ∧ narrow 56 [5, 10, 20, 40, 41] = [none, none, none, none, some 43] ∧
      narrow 57 [2, 1, 15, 16] = [none, some 44, none, some 44] ∧ narrow 58 [20, 19, 200, 201] = [none, some 45, none, some 45] ∧
      narrow 59 [3, 4] = [none, some 46] ∧ narrow 60 [63, 64, 7] = [none, some 47, some 47] ∧
      narrow 61 [(good.getD 60 0).toNat - 8, (good.getD 60 0).toNat - 7] = [none, some 48] ∧
      narrow 62 [2, 3] = [none, some 49] ∧ narrow 63 [15, 16] = [none, some 50] ∧
      narrow 64 [1, 0, 31, 32] = [none, some 51, none, some 51] := by decide +kernel

theorem witness_StoreCommandsTakeTheSupervisorSlot :
    (readyIn .standby).takesStarted ∧ (busyWith (.recipeRead 5) ready).store.supervisor ≠ none ∧ ready.store.supervisor = none ∧
      CommandKind.writeRecipe.lengthOk ([47] ++ body2210).length = true ∧ recipeFailure 47 body2210 = none ∧
      recipeFailure 48 body2210 = some 255 ∧ (stocked ready).store.slotOf 2210 = some 5 ∧
      (ready.store.port = .idle ∧ ready.store.queue = []) ∧ ready.store.slotStatus.getD 47 .valid = .empty ∧
      (stocked ready).store.slotStatus.getD 5 .empty = .valid ∧
      firstFailing (calibrationTests straight.bytes) = none ∧ straight.bytes.length + 1 = 37 ∧
      firstFailing (calibrationTests (List.replicate 36 0xFF)) = some 0 ∧
      firstFailing (settingsTests factorySettings.bytes) = none ∧ factorySettings.bytes.length = 65 ∧
      firstFailing (settingsTests (List.replicate 65 0)) = some 2 :=
  ⟨⟨takes_readyIn _, by decide +kernel⟩, by decide +kernel⟩

theorem witness_TraceCommandsMoveTheBuffers :
    ready.takesStarted ∧ 1 < (2 : Byte).toNat ∧ (ready.trace.get .a).state ≠ .full ∧
      (({ ready with trace := { ready.trace with b := TraceBuffer.blank .full } } : State).trace.get .b).state = .full ∧
      (ready.trace.filling = some .a ∧ ready.trace.a.count = 0 ∧ ready.trace.a.reserved = 0) ∧
      (ramping.trace.filling = some .a ∧ ramping.trace.a.reserved ≠ 0 ∧ (ramping.trace.get BufferId.a.other).state = .empty) ∧
      ({ ready with trace := { ready.trace with a := TraceBuffer.blank .full, b := TraceBuffer.blank .full } } : State).trace.filling
        = none :=
  ⟨⟨takes_readyIn _, by decide +kernel⟩, by decide +kernel⟩

theorem witness_ReceiversAndLineTimers :
    let s := after (.lineCharacter (heard { data := 9, mark := true, framing := false })) ready
    let w := after (.status []) ready
    s.line.frameTimer ≠ none ∧ (w.line.turnaround ≠ none ∧ w.line.reply = .waiting) ∧
      (let f := after (.readRecipe [5]) (stocked ready); f.line.turnaround ≠ none ∧ f.line.reply = .forming) ∧
      (after .turnaroundExpiry w).line.reply = .sending ∧ ready.line.turnaround = none ∧ ready.line.txEnable = false ∧
      ready.line.spoiled = false ∧ ({ ready.line with spoiled := true } : LineLink).txEnable = false ∧
      ready.line.rx = none ∧ (ready.fronts.get 0).rx = none ∧ (ready.drives.get 0).rx = none := by decide +kernel

theorem witness_CharactersMakeUpTheirFrame :
    ((255 < 256 ∧ (List.replicate 128 (0 : Byte)).length ≤ 128 ∧ ready.line.txEnable = false) ∧ ready.line.strap ≠ 0) ∧
      128 < (129 : Byte).toNat ∧
      (([0xF7] : List Byte).length = (0 : Byte).toNat + 1 ∧
        ((([9, 0x01, 0] ++ [0xF7] : List Byte).map BitVec.toNat).sum) % 256 ≠ 0) ∧
      (List.replicate 129 (1 : Byte)).length = (128 : Byte).toNat + 1 ∧
      -- R162: the indexer address 31 with snoop on, the supervisor's own address 0, and the strap address 9
      ((31 = ready.store.settings.indexer ∧ 31 ≠ ready.line.strap.toNat ∧ ready.sup.mode ≠ .starting) ∧ leWord32 70412 = [0x0C, 0x13, 1, 0] ∧
        (0 ≠ ready.store.settings.indexer ∧ 0 ≠ ready.line.strap.toNat) ∧ (readyIn .starting).sup.mode = .starting) ∧
      ((([9, 0x01, 128] ++ List.replicate 129 1 : List Byte).map BitVec.toNat).sum) % 256 ≠ 0 ∧
      -- R184: a good sample of each receiver, and the same frame with a framing error in its check character
      (sampleOf (asCharacters [0x53, 1, 2, 0xAA]), sampleOf (asCharacters [0x54, 1, 2, 0xA9]),
          sampleOf ((asCharacters [0x53, 1, 2]) ++ [{ data := 0xAA, mark := false, framing := true }]))
        = (.good .weak 0x0201, .bad, .bad) ∧
      (statusOf (asCharacters [0x70, 2, 0x8E]), statusOf (asCharacters [0x70, 3, 0x8D]), statusOf (asCharacters [0x71, 2, 0x8D]))
        = (.good .tripped, .bad, .bad) := by decide +kernel

/-! ### A state with a cycle in HEATING that meets every invariant, and a step from it -/

theorem ramping_heads : ramping.HeadsSound := by
  unfold State.HeadsSound
  decide +kernel

theorem ramping_others : ∀ h, h ≠ 1 → (ramping.heads.get h).ctx = none := by decide +kernel

theorem ramping_context : (ramping.heads.get 1).ctx = some (inSegment 0 2 51204 51204 false) := by decide +kernel

/-- A property of every context of `ramping` is a property of H1's. -/
theorem ramping_only {P : HeadId → Context → Prop} (h1 : P 1 (inSegment 0 2 51204 51204 false)) :
    ∀ h c, (ramping.heads.get h).ctx = some c → P h c := by
  intro h c hc
  by_cases hh : h = 1
  · subst hh
    rw [ramping_context] at hc
    exact Option.some.inj hc ▸ h1
  · rw [ramping_others h hh] at hc
    cases hc

theorem ramping_power : ramping.PowerSafe ∧ ramping.FramesFollowOutput := by
  have quiet : ∀ h, (ramping.drives.get h).waiting = none ∧ (ramping.drives.get h).inProgress = none := by decide +kernel
  refine ⟨?_, ?_⟩
  · unfold State.PowerSafe
    decide +kernel
  · intro h
    simp [quiet h]

theorem witness_PowerOnlyWhileHeating :
    let s : State := { ramping with pending := [.timestampTick] }
    (s.HeadsSound ∧ s.PowerSafe ∧ s.FramesFollowOutput) ∧ s.driven 1 = true ∧ step s = .next (after .timestampTick ramping) :=
  ⟨⟨ramping_heads, ramping_power⟩, by decide +kernel, rfl⟩

theorem witness_CyclesStaySound :
    ramping.HeadsSound ∧ ramping.CyclesSound ∧ ramping.LoopsSound ∧ ramping.CeilingsSound := by
  refine ⟨ramping_heads, ?_, fun h => ⟨?_, ?_⟩, by decide +kernel, ?_⟩
  · exact ramping_only ⟨by decide +kernel, by decide +kernel, by decide +kernel, recipe2210, by decide +kernel⟩
  · intro _ c r g hr
    have h1 := ramping_only (P := fun h c => h = 1 ∧ c = inSegment 0 2 51204 51204 false) ⟨rfl, rfl⟩
    rw [State.running_iff] at hr
    obtain ⟨rfl, rfl⟩ := h1 _ _ hr.1
    obtain ⟨_, h2, h3⟩ := hr
    cases h2
    obtain rfl : segment0 = g := Option.some.inj h3
    refine ⟨by decide +kernel, by decide +kernel, ?_⟩
    intro e he
    have : e = { request := 290, cls := .class0 } := (Option.some.inj he).symm
    subst this
    decide +kernel
  · have : ∀ h, (ramping.heads.get h).state ≠ .hold := by decide +kernel
    exact fun hh => absurd hh (this h)
  · intro h c r _ hc hr
    have h1 := ramping_only (P := fun h c => h = 1 ∧ c = inSegment 0 2 51204 51204 false) ⟨rfl, rfl⟩
    obtain ⟨rfl, rfl⟩ := h1 _ _ hc
    cases hr
    decide +kernel

theorem witness_FrontEndsStaySound : ramping.FrontsSound := by
  have cal : ∀ h, (ramping.fronts.get h).calibration = straight := by decide +kernel
  have sound : straight.sound := ⟨by decide +kernel, by decide +kernel, by decide +kernel, by decide +kernel, by decide +kernel⟩
  have temp : ∀ h, (ramping.fronts.get h).temperature = some 6750 := by decide +kernel
  refine ⟨by decide +kernel, fun h body started hb => ?_, fun h => ⟨?_, fun t ht => ?_, ?_⟩⟩
  · cases hb
  · rw [cal h]
    exact sound
  · rw [temp h] at ht
    cases ht
    decide
  · revert h
    decide +kernel

theorem witness_DispatcherStaysWithinItsBounds : ramping.HeadsSound ∧ ramping.DispatchSound := by
  refine ⟨ramping_heads, by decide +kernel, by decide +kernel, by decide +kernel, by decide +kernel, by decide +kernel,
    by decide +kernel, ?_⟩
  intro body started h
  cases h

theorem witness_LinksStaySound : ramping.LinksSound ∧ ramping.LineSound := by
  refine ⟨?_, by decide +kernel, by decide +kernel, by decide +kernel, ?_, by decide +kernel, by decide +kernel, by decide +kernel⟩
  · unfold State.LinksSound
    decide +kernel
  · constructor
    · intro h
      cases h
    · rintro ⟨_, _, h⟩
      cases h

theorem witness_ModesAndIndexStaySound : ramping.HeadsSound ∧ ramping.ModesSound ∧ ramping.IndexSound := by
  refine ⟨ramping_heads, ?_, by decide +kernel, by decide +kernel, by decide +kernel, by decide +kernel, by decide +kernel,
    fun e slot h => ?_, fun slot started h => ?_, ?_, by decide +kernel, ?_⟩
  · unfold State.ModesSound
    decide +kernel
  · cases h
  · rcases h with h | h <;> cases h
  · intro slot
    constructor
    · intro h
      have : ∀ x ∈ ramping.store.slotStatus, x ≠ .valid := by decide +kernel
      exact absurd rfl (this _ (List.mem_of_getElem? h))
    · rintro ⟨_, h, _⟩
      cases h
  · intro _ _ _ h
    cases h

theorem witness_TraceBuffersStaySound : ramping.HeadsSound ∧ ramping.CyclesSound ∧ ramping.TraceSound := by
  refine ⟨ramping_heads, witness_CyclesStaySound.2.1, ?_, ?_, ?_⟩
  · unfold TraceUnit.BufferSound
    decide +kernel
  · unfold TraceUnit.BufferSound
    decide +kernel
  · intro h
    refine ⟨by revert h; decide +kernel, ?_⟩
    intro r hr
    by_cases hh : h = 1
    · subst hh
      have : r = { buffer := .a, cycle := 204 } := (Option.some.inj hr).symm
      subst this
      exact ⟨_, ramping_context, by decide +kernel⟩
    · have : ∀ h, h ≠ 1 → ramping.trace.reservation.get h = none := by decide +kernel
      rw [this h hh] at hr
      cases hr

theorem witness_CycleNumbersStayUnique :
    let s : State := { ramping with disp := { ramping.disp with cycleCounter := 204 } }
    let last : State := { ramping with disp := { ramping.disp with cycleCounter := 4294967295 }, pending := [.timestampTick] }
    (s.disp.cycleCounter ≠ 4294967295 ∧ s.NumbersSound ∧ s.cycleNumbers = [204]) ∧
      last.NumbersSound ∧ step last = .next (after .timestampTick { last with pending := [] }) ∧
      (after .timestampTick { last with pending := [] }).disp.cycleCounter ≠ 1 := by
  refine ⟨⟨by decide +kernel, ⟨?_, ?_⟩, ?_⟩, ⟨?_, ?_⟩, rfl, ?_⟩ <;> decide +kernel

end Sys2Proof.Tests
end

section
/-! PROOFS. The table value of an OK sample (R29, R30): facts about the calibration points, about the share of a rise that lies
below a fraction, and about the interpolation built from them. -/

namespace Sys2Proof.Machine

/-! ### The share of a rise (R30): the product with a fraction of 4096, divided and rounded down -/

theorem share_lt_rise {rise : Int} {f : Nat} (hrise : 0 < rise) (hf : f < 4096) : rise * f / 4096 < rise := by
  have hf' : (f : Int) < 4096 := by exact_mod_cast hf
  exact Int.ediv_lt_of_lt_mul (by decide) (mul_lt_mul_of_pos_left hf' hrise)

theorem share_le_rise {rise : Int} {f : Nat} (hrise : 0 ≤ rise) (hf : f < 4096) : rise * f / 4096 ≤ rise := by
  rcases hrise.eq_or_lt with rfl | hpos
  · simp
  · exact (share_lt_rise hpos hf).le

theorem product_le_of_rise_le {rise : Int} {f : Nat} (hmax : rise ≤ 12000) (hf : f < 4096) :
    rise * f ≤ 49140000 := by
  have hf' : (f : Int) ≤ 4095 := by exact_mod_cast Nat.le_of_lt_succ hf
  calc rise * f ≤ 12000 * 4095 := mul_le_mul hmax hf' (Int.natCast_nonneg f) (by decide)
    _ = 49140000 := by decide

theorem segmentIndex_le (raw : Word16) : raw.toNat / 4096 ≤ 15 := by
  have := raw.isLt
  omega

namespace Calibration

variable {cal : Calibration}

/-! ### Points (R29) -/

theorem point_nonneg (cal : Calibration) (k : Nat) : 0 ≤ cal.point k := Int.natCast_nonneg _

/-- A point beyond the list reads 0, so the bound needs no range for `k`. -/
theorem point_le_of_forall_le {b : Nat} (hb : ∀ p ∈ cal.points, p ≤ b) (k : Nat) : cal.point k ≤ b := by
  unfold point
  rw [List.getD_eq_getElem?_getD, Int.ofNat_le]
  cases hk : cal.points[k]? with
  | none => exact Nat.zero_le b
  | some p => exact hb p (List.mem_of_getElem? hk)

theorem point_mono (hmono : ∀ k, k < 16 → cal.point k ≤ cal.point (k + 1)) {i j : Nat} (hij : i ≤ j) (hj : j ≤ 16) :
    cal.point i ≤ cal.point j := by
  induction j, hij using Nat.le_induction with
  | base => exact le_rfl
  | succ j _ ih => exact (ih (Nat.le_of_succ_le hj)).trans (hmono j hj)

/-! ### The interpolation (R30) -/

theorem interpolate_eq (cal : Calibration) (raw : Nat) :
    cal.interpolate raw = cal.point (raw / 4096) +
      (cal.point (raw / 4096 + 1) - cal.point (raw / 4096)) * (raw % 4096 : Nat) / 4096 := by
  have hf : raw - 4096 * (raw / 4096) = raw % 4096 := (Nat.mod_eq_sub_mul_div).symm
  simp only [interpolate, hf]

theorem interpolate_of_mod_eq_zero {raw : Nat} (h : raw % 4096 = 0) : cal.interpolate raw = cal.point (raw / 4096) := by
  simp [interpolate_eq, h]

theorem point_le_interpolate {raw : Nat} (hstep : cal.point (raw / 4096) ≤ cal.point (raw / 4096 + 1)) :
    cal.point (raw / 4096) ≤ cal.interpolate raw := by
  have hproduct := mul_nonneg (sub_nonneg.2 hstep) (Int.natCast_nonneg (raw % 4096))
  rw [interpolate_eq]
  exact le_add_of_nonneg_right (Int.ediv_nonneg hproduct (by decide))

theorem interpolate_le_point_succ {raw : Nat} (hstep : cal.point (raw / 4096) ≤ cal.point (raw / 4096 + 1)) :
    cal.interpolate raw ≤ cal.point (raw / 4096 + 1) := by
  have hshare := share_le_rise (sub_nonneg.2 hstep) (Nat.mod_lt raw (by decide : 4096 > 0))
  rw [interpolate_eq]
  omega

/-- Over a rise the interpolation falls short of the upper point. -/
theorem interpolate_lt_point_succ {raw : Nat} (hstep : cal.point (raw / 4096) < cal.point (raw / 4096 + 1)) :
    cal.interpolate raw < cal.point (raw / 4096 + 1) := by
  have hshare := share_lt_rise (sub_pos.2 hstep) (Nat.mod_lt raw (by decide : 4096 > 0))
  rw [interpolate_eq]
  omega

/-- In the last segment T16 is the upper point, which only a level segment reaches; in an earlier one the value is at most T15. -/
theorem point_15_eq_16_of_interpolate_eq (hmono : ∀ k, k < 16 → cal.point k ≤ cal.point (k + 1)) {raw : Nat}
    (hk : raw / 4096 ≤ 15) (htop : cal.interpolate raw = cal.point 16) : cal.point 15 = cal.point 16 := by
  apply (hmono 15 (by decide)).antisymm
  rcases hk.eq_or_lt with hlast | hearlier
  · by_contra hrise
    have hlt := interpolate_lt_point_succ (cal := cal) (raw := raw) (by rw [hlast]; exact not_le.1 hrise)
    rw [hlast] at hlt
    exact hlt.ne htop
  · calc cal.point 16 = cal.interpolate raw := htop.symm
      _ ≤ cal.point (raw / 4096 + 1) := interpolate_le_point_succ (hmono _ (Nat.lt_succ_of_le hk))
      _ ≤ cal.point 15 := point_mono hmono hearlier (by decide)

end Calibration

/-- Settles O14: the segment's rise lies within 0 to 12000 and the fraction below 4096, which bounds the product and its share. -/
theorem interpolationFollowsTheTable : Obligations.InterpolationFollowsTheTable := by
  intro cal raw _ hmax hmono
  have hk := segmentIndex_le raw
  have hf : raw.toNat % 4096 < 4096 := Nat.mod_lt _ (by decide)
  have hstep := hmono (raw.toNat / 4096) (Nat.lt_succ_of_le hk)
  have hrise := sub_nonneg.2 hstep
  have hriseMax : cal.point (raw.toNat / 4096 + 1) - cal.point (raw.toNat / 4096) ≤ 12000 :=
    (sub_le_self _ (cal.point_nonneg _)).trans (Calibration.point_le_of_forall_le hmax _)
  refine ⟨cal.interpolate raw.toNat, rfl, hk, Nat.le_of_lt_succ hf, cal.interpolate_eq _,
    mul_nonneg hrise (Int.natCast_nonneg _), product_le_of_rise_le hriseMax hf,
    Calibration.point_le_interpolate hstep, Calibration.interpolate_le_point_succ hstep, ?_,
    Calibration.interpolate_of_mod_eq_zero, Calibration.point_15_eq_16_of_interpolate_eq hmono hk⟩
  rintro rfl
  exact Calibration.interpolate_of_mod_eq_zero rfl

end Sys2Proof.Machine
end

section
/-! PROOFS. One run of the power loop (R75 to R79): the ranges of the clamp, of the proportional term, of the freeze, of the
accumulator and of the request, and the run assembled from them. -/

namespace Sys2Proof.Machine

/-! ### Clamping (00_scope.md section 5) -/

theorem le_clampInt (lo hi x : Int) : lo ≤ clampInt lo hi x := le_max_left _ _

theorem clampInt_le {lo hi : Int} (h : lo ≤ hi) (x : Int) : clampInt lo hi x ≤ hi := max_le h (min_le_left _ _)

theorem clampInt_of_mem {lo hi x : Int} (hlo : lo ≤ x) (hhi : x ≤ hi) : clampInt lo hi x = x := by
  rw [clampInt, min_eq_right hhi, max_eq_right hlo]

theorem clampAccumulator_mem (ceiling : Nat) (x : Int) :
    -(ceiling * 4096 : Int) ≤ clampAccumulator ceiling x ∧ clampAccumulator ceiling x ≤ ceiling * 4096 :=
  ⟨le_clampInt _ _ _, clampInt_le (by omega) _⟩

theorem clampAccumulator_zero (ceiling : Nat) : clampAccumulator ceiling 0 = 0 :=
  clampInt_of_mem (by omega) (by omega)

/-! ### Error and proportional term (R75) -/

theorem loopError_mem {t setpoint : Nat} (ht : t ≤ 12000) (hs : setpoint ≤ 12000) :
    -12000 ≤ loopError setpoint t ∧ loopError setpoint t ≤ 12000 := by
  unfold loopError
  omega

theorem gain_mul_error_mem {kp : Nat} {e : Int} (hkp : kp ≤ 4095) (hlo : -12000 ≤ e) (hhi : e ≤ 12000) :
    -49140000 ≤ kp * e ∧ kp * e ≤ 49140000 := by
  have habs : |(kp : Int) * e| ≤ 4095 * 12000 := by
    rw [abs_mul, Nat.abs_cast]
    exact mul_le_mul (by exact_mod_cast hkp) (abs_le.2 ⟨hlo, hhi⟩) (abs_nonneg e) (by decide)
  exact abs_le.1 habs

/-- The lower end is the quotient −191953.125 rounded down. -/
theorem proportional_mem {kp : Nat} {e : Int} (hlo : -49140000 ≤ kp * e) (hhi : kp * e ≤ 49140000) :
    -191954 ≤ proportional kp e ∧ proportional kp e ≤ 191953 := by
  unfold proportional
  omega

theorem proportional_zero_gain (e : Int) : proportional 0 e = 0 := by simp [proportional]

/-- Rounding down keeps the smallest negative error from vanishing. -/
theorem proportional_le_neg_one {kp : Nat} {e : Int} (hkp : 1 ≤ kp) (he : e < 0) : proportional kp e ≤ -1 := by
  have hproduct : (kp : Int) * e < 0 := mul_neg_of_pos_of_neg (by exact_mod_cast hkp) he
  exact Int.le_sub_one_of_lt (Int.ediv_neg_of_neg_of_pos hproduct (by decide))

/-! ### Freeze (R76, R77) -/

theorem GrantEntry.starves_iff (g : GrantEntry) : g.starves = true ↔ g.grant < g.served := decide_eq_true_iff

theorem judgeFreeze_eq_atCeiling_iff (l : LoopState) (g : GrantEntry) (e : Int) :
    judgeFreeze l g e = .atCeiling ↔ l.prevRequest = l.prevCeiling ∧ 0 < e := by
  unfold judgeFreeze
  split_ifs <;> simp_all

/-- The loop prepared for a cycle has previous request 0 under the first ceiling (R81), so the two differ. -/
theorem judgeFreeze_first_ne_atCeiling {g : Segment} (hceiling : 1 ≤ g.ceiling) (gr : GrantEntry) (e : Int) :
    judgeFreeze (LoopState.first g) gr e ≠ .atCeiling := by
  rw [Ne, judgeFreeze_eq_atCeiling_iff]
  rintro ⟨hrequest, _⟩
  have hzero : 0 = g.ceiling := hrequest
  omega

/-! ### Accumulator (R78) -/

theorem nextAccumulator_mem {l : LoopState} {ceiling : Nat} (hlo : -(ceiling * 4096 : Int) ≤ l.accumulator)
    (hhi : l.accumulator ≤ ceiling * 4096) (fz : Freeze) (ki : Nat) (e : Int) :
    -(ceiling * 4096 : Int) ≤ nextAccumulator l fz ki ceiling e ∧ nextAccumulator l fz ki ceiling e ≤ ceiling * 4096 := by
  unfold nextAccumulator
  split
  · exact clampAccumulator_mem ceiling _
  · exact ⟨hlo, hhi⟩

theorem nextAccumulator_eq_zero {l : LoopState} (hl : l.accumulator = 0) (fz : Freeze) (ceiling : Nat) (e : Int) :
    nextAccumulator l fz 0 ceiling e = 0 := by
  unfold nextAccumulator
  split
  · simp [hl, clampAccumulator_zero]
  · exact hl

/-! ### Request (R79) -/

theorem loopRequest_le_ceiling (feedForward ceiling : Nat) (p i : Int) : loopRequest feedForward ceiling p i ≤ ceiling :=
  Int.toNat_le.2 (clampInt_le (Int.natCast_nonneg ceiling) _)

theorem loopRequest_zero_terms {feedForward ceiling : Nat} (h : feedForward ≤ ceiling) :
    loopRequest feedForward ceiling 0 0 = feedForward := by
  have hclamp := clampInt_of_mem (Int.natCast_nonneg feedForward) (Int.ofNat_le.2 h)
  simp [loopRequest, hclamp]

/-! ### The run (R74) -/

namespace LoopState

theorem run_prevRequest_le_ceiling (l : LoopState) (r : Recipe) (g : Segment) (gr : GrantEntry) (t setpoint : Nat) :
    (l.run r g gr t setpoint).prevRequest ≤ g.ceiling :=
  loopRequest_le_ceiling _ _ _ _

/-- With both gains 0 the head asks for its feed-forward without feedback. -/
theorem run_prevRequest_of_zero_gains {l : LoopState} {r : Recipe} {g : Segment} (hkp : r.kp = 0) (hki : r.ki = 0)
    (hl : l.accumulator = 0) (hff : g.feedForward ≤ g.ceiling) (gr : GrantEntry) (t setpoint : Nat) :
    (l.run r g gr t setpoint).prevRequest = g.feedForward := by
  have hintegral : integralTerm 0 = 0 := rfl
  simp only [run, hkp, hki, nextAccumulator_eq_zero hl, proportional_zero_gain, hintegral, loopRequest_zero_terms hff]

end LoopState

/-- Settles O17: the freeze and the accumulator written out there are `judgeFreeze` and `nextAccumulator`, whose ranges the lemmas
above give. -/
theorem loopRunComputesTheRequest : Obligations.LoopRunComputesTheRequest := by
  intro l r g gr t setpoint e p c freeze a
  have hfreeze : freeze = judgeFreeze l gr e := by simp only [freeze, judgeFreeze, GrantEntry.starves_iff]
  have ha : a = nextAccumulator l (judgeFreeze l gr e) r.ki g.ceiling e := by simp only [a, hfreeze]; rfl
  refine ⟨?_, ?_, ?_, fun he hkp => proportional_le_neg_one hkp he, l.run_prevRequest_le_ceiling r g gr t setpoint, ?_,
    fun hkp hki hl hff => LoopState.run_prevRequest_of_zero_gains hkp hki hl hff gr t setpoint,
    fun hceiling => judgeFreeze_first_ne_atCeiling hceiling gr e⟩
  · rw [ha, hfreeze]
    rfl
  · intro ht hs hkp
    obtain ⟨heLo, heHi⟩ := loopError_mem ht hs
    obtain ⟨hprodLo, hprodHi⟩ := gain_mul_error_mem hkp heLo heHi
    exact ⟨heLo, heHi, hprodLo, hprodHi, proportional_mem hprodLo hprodHi⟩
  · intro hkp
    simp only [p, hkp]
    exact proportional_zero_gain e
  · intro hlo hhi
    rw [ha]
    exact nextAccumulator_mem hlo hhi _ _ _

end Sys2Proof.Machine
end

section
/-! PROOFS. The trace commands (R153, R154): the buffer a command names, what flush does to the trace unit, and the frames
of RELEASE_TRACE and FLUSH_TRACE. -/

namespace Sys2Proof.Machine

/-! ### The buffer a command names (8.5) -/

@[simp] theorem bufferOf_code (i : BufferId) : bufferOf i.code = some i := by cases i <;> rfl

theorem bufferOf_eq_none {n : Nat} (h : 1 < n) : bufferOf n = none := by
  unfold bufferOf
  split
  · omega
  · omega
  · rfl

@[simp] theorem byteAt_bufferCode (i : BufferId) : byteAt [BitVec.ofNat 8 i.code] 0 = i.code := by cases i <;> rfl

/-! ### Flush on the trace unit (R154) -/

namespace TraceUnit

variable {t : TraceUnit} {i : BufferId}

@[simp] theorem get_other_set (t : TraceUnit) (i : BufferId) (x : TraceBuffer) : (t.set i x).get i.other = t.get i.other := by
  cases i <;> rfl

theorem closeFilling_of_other_not_empty (h : (t.get i.other).state ≠ .empty) :
    t.closeFilling i = t.set i (t.get i).closed := by
  simp [closeFilling, modify, h]

theorem closeFilling_of_other_empty (h : (t.get i.other).state = .empty) :
    t.closeFilling i = (t.set i (t.get i).closed).set i.other { t.get i.other with state := .filling } := by
  simp [closeFilling, modify, h]

theorem flush_of_none_filling (h : t.filling = none) : t.flush = t := by simp [flush, h]

theorem flush_of_unused (h : t.filling = some i) (hcount : (t.get i).count = 0) (hreserved : (t.get i).reserved = 0) :
    t.flush = t := by
  simp [flush, h, hcount, hreserved]

theorem flush_of_used (h : t.filling = some i) (hused : (t.get i).count ≠ 0 ∨ (t.get i).reserved ≠ 0) :
    t.flush = t.closeFilling i := by
  have hnot : ¬((t.get i).count = 0 ∧ (t.get i).reserved = 0) := fun ⟨hc, hr⟩ => hused.elim (· hc) (· hr)
  simp [flush, h, hnot]

end TraceUnit

/-! ### The frames (R163 to R166) -/

section frames
variable {s : State} {i : BufferId}

/-- A command that answers its owner's refusal and changes nothing leaves the reply alone behind. -/
theorem exec_refused_unchanged {k : CommandKind} {p : List Byte} {r : LineRefusal} {d : Byte} (h : s.takes)
    (hgate : gateFailure k p.length s.sup.mode = none) (hperform : k.perform p s.owing = (s.owing, .refused r d)) :
    exec (k.instr p) s = .next (s.replies 0xFF [BitVec.ofNat 8 r.code, d]) :=
  exec_refused (t := s.owing) k p r d h hgate hperform rfl

/-- A command that changes the trace unit alone and answers the states of both buffers. -/
theorem exec_trace_moved {k : CommandKind} {p : List Byte} {t : TraceUnit} (h : s.takes)
    (hgate : gateFailure k p.length s.sup.mode = none)
    (hperform : k.perform p s.owing = ({ s.owing with trace := t }, .success t.stateBytes)) :
    exec (k.instr p) s = .next ({ s with trace := t }.replies (k.code + 0x80) t.stateBytes) :=
  exec_success (t := { s.owing with trace := t }) k p t.stateBytes h hgate hperform rfl

theorem gateFailure_releaseTrace (h : s.takesStarted) : gateFailure .releaseTrace 1 s.sup.mode = none :=
  gateFailure_none _ _ _ rfl h.2 rfl

theorem gateFailure_flushTrace (h : s.takesStarted) : gateFailure .flushTrace 0 s.sup.mode = none :=
  gateFailure_none _ _ _ rfl h.2 rfl

theorem exec_releaseTrace_no_buffer (h : s.takesStarted) {b : Byte} (hb : 1 < b.toNat) :
    exec (.releaseTrace [b]) s = .next (s.replies 0xFF [7, 255]) := by
  have hnone : bufferOf (byteAt [b] 0) = none := bufferOf_eq_none hb
  refine exec_refused_unchanged (k := .releaseTrace) (r := .invalid) h.1 (gateFailure_releaseTrace h) ?_
  simp only [CommandKind.perform, performReleaseTrace, hnone]
  rfl

theorem exec_releaseTrace_not_full (h : s.takesStarted) (hstate : (s.trace.get i).state ≠ .full) :
    exec (.releaseTrace [BitVec.ofNat 8 i.code]) s =
      .next (s.replies 0xFF [11, BitVec.ofNat 8 (s.trace.get i).state.code]) := by
  refine exec_refused_unchanged (k := .releaseTrace) (r := .notFull) h.1 (gateFailure_releaseTrace h) ?_
  simp [CommandKind.perform, performReleaseTrace, hstate]

theorem exec_releaseTrace_full (h : s.takesStarted) (hstate : (s.trace.get i).state = .full) :
    exec (.releaseTrace [BitVec.ofNat 8 i.code]) s =
      .next ({ s with trace := s.trace.release i }.replies 0xA2 (s.trace.release i).stateBytes) := by
  refine exec_trace_moved (k := .releaseTrace) h.1 (gateFailure_releaseTrace h) ?_
  simp [CommandKind.perform, performReleaseTrace, hstate, State.modTrace]

theorem exec_flushTrace (h : s.takesStarted) :
    exec (.flushTrace []) s =
      .next ({ s with trace := s.trace.flush }.replies 0xA3 s.trace.flush.stateBytes) :=
  exec_trace_moved (k := .flushTrace) h.1 (gateFailure_flushTrace h) rfl

end frames

/-- Settles O49: each clause is a frame above, the flush taken apart by whether a buffer is FILLING, whether it is used,
and whether the other one is EMPTY. -/
theorem traceCommandsMoveTheBuffers : Obligations.TraceCommandsMoveTheBuffers := by
  intro s h codes
  refine ⟨fun b hb => exec_releaseTrace_no_buffer h hb,
    fun i => ⟨exec_releaseTrace_not_full h, exec_releaseTrace_full h⟩, fun hnone => ?_, fun i hi => ⟨fun hc hr => ?_,
    fun hused => ⟨fun hother => ?_, fun hother => ?_⟩⟩⟩
  · rw [exec_flushTrace h, TraceUnit.flush_of_none_filling hnone]
    rfl
  · rw [exec_flushTrace h, TraceUnit.flush_of_unused hi hc hr]
    rfl
  · rw [exec_flushTrace h, TraceUnit.flush_of_used hi hused, TraceUnit.closeFilling_of_other_not_empty hother]
    rfl
  · rw [exec_flushTrace h, TraceUnit.flush_of_used hi hused, TraceUnit.closeFilling_of_other_empty hother]
    rfl

end Sys2Proof.Machine
end

section
/-! PROOFS. The trace record of a cycle (R183, Table 11.9): its three parts, which part each position falls in, and what the
packed words hold. -/

namespace Sys2Proof.Machine

/-! ### The three parts of a record -/

/-- The 14 header words. -/
def traceHeader (head : HeadId) (c : Context) : List Word16 :=
  [ BitVec.ofNat 16 (22 * 2048 + c.summaries.length * 128 + resultCode c.result * 32 + reasonCode c.reason),
    BitVec.ofNat 16 (head.val + c.link.val * 8 + c.flags.code * 64) ]
    ++ wordsOf32 c.cycle ++ wordsOf32 c.joint ++ wordsOf32 c.coil
    ++ [BitVec.ofNat 16 c.code, c.revision]
    ++ wordsOf32 (BitVec.ofNat 32 (c.totalEnergy / 10)) ++ wordsOf32 c.start

/-- The four words of a summary. -/
def Summary.words (m : Summary) : List Word16 :=
  [BitVec.ofNat 16 m.kind.code, BitVec.ofNat 16 m.time, BitVec.ofNat 16 m.peak, BitVec.ofNat 16 m.energy]

/-- The two trailer words. -/
def traceTrailer (head : HeadId) (c : Context) : List Word16 :=
  [BitVec.ofNat 16 (0xEE00 + head.val), BitVec.ofNat 16 c.cycle.toNat]

theorem traceRecord_eq_parts (h : HeadId) (c : Context) :
    traceRecord h c = traceHeader h c ++ ((c.summaries.map Summary.words).flatten ++ traceTrailer h c) :=
  List.append_assoc ..

@[simp] theorem traceHeader_length (h : HeadId) (c : Context) : (traceHeader h c).length = 14 := rfl

@[simp] theorem Summary.words_length (m : Summary) : m.words.length = 4 := rfl

@[simp] theorem traceTrailer_length (h : HeadId) (c : Context) : (traceTrailer h c).length = 2 := rfl

@[simp] theorem summaryWords_length (ms : List Summary) : (ms.map Summary.words).flatten.length = 4 * ms.length := by
  induction ms with
  | nil => rfl
  | cons m ms ih =>
    simp only [List.map_cons, List.flatten_cons, List.length_append, List.length_cons, Summary.words_length, ih]
    omega

theorem traceRecord_length (h : HeadId) (c : Context) : (traceRecord h c).length = 16 + 4 * c.summaries.length := by
  simp only [traceRecord_eq_parts, List.length_append, traceHeader_length, summaryWords_length, traceTrailer_length]
  omega

/-! ### The word at each position -/

theorem summaryWords_getD {ms : List Summary} {i k : Nat} {m : Summary} (hm : ms[i]? = some m) (hk : k < 4) :
    (ms.map Summary.words).flatten.getD (4 * i + k) 0 = m.words.getD k 0 := by
  induction ms generalizing i with
  | nil => simp at hm
  | cons m' ms ih =>
    simp only [List.map_cons, List.flatten_cons]
    cases i with
    | zero =>
      obtain rfl : m' = m := by simpa using hm
      rw [Nat.mul_zero, Nat.zero_add, List.getD_append _ _ _ _ hk]
    | succ i =>
      have hpos : 4 * (i + 1) + k - m'.words.length = 4 * i + k := by rw [Summary.words_length]; omega
      rw [List.getD_append_right _ _ _ _ (by rw [Summary.words_length]; omega), hpos]
      exact ih (by simpa using hm)

theorem traceRecord_getD_header (h : HeadId) (c : Context) {i : Nat} (hi : i < 14) :
    (traceRecord h c).getD i 0 = (traceHeader h c).getD i 0 := by
  rw [traceRecord_eq_parts, List.getD_append _ _ _ _ hi]

theorem traceRecord_getD_body (h : HeadId) (c : Context) (i : Nat) :
    (traceRecord h c).getD (14 + i) 0 = ((c.summaries.map Summary.words).flatten ++ traceTrailer h c).getD i 0 := by
  rw [traceRecord_eq_parts, List.getD_append_right _ _ _ _ (Nat.le_add_right 14 i), traceHeader_length, Nat.add_sub_cancel_left]

theorem traceRecord_getD_summary (h : HeadId) {c : Context} {i k : Nat} {m : Summary} (hm : c.summaries[i]? = some m)
    (hk : k < 4) : (traceRecord h c).getD (14 + k + 4 * i) 0 = m.words.getD k 0 := by
  have hi : i < c.summaries.length := (List.getElem?_eq_some_iff.mp hm).1
  rw [show 14 + k + 4 * i = 14 + (4 * i + k) by omega, traceRecord_getD_body,
    List.getD_append _ _ _ _ (by rw [summaryWords_length]; omega), summaryWords_getD hm hk]

theorem traceRecord_getD_trailer (h : HeadId) (c : Context) (k : Nat) :
    (traceRecord h c).getD (14 + k + 4 * c.summaries.length) 0 = (traceTrailer h c).getD k 0 := by
  rw [show 14 + k + 4 * c.summaries.length = 14 + (4 * c.summaries.length + k) by omega, traceRecord_getD_body,
    List.getD_append_right _ _ _ _ (by rw [summaryWords_length]; omega), summaryWords_length, Nat.add_sub_cancel_left]

/-! ### What the packed words hold -/

theorem toNat_ofNat16 {n : Nat} (hn : n < 65536) : (BitVec.ofNat 16 n).toNat = n :=
  (BitVec.toNat_ofNat ..).trans (Nat.mod_eq_of_lt hn)

theorem resultCode_lt (r : Option CycleResult) : resultCode r < 4 := by
  rcases r with _ | r
  · decide
  · cases r <;> decide

theorem reasonCode_lt (r : Option Reason) : reasonCode r < 32 := by
  rcases r with _ | r
  · decide
  · cases r <;> decide

theorem bitsValue_nil : bitsValue [] = 0 := rfl

theorem bitsValue_lt (bs : List Bool) : bitsValue bs < 2 ^ bs.length := by
  induction bs with
  | nil => decide
  | cons b bs ih =>
    rw [bitsValue, List.length_cons, Nat.pow_succ]
    split <;> omega

theorem CycleFlags.code_lt (f : CycleFlags) : f.code < 512 :=
  calc f.code < 2 ^ f.toList.length := bitsValue_lt f.toList
    _ = 2 ^ 9 := rfl
    _ = 512 := by decide

/-- A bit ahead of others adds its weight and doubles theirs; so flag k weighs 2 ^ k. -/
theorem weight_mul_bitsValue_cons (k : Nat) (b : Bool) (bs : List Bool) :
    2 ^ k * bitsValue (b :: bs) = (if b then 2 ^ k else 0) + 2 ^ (k + 1) * bitsValue bs := by
  cases b <;> simp only [bitsValue, if_true, Bool.false_eq_true, if_false] <;> ring

theorem CycleFlags.code_eq_sum (f : CycleFlags) :
    f.code = (if f.dry then 2 ^ 0 else 0) + (if f.sensorHeld then 2 ^ 1 else 0) + (if f.starved then 2 ^ 2 else 0)
      + (if f.relieved then 2 ^ 3 else 0) + (if f.eccCorrected then 2 ^ 4 else 0) + (if f.indexInHold then 2 ^ 5 else 0)
      + (if f.hotRelease then 2 ^ 6 else 0) + (if f.energyLow then 2 ^ 7 else 0)
      + (if f.energyHigh then 2 ^ 8 else 0) := by
  calc f.code = 2 ^ 0 * bitsValue f.toList := by rw [Nat.pow_zero, Nat.one_mul, CycleFlags.code]
    _ = _ := by simp only [CycleFlags.toList, weight_mul_bitsValue_cons, bitsValue_nil, Nat.mul_zero, Nat.add_zero, Nat.add_assoc]

theorem wordsOf32_value (w : Word32) :
    ((wordsOf32 w).getD 0 0).toNat + 65536 * ((wordsOf32 w).getD 1 0).toNat = w.toNat := by
  have hw := w.isLt
  simp only [wordsOf32, List.getD_cons_zero, List.getD_cons_succ, BitVec.toNat_ofNat]
  omega

/-! ### The header's items -/

theorem traceRecord_markerWord (h : HeadId) {c : Context} (hn : c.summaries.length ≤ 8) :
    ((traceRecord h c).getD 0 0).toNat =
      22 * 2048 + c.summaries.length * 128 + resultCode c.result * 32 + reasonCode c.reason := by
  have hres := resultCode_lt c.result
  have hrea := reasonCode_lt c.reason
  rw [traceRecord_getD_header h c (by decide)]
  exact toNat_ofNat16 (by omega)

theorem traceRecord_identityWord (h : HeadId) (c : Context) :
    ((traceRecord h c).getD 1 0).toNat = h.val + c.link.val * 8 + c.flags.code * 64 := by
  have hh := h.isLt
  have hl := c.link.isLt
  have hf := c.flags.code_lt
  rw [traceRecord_getD_header h c (by decide)]
  exact toNat_ofNat16 (by omega)

/-- A 32-bit item of the header, whose two words stand at position `i`. -/
theorem traceRecord_double (h : HeadId) (c : Context) (i : Nat) (w : Word32)
    (hwords : ((traceHeader h c).drop i).take 2 = wordsOf32 w) :
    ((traceRecord h c).getD i 0).toNat + 65536 * ((traceRecord h c).getD (i + 1) 0).toNat = w.toNat := by
  have hi : i + 1 < 14 := by
    have hlen := congrArg List.length hwords
    simp only [List.length_take, List.length_drop, traceHeader_length, wordsOf32, List.length_cons, List.length_nil] at hlen
    omega
  have hword : ∀ k < 2, (traceRecord h c).getD (i + k) 0 = (wordsOf32 w).getD k 0 := fun k hk => by
    rw [traceRecord_getD_header h c (by omega), ← hwords]
    simp only [List.getD_eq_getElem?_getD, List.getElem?_take_of_lt hk, List.getElem?_drop]
  rw [← Nat.add_zero i, hword 0 (by decide), Nat.add_zero, hword 1 (by decide), wordsOf32_value]

/-- Settles O27: each position's part of the record is found by the lemmas above; the packed words 0 and 1 do not overflow 16
bits, so their items come apart by division. -/
theorem recordCarriesTheContext : Obligations.RecordCarriesTheContext := by
  intro h c hn n word double bit
  have hlength : (traceRecord h c).length = 16 + 4 * n := traceRecord_length h c
  have hmarker : word 0 = 22 * 2048 + n * 128 + resultCode c.result * 32 + reasonCode c.reason :=
    traceRecord_markerWord h hn
  have hidentity : word 1 = h.val + c.link.val * 8 + c.flags.code * 64 := traceRecord_identityWord h c
  have hres := resultCode_lt c.result
  have hrea := reasonCode_lt c.reason
  have hhead := h.isLt
  have hlink := c.link.isLt
  have hn' : n ≤ 8 := hn
  have hflags : word 1 / 64 = c.flags.code := by omega
  have header : ∀ i < 14, word i = ((traceHeader h c).getD i 0).toNat := fun i hi =>
    congrArg BitVec.toNat (traceRecord_getD_header h c hi)
  have trailer : ∀ k, word (14 + k + 4 * n) = ((traceTrailer h c).getD k 0).toNat := fun k =>
    congrArg BitVec.toNat (traceRecord_getD_trailer h c k)
  refine ⟨hlength, by omega, by omega, by omega, by omega, by omega, by omega, by omega, by omega, by omega,
    hflags.trans c.flags.code_eq_sum, traceRecord_double h c 2 c.cycle rfl, traceRecord_double h c 4 c.joint rfl,
    traceRecord_double h c 6 c.coil rfl, ?code, ?revision, ?energy, traceRecord_double h c 12 c.start rfl,
    ?summaries, ?marker, ?cycle⟩
  case code => exact (header 8 (by decide)).trans (BitVec.toNat_ofNat ..)
  case revision => exact header 9 (by decide)
  case energy =>
    exact (traceRecord_double h c 10 (BitVec.ofNat 32 (c.totalEnergy / 10)) rfl).trans (BitVec.toNat_ofNat ..)
  case summaries =>
    intro i m hm
    have summary : ∀ k < 4, word (14 + k + 4 * i) = (m.words.getD k 0).toNat := fun k hk =>
      congrArg BitVec.toNat (traceRecord_getD_summary h hm hk)
    have hkind : (BitVec.ofNat 16 m.kind.code).toNat = m.kind.code := by cases m.kind <;> rfl
    exact ⟨(summary 0 (by decide)).trans hkind, (summary 1 (by decide)).trans (BitVec.toNat_ofNat ..),
      (summary 2 (by decide)).trans (BitVec.toNat_ofNat ..), (summary 3 (by decide)).trans (BitVec.toNat_ofNat ..)⟩
  case marker => exact (trailer 0).trans (toNat_ofNat16 (by omega))
  case cycle => exact (trailer 1).trans (BitVec.toNat_ofNat ..)

end Sys2Proof.Machine
end

section
/-! PROOFS. The dispatch expiry (R94) block by block: its eight steps touch the dispatcher, the contexts' energy and flags, and the
drives of the heads that take part. -/

namespace Sys2Proof.Machine

variable (s : State)

/-! ### An action on every head's context, or on every head's drive -/

theorem State.modCtx_id (h : HeadId) : (s.modCtx h fun c => c) = s := by
  have e : (s.heads.modify h fun hd => { hd with ctx := hd.ctx.map fun c => c }) = s.heads := by
    apply PerSix.ext_get
    intro k
    rw [PerSix.get_modify]
    split
    · next hk => subst hk; simp
    · rfl
  unfold State.modCtx State.modHead
  rw [e]

theorem State.modDrive_id (h : HeadId) : (s.modDrive h fun u => u) = s := by
  have e : (s.drives.modify h fun u => u) = s.drives := by
    apply PerSix.ext_get
    intro k
    rw [PerSix.get_modify]
    split
    · next hk => subst hk; rfl
    · rfl
  unfold State.modDrive
  rw [e]

/-- Each head's context changed by a rule of its number. -/
def State.mapCtxs (g : HeadId → Context → Context) : State :=
  { s with heads := PerSix.ofFn fun h => { s.heads.get h with ctx := (s.heads.get h).ctx.map (g h) } }

/-- Each drive changed by a rule of its number. -/
def State.mapDrives (g : HeadId → DriveUnit → DriveUnit) : State :=
  { s with drives := PerSix.ofFn fun h => g h (s.drives.get h) }

/-- An action on every head that changes its context alone, by what no context tells. -/
theorem State.forHeadsInOrder_modCtx {f : HeadId → State → State} {g : HeadId → Context → Context}
    (hf : ∀ h t, t.disp = s.disp → t.store = s.store → f h t = t.modCtx h (g h)) : s.forHeadsInOrder f = s.mapCtxs g := by
  simp only [State.forHeadsInOrder, sixInOrder, List.foldl_cons, List.foldl_nil]
  rw [hf 0, hf 1, hf 2, hf 3, hf 4, hf 5] <;> rfl

/-- An action on every head that changes its drive alone, by what no other drive tells. -/
theorem State.forHeadsInOrder_modDrive {f : HeadId → State → State} {g : HeadId → DriveUnit → DriveUnit}
    (hf : ∀ h t, t.disp = s.disp → t.store = s.store → t.heads = s.heads → f h t = t.modDrive h (g h)) :
    s.forHeadsInOrder f = s.mapDrives g := by
  simp only [State.forHeadsInOrder, sixInOrder, List.foldl_cons, List.foldl_nil]
  rw [hf 0, hf 1, hf 2, hf 3, hf 4, hf 5] <;> rfl

/-! ### The parts of an expiry -/

/-- The division an expiry makes: of the budget the cabinet allows, over the participants (R91, R94). -/
def State.division : Division := divideBudget (budgetFor s.disp.budgetSetting s.cabinet) s.disp.pointer s.participants

/-- What steps 3 and 7 do to a participant's cycle: the former grant accrued, STARVED and RELIEVED (R100, R101). -/
def State.expiryContext (h : HeadId) (c : Context) : Context :=
  match s.participants.get h with
  | none => c
  | some p =>
    let amount := if (s.fields h).driveType = .level
      then (s.disp.grant.get h).grant * elapsed s.disp.nextExpiry s.disp.lastExpiry else 0
    { c.accrue amount with flags := { c.flags with
        starved := c.flags.starved || decide (s.division.grants.get h < p.request)
        relieved := c.flags.relieved || p.cls == .class2 } }

/-- What step 8 does to a participant's drive (R103, R109, R110). -/
def State.expiryDrive (h : HeadId) (u : DriveUnit) : DriveUnit :=
  if (s.participants.get h).isSome then
    match (s.fields h).driveType with
    | .level => u.command (.level (if s.isDry h then 0 else s.division.grants.get h))
    | .burst =>
      match u.windowStart with
      | some _ => u
      | none => u.startWindow s.disp.nextExpiry
          (latchOf (s.division.grants.get h) (s.fields h).burstWindow (s.fields h).maxPower) (s.isDry h)
  else u

/-- What an expiry does to the dispatcher (R89, R91, R94, R99). -/
def State.expiryDisp : Dispatcher :=
  ({ s.disp.advance s.store.settings.dispatchPeriod with
    budget := budgetFor s.disp.budgetSetting s.cabinet }).writeGrants s.participants s.division
      s.store.settings.reliefThreshold

theorem State.participants_get (h : HeadId) :
    s.participants.get h = (s.disp.request.get h).map fun e =>
      { request := e.request, cls := serveClassOf e (s.disp.shortfall.get h) s.store.settings.reliefThreshold } :=
  PerSix.get_ofFn _ h

theorem State.participants_isSome (h : HeadId) : (s.participants.get h).isSome = (s.disp.request.get h).isSome := by
  rw [State.participants_get, Option.isSome_map]

/-- The amount step 3 accrues, by what the state before tells (R101). -/
def State.periodEnergy (h : HeadId) (c : Context) : Context :=
  if (s.disp.request.get h).isSome ∧ (s.fields h).driveType = .level then
    c.accrue ((s.disp.grant.get h).grant * elapsed s.disp.nextExpiry s.disp.lastExpiry)
  else c

/-- The flags step 7 sets (R100). -/
def State.participantFlags (h : HeadId) (c : Context) : Context :=
  match s.participants.get h with
  | none => c
  | some p => { c with flags := { c.flags with
      starved := c.flags.starved || decide (s.division.grants.get h < p.request)
      relieved := c.flags.relieved || p.cls == .class2 } }

theorem State.expiryContext_eq (h : HeadId) (c : Context) :
    s.expiryContext h c = s.participantFlags h (s.periodEnergy h c) := by
  unfold State.expiryContext State.participantFlags State.periodEnergy
  rw [State.participants_get]
  cases s.disp.request.get h with
  | none => simp
  | some e =>
    simp only [Option.map_some, Option.isSome_some, true_and]
    split <;> rfl

/-- Marking the participants' cycles (R100). -/
theorem State.markParticipant_eq (h : HeadId) (t : State) :
    State.markParticipant s.participants s.division h t = t.modCtx h (s.participantFlags h) := by
  unfold State.markParticipant
  split
  · next hp =>
    have e : s.participantFlags h = fun c => c := by funext c; simp only [State.participantFlags, hp]
    rw [e, State.modCtx_id]
  · next p hp =>
    have e : s.participantFlags h = fun c => { c with flags := { c.flags with
        starved := c.flags.starved || decide (s.division.grants.get h < p.request)
        relieved := c.flags.relieved || p.cls == .class2 } } := by
      funext c; simp only [State.participantFlags, hp]
    rw [e]
    rfl

/-- Accruing the period just ended (R101). -/
theorem State.accruePeriod_eq (h : HeadId) (t : State) (hreq : t.disp.request = s.disp.request)
    (hgrant : t.disp.grant = s.disp.grant) (hstore : t.store = s.store) :
    State.accruePeriod (elapsed s.disp.nextExpiry s.disp.lastExpiry) h t = t.modCtx h (s.periodEnergy h) := by
  unfold State.accruePeriod
  have hfields : t.fields h = s.fields h := by unfold State.fields; rw [hstore]
  rw [hreq, hgrant, hfields]
  split
  · next hc =>
    have e : s.periodEnergy h = fun c => c.accrue ((s.disp.grant.get h).grant * elapsed s.disp.nextExpiry s.disp.lastExpiry) := by
      funext c; exact if_pos hc
    rw [e]
  · next hc =>
    have e : s.periodEnergy h = fun c => c := by funext c; exact if_neg hc
    rw [e, State.modCtx_id]

/-- What step 6 writes in a participant's grant entry (R94). -/
theorem State.expiryDisp_grant (h : HeadId) :
    s.expiryDisp.grant.get h = match s.participants.get h with
      | some p => { grant := s.division.grants.get h, served := p.request }
      | none => s.disp.grant.get h := PerSix.get_ofFn _ h

/-- Handing the grants to the drives (R103, R109, R110). -/
theorem State.handGrant_eq (h : HeadId) (t : State) (hdisp : t.disp = s.expiryDisp) (hstore : t.store = s.store)
    (hdry : t.isDry h = s.isDry h) : State.handGrant s.participants h t = t.modDrive h (s.expiryDrive h) := by
  have hfields : t.fields h = s.fields h := by unfold State.fields; rw [hstore]
  have hlast : t.disp.lastExpiry = s.disp.nextExpiry := by rw [hdisp]; rfl
  unfold State.handGrant
  split
  · next hp =>
    obtain ⟨p, hp⟩ := Option.isSome_iff_exists.mp hp
    have hgrant : (t.disp.grant.get h).grant = s.division.grants.get h := by
      rw [hdisp, State.expiryDisp_grant, hp]
    simp only [hfields, hgrant, hlast, hdry]
    cases hty : (s.fields h).driveType with
    | level =>
      have e : s.expiryDrive h = fun u => u.command (.level (if s.isDry h then 0 else s.division.grants.get h)) := by
        funext u; simp only [State.expiryDrive, hp, Option.isSome_some, if_true, hty]
      simp only [e]
    | burst =>
      have e : ∀ u, s.expiryDrive h u = match u.windowStart with
          | some _ => u
          | none => u.startWindow s.disp.nextExpiry
              (latchOf (s.division.grants.get h) (s.fields h).burstWindow (s.fields h).maxPower) (s.isDry h) := by
        intro u; simp only [State.expiryDrive, hp, Option.isSome_some, if_true, hty]
      simp only
      cases hw : (t.drives.get h).windowStart with
      | some w =>
        have he : t.modDrive h (s.expiryDrive h) = t.modDrive h fun u => u := by
          simp only [State.modDrive, PerSix.modify, e, hw]
        rw [he, State.modDrive_id]
      | none =>
        simp only [State.modDrive, PerSix.modify, e, hw]
  · next hp =>
    have e : s.expiryDrive h = fun u => u := by funext u; exact if_neg hp
    rw [e, State.modDrive_id]

theorem State.isDry_mapCtxs {g : HeadId → Context → Context} (hg : ∀ h c, (g h c).dry = c.dry) (h : HeadId) :
    (s.mapCtxs g).isDry h = s.isDry h := by
  unfold State.isDry State.mapCtxs
  rw [PerSix.get_ofFn]
  cases (s.heads.get h).ctx with
  | none => rfl
  | some c => exact hg h c

theorem State.periodEnergy_dry (h : HeadId) (c : Context) : (s.periodEnergy h c).dry = c.dry := by
  unfold State.periodEnergy; split <;> rfl

theorem State.participantFlags_dry (h : HeadId) (c : Context) : (s.participantFlags h c).dry = c.dry := by
  unfold State.participantFlags; split <;> rfl

/-- The dispatch expiry as a whole: the dispatcher, the contexts and the drives, each by what the state before tells. -/
theorem State.expire_eq :
    s.expire =
      (({ s with disp := s.expiryDisp } : State).mapCtxs s.expiryContext).mapDrives s.expiryDrive := by
  let s2 : State := { s with disp := { s.disp.advance s.store.settings.dispatchPeriod with
    budget := budgetFor s.disp.budgetSetting s.cabinet } }
  have h3 : s2.forHeadsInOrder (State.accruePeriod (elapsed s.disp.nextExpiry s.disp.lastExpiry)) =
      s2.mapCtxs s.periodEnergy :=
    State.forHeadsInOrder_modCtx s2 fun h t hd hs =>
      State.accruePeriod_eq s h t (by rw [hd]; rfl) (by rw [hd]; rfl) hs
  have hexp : s.expire =
      let s3 := s2.forHeadsInOrder (State.accruePeriod (elapsed s.disp.nextExpiry s.disp.lastExpiry))
      let ps := s3.participants
      let v := divideBudget s3.disp.budget s3.disp.pointer ps
      let s4 := s3.modDisp fun d => d.writeGrants ps v s.store.settings.reliefThreshold
      (s4.forHeadsInOrder (State.markParticipant ps v)).forHeadsInOrder (State.handGrant ps) := rfl
  rw [hexp, h3]
  simp only
  have hps : (s2.mapCtxs s.periodEnergy).participants = s.participants := rfl
  have hv : divideBudget (s2.mapCtxs s.periodEnergy).disp.budget (s2.mapCtxs s.periodEnergy).disp.pointer
      s.participants = s.division := rfl
  rw [hps, hv]
  have h5 : ∀ u : State, u.forHeadsInOrder (State.markParticipant s.participants s.division) =
      u.mapCtxs s.participantFlags := fun u =>
    State.forHeadsInOrder_modCtx u fun h t _ _ => State.markParticipant_eq s h t
  rw [h5]
  rw [State.forHeadsInOrder_modDrive (g := s.expiryDrive)]
  · have hctx : ∀ (u : State), (u.mapCtxs s.periodEnergy).mapCtxs s.participantFlags = u.mapCtxs s.expiryContext := by
      intro u
      simp only [State.mapCtxs, PerSix.get_ofFn, Option.map_map]
      have e : ∀ h, s.participantFlags h ∘ s.periodEnergy h = s.expiryContext h := fun h => by
        funext c; exact (State.expiryContext_eq s h c).symm
      simp only [e]
    exact congrArg (State.mapDrives · s.expiryDrive) (hctx { s2 with disp := s.expiryDisp })
  · intro h t hd hs hh
    refine State.handGrant_eq s h t hd hs ?_
    have e1 : t.isDry h = ((({ s2 with disp := s.expiryDisp } : State).mapCtxs s.periodEnergy).mapCtxs
        s.participantFlags).isDry h := by
      unfold State.isDry; rw [hh]; rfl
    rw [e1, State.isDry_mapCtxs _ s.participantFlags_dry, State.isDry_mapCtxs _ s.periodEnergy_dry]
    rfl

section frame
@[simp] theorem State.expire_store : s.expire.store = s.store := by rw [State.expire_eq]; rfl
@[simp] theorem State.expire_fronts : s.expire.fronts = s.fronts := by rw [State.expire_eq]; rfl
@[simp] theorem State.expire_cabinet : s.expire.cabinet = s.cabinet := by rw [State.expire_eq]; rfl
@[simp] theorem State.expire_links : s.expire.links = s.links := by rw [State.expire_eq]; rfl
@[simp] theorem State.expire_line : s.expire.line = s.line := by rw [State.expire_eq]; rfl
@[simp] theorem State.expire_sup : s.expire.sup = s.sup := by rw [State.expire_eq]; rfl
@[simp] theorem State.expire_trace : s.expire.trace = s.trace := by rw [State.expire_eq]; rfl
@[simp] theorem State.expire_disp : s.expire.disp = s.expiryDisp := by rw [State.expire_eq]; rfl
@[simp] theorem State.expire_heads (h : HeadId) :
    s.expire.heads.get h = { s.heads.get h with ctx := (s.heads.get h).ctx.map (s.expiryContext h) } := by
  rw [State.expire_eq]; exact PerSix.get_ofFn _ h
@[simp] theorem State.expire_drives (h : HeadId) : s.expire.drives.get h = s.expiryDrive h (s.drives.get h) := by
  rw [State.expire_eq]; exact PerSix.get_ofFn _ h
end frame

end Sys2Proof.Machine
end

section
/-! PROOFS. What a command can do to the HD6, taken apart into moves: small changes of one block, or of the blocks that one event
ties together, each with what the model knows when it makes it. Every invariant is then proved move by move, once. -/

namespace Sys2Proof.Machine

/-! ### Moves of one block -/

/-- The parts of a context that bookkeeping inside a segment leaves as they are: identity, recipe, place in it, summaries, loop state
and outcome. A stopped cycle-time timer stays stopped. -/
structure Context.Kept (c c' : Context) : Prop where
  cycle : c'.cycle = c.cycle
  dry : c'.dry = c.dry
  recipe : c'.recipe = c.recipe
  segIndex : c'.segIndex = c.segIndex
  summaries : c'.summaries = c.summaries
  loop : c'.loop = c.loop
  result : c'.result = c.result
  reason : c'.reason = c.reason
  cycleTimer : c.cycleTimer = none → c'.cycleTimer = none

/-- A context one segment further on: the segment behind it has its summary (R57, R58, R62). -/
structure Context.Advanced (c c' : Context) : Prop where
  cycle : c'.cycle = c.cycle
  dry : c'.dry = c.dry
  recipe : c'.recipe = c.recipe
  segIndex : c'.segIndex = c.segIndex + 1
  summaries : c'.summaries.length = c.summaries.length + 1
  result : c'.result = c.result

/-- A context of a cycle that is over (R61, R62): what it keeps, and at most one summary more, where one was due. -/
structure Context.Over (c : Context) (reason : Option Reason) (c' : Context) : Prop where
  cycle : c'.cycle = c.cycle
  dry : c'.dry = c.dry
  result : c'.result = some (cycleResult reason c'.flags)
  reason : c'.reason = reason
  cycleTimer : c'.cycleTimer = none
  summaries : c.summaries.length ≤ c.segIndex → c'.summaries.length ≤ c.segIndex + 1

/-- Changes of a sensor front end. -/
inductive FrontMove (s : State) (h : HeadId) : FrontEnd → Prop
  | receive (x : Option (List Character)) : FrontMove s h { s.fronts.get h with rx := x }
  | status (x : SampleStatus) : FrontMove s h { s.fronts.get h with lastStatus := some x }
  | usable (t timeout : Nat) (ht : t ≤ 12000) : FrontMove s h ((s.fronts.get h).usable t timeout)
  | lost : FrontMove s h { s.fronts.get h with timer := none, sensor := .stale }
  | uncalibrated : FrontMove s h { s.fronts.get h with calValid := false }
  | calibrated (body : List Byte)
      (held : s.store.supervisor = some { op := .calibrationWrite h body, started := true }) :
      FrontMove s h { s.fronts.get h with calibration := decodeCalibration body, calValid := true }
  | replayBegins (next : Word32) (timeout : Nat) (active : s.isActive h = true) (dry : s.isDry h = true) :
      FrontMove s h
        { s.fronts.get h with replayActive := true, replayPos := 0, replayNext := next, timer := some timeout }
  | replaySteps (next : Word32) :
      FrontMove s h { s.fronts.get h with replayPos := min ((s.fronts.get h).replayPos + 1) 255, replayNext := next }

/-- Changes of a drive line unit outside a cut and a dispatch expiry. -/
inductive DriveMove (s : State) (h : HeadId) : DriveUnit → Prop
  | receive (x : Option (List Character)) : DriveMove s h { s.drives.get h with rx := x }
  | report (st : DriveState) (timer : Option Nat) : DriveMove s h { s.drives.get h with state := st, timer := timer }
  | sent : DriveMove s h (s.drives.get h).frameSent
  | window (start : Word32) (d : Nat) (runs : (s.drives.get h).windowStart ≠ none) :
      DriveMove s h ((s.drives.get h).startWindow start d (s.isDry h))
  | partEnds (runs : (s.drives.get h).windowStart ≠ none) :
      DriveMove s h { (s.drives.get h).command (.gate false) with onRunning := false }

/-- Changes of a station link. -/
inductive LinkMove (k : StationLink) : StationLink → Prop
  | same : LinkMove k k
  | spoiled (b : Bool) : LinkMove k { k with spoiled := b }
  | receive (set : Settings) (c : Character) : LinkMove k (k.receive set c)
  | closeUnit : LinkMove k k.closeUnit
  | gap : LinkMove k { k.closeUnit with interTimer := none }
  | take (low : Nat) : LinkMove k ({ k with closed := k.closed.drop 1 }.judgeTaken low)
  | place (f : StationFrame) (room : k.txQueue.length < 8) : LinkMove k (k.place f)
  | sent : LinkMove k k.frameSent
  | hold (asserted : Bool) (position : Nat) : LinkMove k (k.setHold asserted position)
  | clear : LinkMove k k.clear
  | rejudge (high low : Nat) : LinkMove k (k.rejudgeHold high low)

/-- Changes of the trace unit outside a START and the end of a cycle. -/
inductive TraceMove (t : TraceUnit) : TraceUnit → Prop
  | closes (i : BufferId) (filling : t.filling = some i)
      (used : (t.get i).count ≠ 0 ∨ (t.get i).reserved ≠ 0 ∨ (t.get i).free < 48) : TraceMove t (t.closeFilling i)
  | releases (i : BufferId) (full : (t.get i).state = .full) : TraceMove t (t.release i)

/-- What a supervisor operation has passed when it is accepted into the slot (R3 to R6, R15, R19). -/
def SupervisorOp.Admitted (st : Store) : SupervisorOp → Prop
  | .recipeWrite slot body => slot < 48 ∧ (st.slotOf (u16At body 0) = none ∨ st.slotOf (u16At body 0) = some slot)
  | .recipeErase slot => slot < 48
  | .calibrationWrite _ body => (decodeCalibration body).sound
  | .settingsWrite body => u16At body 54 ≤ 2400
  | .recipeRead slot => slot < 48

/-- Changes of the store outside reset, the scan and new settings. -/
inductive StoreMove (s : State) : Store → Prop
  | queue (q : List LookupEntry) : StoreMove s { s.store with queue := q }
  | defer (d : PerSix Bool) : StoreMove s { s.store with deferred := d }
  | lookup (e : LookupEntry) (slot : Nat) (idle : s.store.port = .idle) (found : s.store.slotOf e.code = some slot) :
      StoreMove s { s.store with port := .lookup e slot }
  | lookedUp (e : LookupEntry) (slot : Nat) (flips : List CellFlip) (port : s.store.port = .lookup e slot) :
      StoreMove s { (s.store.readRecipe slot flips).1 with port := .idle }
  | accept (op : SupervisorOp) (free : s.store.supervisor = none) (admitted : op.Admitted s.store)
      (started : s.sup.mode ≠ .starting) : StoreMove s { s.store with supervisor := some { op := op, started := false } }
  | occupy (op : SupervisorOp) (idle : s.store.port = .idle)
      (waits : s.store.supervisor = some { op := op, started := false }) :
      StoreMove s { s.store with supervisor := some { op := op, started := true }, port := .supervisor }
  | erasedAtStart (slot : Nat) (idle : s.store.port = .idle)
      (waits : s.store.supervisor = some { op := .recipeErase slot, started := false }) :
      StoreMove s (s.store.finishOp .recipeErase .ok)
  | readAtStart (slot : Nat) (idle : s.store.port = .idle)
      (waits : s.store.supervisor = some { op := .recipeRead slot, started := false }) : StoreMove s s.store.finishRead
  | read (slot : Nat) (flips : List CellFlip) (port : s.store.port = .supervisor)
      (runs : s.store.supervisor = some { op := .recipeRead slot, started := true }) :
      StoreMove s (s.store.readRecipe slot flips).1.finishRead
  | written (slot : Nat) (body : List Byte) (w : WriteResult) (port : s.store.port = .supervisor)
      (runs : s.store.supervisor = some { op := .recipeWrite slot body, started := true }) :
      StoreMove s (s.store.completeRecipeWrite slot body w)
  | erased (slot : Nat) (port : s.store.port = .supervisor)
      (runs : s.store.supervisor = some { op := .recipeErase slot, started := true }) :
      StoreMove s (s.store.completeErase slot)
  | calibrated (h : HeadId) (body : List Byte) (w : WriteResult) (port : s.store.port = .supervisor)
      (runs : s.store.supervisor = some { op := .calibrationWrite h body, started := true }) :
      StoreMove s ((s.store.storeRecord (calibrationSlotOf h) body w).finishOp .calibrationWrite (resultOf (writeOk body w)))
  | settled (body : List Byte) (w : WriteResult) (port : s.store.port = .supervisor)
      (runs : s.store.supervisor = some { op := .settingsWrite body, started := true }) :
      StoreMove s
        (((s.store.storeRecord Config.settingsSlot body w).markSettings (writeOk body w)).finishOp .settingsWrite
          (resultOf (writeOk body w)))

/-- A recipe read is in the supervisor slot, so a reply is owed for it (R163). -/
def Store.Reading (st : Store) : Prop := ∃ slot started, st.supervisor = some { op := .recipeRead slot, started := started }

/-! ### The end of a cycle and the start of one -/

/-- The end of a cycle before its context is closed: the cut from HEATING, the queued lookup from LOOKUP (R62). -/
def State.leaveCycle (s : State) (h : HeadId) : State :=
  match (s.heads.get h).state with
  | .lookup => s.dropLookup h
  | .heating => s.cut h
  | _ => s

/-- A head's cycle is over with this context: record, result, notice, drain watch (R62 steps 3 to 7, R147, R170). -/
def State.closeCycle (s : State) (h : HeadId) (reason : Option Reason) (c : Context) : State :=
  ({ s with
    fronts := s.fronts.modify h fun fe => { fe with replayActive := false }
    trace := s.trace.append h c.cycle (traceRecord h c)
    heads := s.heads.set h { state := endState (cycleResult reason c.flags), ctx := some c, notice := true } } :
      State).watchDrain

/-- The class of the request entry a recipe's first segment makes (R80). -/
def Recipe.firstClass (r : Recipe) : RequestClass :=
  match r.segments.head? with
  | some g => g.kind.requestClass
  | none => .class0

/-- A head in LOOKUP goes to HEATING with its recipe, and its request entry becomes present (R47, R92). -/
def State.beginHeating (s : State) (h : HeadId) (r : Recipe) : State :=
  (s.modHead h fun hd => { hd with state := .heating, ctx := hd.ctx.map (·.startHeating r) }).modDisp fun d =>
    { d with request := d.request.set h (some { request := 0, cls := r.firstClass }) }

/-- An IDLE head takes a START: number, reservation, context, LOOKUP (R46), with the trace unit as condition 9 left it (R144). -/
def State.beginCycle (s : State) (h : HeadId) (tr : TraceUnit) (buf : BufferId) (c : Context) : State :=
  { s with
    trace := tr.reserve h buf c.cycle
    disp := { s.disp with cycleCounter := c.cycle }
    heads := s.heads.modify h fun hd => { hd with state := .lookup, ctx := some c } }

/-- What stands when a START is accepted (R45, R46, R144): the conditions of Table 3.3 and the context of Table 3.2. -/
structure State.Begins (s : State) (h : HeadId) (tr : TraceUnit) (buf : BufferId) (c : Context) : Prop where
  idle : (s.heads.get h).state = .idle
  mode : (s.sup.mode = .production ∧ c.dry = false) ∨ (s.sup.mode = .service ∧ c.dry = true)
  judged : s.trace.judgeStart = (tr, some buf)
  cycle : c.cycle = nextCycle s.disp.cycleCounter
  recipe : c.recipe = none
  summaries : c.summaries = []
  segIndex : c.segIndex = 0
  result : c.result = none

/-- A head that has ended its cycle loses its context (R69). -/
def State.forgetCycle (s : State) (h : HeadId) : State :=
  s.modHead h fun hd => { hd with state := .idle, ctx := none }

/-- What a recipe read back well and let through by R18 brings a head (R1, R3, R48). -/
structure Recipe.Fits (r : Recipe) (maxPower : Nat) : Prop where
  some : 0 < r.segments.length
  atMost : r.segments.length ≤ 8
  ceilings : ∀ g ∈ r.segments, g.ceiling ≤ maxPower

/-- New settings are in force for the store and the shortfall counters (R17, R99). -/
def State.adopt (s : State) (new : Settings) : State :=
  { s with
    store := { s.store with settings := new }
    disp := { s.disp with shortfall := s.disp.shortfall.map fun n => min n new.reliefThreshold } }

/-- One millisecond for every timer (R87). -/
def State.tick (s : State) : State :=
  { s with
    disp := { s.disp with timestamp := s.disp.timestamp + 1 }
    fronts := s.fronts.map fun fe => { fe with timer := runDown fe.timer }
    drives := s.drives.map fun u => { u with timer := runDown u.timer }
    heads := s.heads.map fun hd => { hd with ctx := hd.ctx.map fun c => { c with cycleTimer := runDown c.cycleTimer } } }

/-! ### The moves -/

/-- A move that leaves the queue, the line link, the mode but for the drain watch, the settings, the cycle counter and whether a recipe
read is in the supervisor slot. -/
inductive Quiet (s : State) : State → Prop
  | own (n : Nat) : Quiet s { s with freeCount := n }
  | tick : Quiet s s.tick
  | front (h : HeadId) (fe : FrontEnd) (m : FrontMove s h fe) : Quiet s { s with fronts := s.fronts.set h fe }
  | drive (h : HeadId) (u : DriveUnit) (m : DriveMove s h u) : Quiet s { s with drives := s.drives.set h u }
  | cabinet (x : CabinetState) : Quiet s { s with cabinet := x }
  | links (p : PerSix StationLink) (m : ∀ l, LinkMove (s.links.get l) (p.get l)) : Quiet s { s with links := p }
  | trace (t : TraceUnit) (m : TraceMove s.trace t) : Quiet s { s with trace := t }
  | sup (u : Supervision) (mode : u.mode = s.sup.mode) (restart : u.restart = s.sup.restart ∨ u.restart = false)
      (table : s.sup.replayTable.length = 256 → u.replayTable.length = 256) : Quiet s { s with sup := u }
  | budget (n : Nat) (bound : n ≤ 2400) : Quiet s { s with disp := { s.disp with budgetSetting := n } }
  | store (st : Store) (m : StoreMove s st) (reading : st.Reading ↔ s.store.Reading) : Quiet s { s with store := st }
  | applyFields (h : HeadId) (idle : (s.heads.get h).state = .idle) : Quiet s (s.applyFields h)
  | context (h : HeadId) (f : Context → Context) (kept : ∀ c, (s.heads.get h).ctx = some c → c.Kept (f c)) :
      Quiet s (s.modCtx h f)
  | notice (h : HeadId) : Quiet s (s.modHead h fun hd => { hd with notice := false })
  | heat (h : HeadId) (r : Recipe) (c : Context) (looks : (s.heads.get h).state = .lookup)
      (ctx : (s.heads.get h).ctx = some c) (port : s.store.port ≠ .scan)
      (fits : r.Fits (s.store.inForce.get h).maxPower) : Quiet s (s.beginHeating h r)
  | noShortfall (h : HeadId) : Quiet s { s with disp := { s.disp with shortfall := s.disp.shortfall.set h 0 } }
  | run (h : HeadId) (c : Context) (r : Recipe) (g : Segment) (t setpoint : Nat) (heats : (s.heads.get h).state = .heating)
      (runs : s.running h = some (c, r, g)) : Quiet s (s.runLoop h r g t setpoint)
  | advance (h : HeadId) (c c' : Context) (r : Recipe) (g g2 : Segment) (t setpoint : Nat)
      (heats : (s.heads.get h).state = .heating) (runs : s.running h = some (c, r, g))
      (next : r.segments[c.segIndex + 1]? = some g2) (advanced : c.Advanced c') (loop : c'.loop = c.loop.next g2) :
      Quiet s ((s.modHead h fun hd => { hd with ctx := some c' }).runLoop h r g2 t setpoint)
  | hold (h : HeadId) (c c' : Context) (r : Recipe) (g g2 : Segment) (heats : (s.heads.get h).state = .heating)
      (runs : s.running h = some (c, r, g)) (next : r.segments[c.segIndex + 1]? = some g2) (advanced : c.Advanced c')
      (loop : c'.loop = c.loop.hold) :
      Quiet s ((s.cut h).modHead h fun hd => { hd with state := .hold, ctx := some c' })
  | close (h : HeadId) (reason : Option Reason) (c c' : Context) (active : s.isActive h = true)
      (ctx : (s.heads.get h).ctx = some c) (ended : c.Over reason c') :
      Quiet s ((s.leaveCycle h).closeCycle h reason c')
  | cutNone (h : HeadId) (heats : (s.heads.get h).state = .heating) (none : (s.heads.get h).ctx = none) : Quiet s (s.cut h)
  | forget (h : HeadId) (ended : (s.heads.get h).state = .done ∨ (s.heads.get h).state = .faulted) : Quiet s (s.forgetCycle h)
  | expire : Quiet s s.expire

/-- Moves one after another. -/
abbrev Quiets : State → State → Prop := Relation.ReflTransGen Quiet

end Sys2Proof.Machine
end

section
/-! PROOFS. The shared operations as moves: the end of a cycle, samples, lookups, reports, the store port. -/

namespace Sys2Proof.Machine

variable {s t : State} {h : HeadId}

/-! ### Single updates -/

theorem Quiets.one (q : Quiet s t) : Quiets s t := Relation.ReflTransGen.single q

theorem quiets_drawFree (s : State) : Quiets s s.drawFree := .one (.own _)

theorem quiets_modFront {f : FrontEnd → FrontEnd} (m : FrontMove s h (f (s.fronts.get h))) : Quiets s (s.modFront h f) := .one (.front h _ m)

theorem quiets_modDrive {f : DriveUnit → DriveUnit} (m : DriveMove s h (f (s.drives.get h))) : Quiets s (s.modDrive h f) :=
  .one (.drive h _ m)

theorem quiets_modLink {l : LinkId} {f : StationLink → StationLink} (m : LinkMove (s.links.get l) (f (s.links.get l))) :
    Quiets s (s.modLink l f) := by
  refine .one (.links _ fun k => ?_)
  rw [PerSix.get_modify]
  split
  · next e => rw [e]; exact m
  · exact .same

theorem quiets_modCtx {f : Context → Context} (kept : ∀ c : Context, c.Kept (f c)) : Quiets s (s.modCtx h f) :=
  .one (.context h f fun c _ => kept c)

theorem quiets_modFlags (s : State) (h : HeadId) (f : CycleFlags → CycleFlags) : Quiets s (s.modFlags h f) :=
  quiets_modCtx fun _ => ⟨rfl, rfl, rfl, rfl, rfl, rfl, rfl, rfl, id⟩

theorem quiets_setCtx {c c' : Context} (hc : (s.heads.get h).ctx = some c) (kept : c.Kept c') :
    Quiets s (s.modHead h fun hd => { hd with ctx := some c' }) := by
  have e : s.modHead h (fun hd => { hd with ctx := some c' }) = s.modCtx h fun _ => c' := by
    simp only [State.modCtx, State.modHead, PerSix.modify, hc, Option.map_some]
  rw [e]
  refine .one (.context h _ fun d hd => ?_)
  rw [hc] at hd
  cases hd
  exact kept

theorem Quiets.forHeads {f : HeadId → State → State} (hf : ∀ h t, Quiets t (f h t)) (s : State) :
    Quiets s (s.forHeads f) :=
  State.forHeads_keeps s (Quiets s) f (fun h t ht => ht.trans (hf h t)) (quiets_drawFree s)

theorem Quiets.forHeadsInOrder {f : HeadId → State → State} (hf : ∀ h t, Quiets t (f h t)) (s : State) :
    Quiets s (s.forHeadsInOrder f) :=
  State.forHeadsInOrder_keeps s (Quiets s) f (fun h t ht => ht.trans (hf h t)) .refl

/-- A change of the store that leaves whether a recipe read is held. -/
theorem quiets_store {st : Store} (m : StoreMove s st) (hs : st.supervisor = s.store.supervisor) :
    Quiets s { s with store := st } := .one (.store st m (by simp only [Store.Reading, hs]))

/-- Whether a head's cycle is dry, read from its context. -/
theorem State.isDry_eq (s : State) (h : HeadId) : s.isDry h = ((s.heads.get h).ctx.map (·.dry)).getD false := by
  unfold State.isDry
  cases (s.heads.get h).ctx <;> rfl

/-! ### A head takes its fields (R17) -/

section applyFields
variable (s : State) (h : HeadId)
@[simp] theorem State.applyFields_store :
    (s.applyFields h).store =
      { s.store with
        inForce := s.store.inForce.set h (s.store.settings.heads.get h)
        deferred := s.store.deferred.set h false } := by
  simp only [State.applyFields]; split <;> rfl
@[simp] theorem State.applyFields_heads : (s.applyFields h).heads = s.heads := by
  simp only [State.applyFields]; split <;> rfl
@[simp] theorem State.applyFields_fronts : (s.applyFields h).fronts = s.fronts := by
  simp only [State.applyFields]; split <;> rfl
@[simp] theorem State.applyFields_disp : (s.applyFields h).disp = s.disp := by
  simp only [State.applyFields]; split <;> rfl
@[simp] theorem State.applyFields_cabinet : (s.applyFields h).cabinet = s.cabinet := by
  simp only [State.applyFields]; split <;> rfl
@[simp] theorem State.applyFields_links : (s.applyFields h).links = s.links := by
  simp only [State.applyFields]; split <;> rfl
@[simp] theorem State.applyFields_line : (s.applyFields h).line = s.line := by
  simp only [State.applyFields]; split <;> rfl
@[simp] theorem State.applyFields_sup : (s.applyFields h).sup = s.sup := by
  simp only [State.applyFields]; split <;> rfl
@[simp] theorem State.applyFields_trace : (s.applyFields h).trace = s.trace := by
  simp only [State.applyFields]; split <;> rfl
/-- A change of drive type gives one zero command (R107). -/
theorem State.applyFields_drives :
    (s.applyFields h).drives =
      if (s.fields h).driveType = (s.store.settings.heads.get h).driveType then s.drives
      else s.drives.modify h fun d => d.command (s.store.settings.heads.get h).driveType.zero := by
  simp only [State.applyFields]; split <;> rfl
end applyFields

/-! ### The end of a cycle (R62) -/

theorem State.leaveCycle_disp_timestamp (s : State) (h : HeadId) : (s.leaveCycle h).disp.timestamp = s.disp.timestamp := by
  unfold State.leaveCycle; split <;> rfl

/-- The context of an active head when its cycle is left: the same, but for the energy of a cut. -/
theorem State.leaveCycle_ctx {c : Context} (hc : (s.heads.get h).ctx = some c) :
    ((s.leaveCycle h).heads.get h).state = (s.heads.get h).state ∧
      ∃ amount, ((s.leaveCycle h).heads.get h).ctx = some (c.accrue amount) := by
  unfold State.leaveCycle
  split
  · exact ⟨rfl, 0, hc⟩
  · exact ⟨by simp, s.cutEnergy h, by simp [hc]⟩
  · exact ⟨rfl, 0, hc⟩

/-- Energy accrues to a cycle without changing anything else of it. -/
theorem Context.kept_accrue (c : Context) (amount : Nat) : c.Kept (c.accrue amount) :=
  ⟨rfl, rfl, rfl, rfl, rfl, rfl, rfl, rfl, id⟩

theorem Context.ended_summaries_le (c : Context) (st : HeadState) (now : Word32) (reason : Option Reason)
    (hc : c.summaries.length ≤ c.segIndex + 1) : (c.ended st now reason).summaries.length ≤ c.segIndex + 1 := by
  unfold Context.ended
  split
  · next hdue =>
    have := of_decide_eq_true hdue.2
    simp only [Context.appendSummary, List.length_append, List.length_singleton]
    omega
  · exact hc

theorem Context.over_ended {c d : Context} {reason : Option Reason} (hcycle : d.cycle = c.cycle) (hdry : d.dry = c.dry)
    (hseg : d.segIndex = c.segIndex)
    (hsum : c.summaries.length ≤ c.segIndex → d.summaries.length ≤ c.segIndex + 1) (st : HeadState) (now : Word32) :
    c.Over reason (d.ended st now reason) where
  cycle := by rw [Context.ended_cycle, hcycle]
  dry := by rw [← hdry]; unfold Context.ended; split <;> rfl
  result := by rw [Context.ended_result, Context.ended_flags]
  reason := rfl
  cycleTimer := rfl
  summaries hc := by
    rw [← hseg]
    exact Context.ended_summaries_le d st now reason (by rw [hseg]; exact hsum hc)

/-- Steps 2 to 7 of R62 close the context. -/
theorem State.finishCycle_eq_closeCycle {c : Context} {reason : Option Reason} (hc : (s.heads.get h).ctx = some c) :
    s.finishCycle h reason = s.closeCycle h reason (c.ended (s.heads.get h).state s.disp.timestamp reason) :=
  State.finishCycle_of_ctx s h reason hc

/-- However a cycle ends, its head leaves it and then closes it. -/
theorem State.endCycle_eq (s : State) (h : HeadId) (reason : Option Reason) (ha : s.isActive h = true) :
    s.endCycle h reason = (s.leaveCycle h).finishCycle h reason := by
  rw [State.isActive_iff] at ha
  unfold State.endCycle State.leaveCycle
  rcases ha with e | e | e <;> rw [e]

theorem quiets_leaveCycle_none (hc : (s.heads.get h).ctx = none) : Quiets s (s.leaveCycle h) := by
  unfold State.leaveCycle
  split
  · exact quiets_store (.queue _) rfl
  · next e => exact .one (.cutNone h e hc)
  · exact .refl

/-- The end of a cycle is a move; on a head with no active cycle it is none. -/
theorem quiets_endCycle (s : State) (h : HeadId) (reason : Option Reason) : Quiets s (s.endCycle h reason) := by
  by_cases ha : s.isActive h = true
  · rw [State.endCycle_eq s h reason ha]
    cases hc : (s.heads.get h).ctx with
    | none =>
      have hn : ((s.leaveCycle h).heads.get h).ctx = none := by
        unfold State.leaveCycle
        split
        · exact hc
        · simp [hc]
        · exact hc
      rw [State.finishCycle_of_none _ h reason hn]
      exact quiets_leaveCycle_none hc
    | some c =>
      obtain ⟨-, amount, hctx⟩ := State.leaveCycle_ctx (s := s) (h := h) hc
      rw [State.finishCycle_eq_closeCycle hctx]
      exact .one (.close h reason c _ ha hc (Context.over_ended (c := c) (d := c.accrue amount) rfl rfl rfl Nat.le_succ_of_le _ _))
  · rw [State.endCycle_of_inactive s h reason (by simpa using ha)]

/-! ### Samples (R28, R52, R59) -/

theorem Context.kept_atSample (c : Context) (g : Segment) (now : Word32) (t : Nat) : c.Kept (c.atSample g now t) := by
  unfold Context.atSample
  split <;> exact ⟨rfl, rfl, rfl, rfl, rfl, rfl, rfl, rfl, id⟩

theorem Context.kept_recordAs (c : Context) (now : Word32) (b : Bool) : c.Kept (c.recordAs now b) :=
  ⟨rfl, rfl, rfl, rfl, rfl, rfl, rfl, rfl, id⟩

theorem Context.kept_updateLag (c : Context) (r : Recipe) (g : Segment) (now : Word32) (t sp : Nat) :
    c.Kept (c.updateLag r g now t sp) := by
  unfold Context.updateLag
  split
  · split <;> exact ⟨rfl, rfl, rfl, rfl, rfl, rfl, rfl, rfl, id⟩
  · exact ⟨rfl, rfl, rfl, rfl, rfl, rfl, rfl, rfl, id⟩

theorem Context.Kept.trans {c d e : Context} (h1 : c.Kept d) (h2 : d.Kept e) : c.Kept e :=
  ⟨h2.cycle.trans h1.cycle, h2.dry.trans h1.dry, h2.recipe.trans h1.recipe, h2.segIndex.trans h1.segIndex,
    h2.summaries.trans h1.summaries, h2.loop.trans h1.loop, h2.result.trans h1.result, h2.reason.trans h1.reason,
    fun hc => h2.cycleTimer (h1.cycleTimer hc)⟩

/-- A running head with another context of the same course runs the same segment. -/
theorem State.running_setCtx {c c' : Context} {r : Recipe} {g : Segment} (hr : s.running h = some (c, r, g))
    (hrecipe : c'.recipe = c.recipe) (hseg : c'.segIndex = c.segIndex) :
    (s.modHead h fun hd => { hd with ctx := some c' }).running h = some (c', r, g) := by
  rw [State.running_iff] at hr ⊢
  obtain ⟨_, h2, h3⟩ := hr
  exact ⟨by simp, by rw [hrecipe, h2], by rw [hseg, h3]⟩

/-- The last heating segment's completion (R58) is a move into HOLD or the end of the cycle. -/
theorem quiets_endHeating {c : Context} {r : Recipe} {g : Segment} (hst : (s.heads.get h).state = .heating)
    (hr : s.running h = some (c, r, g)) (t : Nat) : Quiets s (s.endHeating h r t) := by
  have hc := ((State.running_iff s h c r g).mp hr).1
  obtain ⟨d, hd⟩ : ∃ d, d = ((c.accrue (s.cutEnergy h)).appendSummary s.disp.timestamp).judgeWindow r := ⟨_, rfl⟩
  obtain ⟨hcycle, hdry, hrecipe, hseg, hlen, hres, hloop⟩ : d.cycle = c.cycle ∧ d.dry = c.dry ∧ d.recipe = c.recipe ∧
      d.segIndex = c.segIndex ∧ d.summaries.length = c.summaries.length + 1 ∧ d.result = c.result ∧ d.loop = c.loop := by
    rw [hd]; exact ⟨rfl, rfl, rfl, rfl, List.length_append, rfl, rfl⟩
  have e1 : (s.cut h).modCtx h (fun c => (c.appendSummary s.disp.timestamp).judgeWindow r) =
      (s.cut h).modHead h fun hd => { hd with ctx := some d } := by
    simp only [State.modCtx, State.modHead, PerSix.modify, State.cut_heads_same, hc, Option.map_some, hd]
  unfold State.endHeating
  simp only [e1, State.modHead_heads_same]
  cases hnext : r.segments[d.segIndex + 1]? with
  | none =>
    simp only
    rw [State.finishCycle_eq_closeCycle (c := d) (by simp)]
    have e2 : ∀ c' : Context, ((s.cut h).modHead h fun hd => { hd with ctx := some d }).closeCycle h none c' =
        (s.leaveCycle h).closeCycle h none c' := by
      intro c'
      simp only [State.closeCycle, State.leaveCycle, hst, State.modHead, PerSix.modify, PerSix.set_set]
    rw [e2]
    refine .one (.close h none c _ ?_ hc (Context.over_ended hcycle hdry hseg (by omega) _ _))
    rw [State.isActive_iff]; exact .inr (.inl hst)
  | some g2 =>
    simp only
    refine (quiets_drawFree s).tail ?_
    have e3 : ∀ c' : Context, (((s.cut h).modHead h fun hd => { hd with ctx := some d }).drawFree.modHead h
        fun hd => { hd with state := .hold, ctx := some c' }) =
        (s.drawFree.cut h).modHead h fun hd => { hd with state := .hold, ctx := some c' } := by
      intro c'
      have e4 : (s.drawFree.cut h) = (s.cut h).drawFree := rfl
      rw [e4]
      simp only [State.modHead, State.drawFree, PerSix.modify, PerSix.set_set, PerSix.get_set_same]
    rw [e3]
    exact .hold h c _ r g g2 hst hr (by rw [← hseg]; exact hnext)
      ⟨hcycle, hdry, hrecipe, congrArg (· + 1) hseg, hlen, hres⟩ (congrArg LoopState.hold hloop)

theorem quiets_completeOrRun {c c' : Context} {r : Recipe} {g : Segment} (hst : (s.heads.get h).state = .heating)
    (hr : s.running h = some (c, r, g)) (kept : c.Kept c') (t sp : Nat) : Quiets s (s.completeOrRun h c' r g t sp) := by
  have hc := ((State.running_iff s h c r g).mp hr).1
  have h1 : Quiets s (s.modHead h fun hd => { hd with ctx := some c' }) := quiets_setCtx hc kept
  have hr1 := State.running_setCtx hr kept.recipe kept.segIndex
  have hst1 : ((s.modHead h fun hd => { hd with ctx := some c' }).heads.get h).state = .heating := by simp [hst]
  unfold State.completeOrRun
  simp only
  split
  · split
    · exact h1.trans (quiets_endHeating hst1 hr1 t)
    · next g2 hnext =>
      split
      · exact h1.trans (quiets_endHeating hst1 hr1 t)
      · exact h1.tail (.advance h c' _ r g g2 t _ hst1 hr1 hnext
          ⟨rfl, rfl, rfl, rfl, List.length_append, rfl⟩ rfl)
  · exact h1.tail (.run h c' r g t sp hst1 hr1)

theorem quiets_heatSample {c : Context} {r : Recipe} {g : Segment} (hst : (s.heads.get h).state = .heating)
    (hr : s.running h = some (c, r, g)) (t : Nat) (high : Bool) : Quiets s (s.heatSample h c r g t high) := by
  have hc := ((State.running_iff s h c r g).mp hr).1
  have k1 := c.kept_atSample g s.disp.timestamp t
  have k2 := k1.trans (Context.kept_recordAs _ s.disp.timestamp
    (inBandOf g t ((c.atSample g s.disp.timestamp t).setpoint g s.disp.timestamp)))
  unfold State.heatSample
  simp only
  split
  · exact (quiets_setCtx hc k1).trans (quiets_endCycle _ h _)
  · split
    · exact (quiets_setCtx hc k2).trans (quiets_endCycle _ h _)
    · exact quiets_completeOrRun hst hr (k2.trans (Context.kept_updateLag ..)) t _

theorem quiets_holdSample {c : Context} (hc : (s.heads.get h).ctx = some c) (r : Recipe) (g : Segment) (t : Nat)
    (high : Bool) : Quiets s (s.holdSample h c r g t high) := by
  have k1 : c.Kept { c with peak := max c.peak t } := ⟨rfl, rfl, rfl, rfl, rfl, rfl, rfl, rfl, id⟩
  unfold State.holdSample
  simp only
  split
  · exact (quiets_setCtx hc k1).trans (quiets_endCycle _ h _)
  · have h2 := (quiets_drawFree s).trans
      (quiets_setCtx (s := s.drawFree) hc (k1.trans (Context.kept_recordAs _ s.disp.timestamp s.holdInBand)))
    split
    · exact h2.trans (quiets_endCycle _ h _)
    · exact h2

theorem quiets_sampleEvent (s : State) (h : HeadId) (t : Nat) (high : Bool) : Quiets s (s.sampleEvent h t high) := by
  unfold State.sampleEvent
  split
  · next hst hr => exact quiets_heatSample hst hr t high
  · next hst hr => exact quiets_holdSample ((State.running_iff ..).mp hr).1 _ _ t high
  · exact .refl

/-- A converted temperature lies within 0 to 12000 (R32). -/
theorem Calibration.convert_le {cal : Calibration} {status : SampleStatus} {raw : Word16} {t : Nat}
    (ht : cal.convert status raw = some t) : t ≤ 12000 := by
  obtain ⟨v, -, rfl⟩ := Option.map_eq_some_iff.mp ht
  have := clampInt_le (lo := 0) (hi := Config.maxTemperature) (by decide) (v + cal.offset)
  have hmax : (Config.maxTemperature : Int) = 12000 := rfl
  omega

theorem quiets_holdWeak (s : State) (h : HeadId) : Quiets s (s.holdWeak h) := by
  unfold State.holdWeak
  split
  · exact quiets_modFlags ..
  · exact quiets_modFlags ..
  · exact .refl

theorem quiets_takeSample (s : State) (h : HeadId) (status : SampleStatus) (raw : Word16) :
    Quiets s (s.takeSample h status raw) := by
  have h1 : Quiets s (s.modFront h fun fe => { fe with lastStatus := some status }) := quiets_modFront (.status status)
  unfold State.takeSample
  simp only
  split
  · exact h1.trans (quiets_holdWeak _ h)
  · next ht =>
    refine (h1.trans (quiets_modFront ?_)).trans (quiets_sampleEvent _ h _ _)
    exact .usable _ _ (Calibration.convert_le ht)

theorem quiets_sampleFrame (s : State) (h : HeadId) (frame : SampleFrame) : Quiets s (s.sampleFrame h frame) := by
  unfold State.sampleFrame
  split
  · exact .refl
  · split
    · exact .refl
    · split
      · exact .refl
      · exact quiets_takeSample ..

end Sys2Proof.Machine
end

section
/-! PROOFS. The shared operations as moves: lookups, the store port, reports, requests of the stations. -/

namespace Sys2Proof.Machine

variable {s t : State} {h : HeadId}

/-! ### Lookups (R18, R47 to R49) -/

/-- Segments with tests passed by a recipe's header: between one and eight (R1). -/
theorem firstFailing_none {tests : List (Nat × Bool)} (hn : firstFailing tests = none) {t : Nat × Bool} (ht : t ∈ tests) :
    t.2 = true := by
  simp only [firstFailing, Option.map_eq_none_iff, List.find?_eq_none] at hn
  simpa using hn t ht

/-- A recipe that a lookup lets through fits its head (R1, R48). -/
theorem lookupResult_good {maxPower : Nat} {record : Option (List Byte)} {r : Recipe}
    (hok : ∀ bs, record = some bs → storedRecipeOk bs = true) (hr : lookupResult maxPower record = .good r) :
    r.Fits maxPower := by
  unfold lookupResult at hr
  split at hr
  · cases hr
  · next bs =>
    simp only at hr
    split at hr
    · cases hr
    · next hceil =>
      cases hr
      have h1 := hok bs rfl
      simp only [storedRecipeOk, Bool.and_eq_true, Option.isNone_iff_eq_none] at h1
      have h2 := firstFailing_none h1.2 (t := (1, within 1 8 (bodyCount (bs.drop 2)) && bodyCount (bs.drop 2) == bodyCount (bs.drop 2)))
        (by simp [recipeTests, headerTests])
      simp only [within, Bool.and_eq_true, decide_eq_true_eq] at h2
      have hlen : (decodeRecipe (storedRevision bs) (bs.drop 2)).segments.length = bodyCount (bs.drop 2) := by
        simp [decodeRecipe]
      exact ⟨by omega, by omega, by simpa using hceil⟩

theorem State.endCycle_of_heating {reason : Option Reason} (hst : (s.heads.get h).state = .heating) :
    s.endCycle h reason = (s.cut h).finishCycle h reason := by
  simp only [State.endCycle, hst]

/-- The entry to HEATING (R47, R49): the move into it, then the end of the cycle or the shortfall counter at 0. -/
theorem quiets_enterHeating {c : Context} {r : Recipe} (looks : (s.heads.get h).state = .lookup)
    (hc : (s.heads.get h).ctx = some c) (port : s.store.port ≠ .scan) (fits : r.Fits (s.store.inForce.get h).maxPower) :
    Quiets s (s.enterHeating h r) := by
  have h1 : Quiets s (s.beginHeating h r) := .one (.heat h r c looks hc port fits)
  unfold State.enterHeating
  simp only
  split
  · next reason _ =>
    have e : (s.modHead h fun hd => { hd with state := .heating, ctx := hd.ctx.map (·.startHeating r) }).endCycle h
        (some reason) = (s.beginHeating h r).endCycle h (some reason) := by
      have hst : ((s.beginHeating h r).heads.get h).state = .heating := by simp [State.beginHeating]
      have ecut : (s.beginHeating h r).cut h =
          (s.modHead h fun hd => { hd with state := .heating, ctx := hd.ctx.map (·.startHeating r) }).cut h := by
        simp only [State.beginHeating, State.cut, State.modDisp, State.modCtx, State.modHead, State.modDrive,
          PerSix.set_set]
        rfl
      rw [State.endCycle_of_heating hst, ecut, State.endCycle_of_heating (by simp)]
    rw [e]
    exact h1.trans (quiets_endCycle _ h _)
  · exact h1.tail (.noShortfall h)

theorem quiets_modCtx_revision (s : State) (h : HeadId) (rev : Word16) :
    Quiets s (s.modCtx h fun c => { c with revision := rev }) :=
  quiets_modCtx fun _ => ⟨rfl, rfl, rfl, rfl, rfl, rfl, rfl, rfl, id⟩

theorem quiets_actOnLookup {c : Context} {result : LookupResult} (looks : (s.heads.get h).state = .lookup)
    (hc : (s.heads.get h).ctx = some c) (port : s.store.port ≠ .scan)
    (fits : ∀ r, result = .good r → r.Fits (s.store.inForce.get h).maxPower) : Quiets s (s.actOnLookup h result) := by
  cases result with
  | noRecipe => exact quiets_endCycle ..
  | recipeDamaged => exact quiets_endCycle ..
  | tooStrong rev => exact (quiets_modCtx_revision s h rev).trans (quiets_endCycle ..)
  | good r => exact quiets_enterHeating looks hc port (fits r rfl)

theorem State.takesLookup_iff {e : LookupEntry} :
    s.takesLookup e = true ↔
      (s.heads.get e.head).state = .lookup ∧ ∃ c, (s.heads.get e.head).ctx = some c ∧ c.cycle = e.cycle := by
  unfold State.takesLookup
  split
  · next hst hc => simp [hst, hc]
  · next hn =>
    simp only [Bool.false_eq_true, false_iff]
    rintro ⟨hst, c, hc, -⟩
    exact hn c hst hc

theorem quiets_deliverLookup {e : LookupEntry} {result : LookupResult} (port : s.store.port ≠ .scan)
    (fits : ∀ r, result = .good r → r.Fits (s.store.inForce.get e.head).maxPower) (corrected : Bool) :
    Quiets s (s.deliverLookup e result corrected) := by
  unfold State.deliverLookup
  split
  · next ht =>
    obtain ⟨hst, c, hc, -⟩ := State.takesLookup_iff.mp ht
    refine (quiets_modFlags s e.head _).trans (quiets_actOnLookup
      (c := { c with flags := { c.flags with eccCorrected := c.flags.eccCorrected || corrected } }) ?_ ?_ port fits)
    · simp [hst]
    · simp [hc]
  · exact .refl

/-- The start of a lookup on a free port (R18 step 1). -/
theorem quiets_startLookup (e : LookupEntry) (idle : s.store.port = .idle) : Quiets s (s.startLookup e) := by
  unfold State.startLookup
  split
  · exact quiets_deliverLookup (by simp [idle]) (fun r hr => by cases hr) false
  · next slot hs => exact quiets_store (.lookup e slot idle hs) rfl

theorem quiets_arriveLookup (s : State) (e : LookupEntry) : Quiets s (s.arriveLookup e) := by
  unfold State.arriveLookup
  split
  · next hidle => exact quiets_startLookup e hidle.1
  · exact quiets_store (.queue _) rfl

/-- Reading a recipe leaves who uses the port and the settings. -/
theorem Store.readRecipe_frame (st : Store) (slot : Nat) (flips : List CellFlip) :
    (st.readRecipe slot flips).1.port = st.port ∧ (st.readRecipe slot flips).1.supervisor = st.supervisor ∧
      (st.readRecipe slot flips).1.settings = st.settings ∧ (st.readRecipe slot flips).1.inForce = st.inForce := by
  rw [Store.readRecipe_store]
  simp only
  split <;> simp [Store.damage, Store.setStatus, Store.dropIndex, Store.flip]

/-- A record read as a recipe passed its tests (log entry 11). -/
theorem Store.readRecipe_ok {st : Store} {slot : Nat} {flips : List CellFlip} {bs : List Byte}
    (hr : (st.readRecipe slot flips).2.2 = some bs) : storedRecipeOk bs = true := by
  simp only [Store.readRecipe, readRecord, Option.filter_eq_some_iff] at hr
  exact hr.2

theorem quiets_execLookupComplete {flips : List CellFlip} (hs : execLookupComplete flips s = .next t) : Quiets s t := by
  unfold execLookupComplete at hs
  split at hs
  · next e slot hp =>
    cases hs
    obtain ⟨-, hsup, -, hforce⟩ := s.store.readRecipe_frame slot flips
    refine (quiets_store (.lookedUp e slot flips hp) hsup).trans (quiets_deliverLookup (by simp) ?_ _)
    intro r hr
    have := lookupResult_good (fun bs hbs => Store.readRecipe_ok hbs) hr
    simpa [hforce] using this
  all_goals cases hs; exact .refl

/-! ### The store port (R10 to R12) -/

/-- Starting an operation that waits in the slot and is no recipe read (R12, R15). -/
theorem quiets_startSupervisor {op : SupervisorOp} (idle : s.store.port = .idle)
    (waits : s.store.supervisor = some { op := op, started := false }) (hop : ∀ slot, op ≠ .recipeRead slot) :
    Quiets s (s.startSupervisor op) := by
  have occ : Quiets s (s.occupyPort op) := by
    refine .one (.store _ (.occupy op idle waits) ?_)
    simp [Store.Reading, waits]
  unfold State.startSupervisor
  split
  · next slot =>
    split
    · refine .one (.store _ (.erasedAtStart slot idle waits) ?_)
      simp [Store.Reading, waits, Store.finishOp]
    · exact occ
  · next slot => exact absurd rfl (hop slot)
  all_goals exact occ

/-! ### Reports (R63 to R65), and the abort-all character (R68) -/

theorem quiets_reportToHead (s : State) (h : HeadId) (reason : Reason) : Quiets s (s.reportToHead h reason) := by
  unfold State.reportToHead
  split
  · exact quiets_endCycle ..
  · exact .refl

theorem quiets_indexHead (s : State) (h : HeadId) : Quiets s (s.indexHead h) := by
  unfold State.indexHead
  split
  · exact quiets_endCycle ..
  · exact quiets_endCycle ..
  · exact quiets_modFlags ..
  all_goals exact .refl

theorem quiets_abortAll (s : State) (l : LinkId) : Quiets s (s.abortAll l) := by
  refine (quiets_modLink .closeUnit).trans (Quiets.forHeadsInOrder (fun h t => ?_) _)
  unfold State.abortAllHead
  split
  · exact quiets_endCycle ..
  · exact .refl

theorem quiets_setDrive (s : State) (h : HeadId) (st : DriveState) (timer : Option Nat) : Quiets s (s.setDrive h st timer) := by
  have h1 : Quiets s (s.modDrive h fun u => { u with state := st, timer := timer }) := quiets_modDrive (.report st timer)
  unfold State.setDrive
  simp only
  split
  · exact h1.trans (quiets_reportToHead ..)
  · exact h1

theorem quiets_statusFrame (s : State) (h : HeadId) (frame : StatusFrame) : Quiets s (s.statusFrame h frame) := by
  unfold State.statusFrame
  split
  · exact .refl
  · split
    · exact .refl
    · exact quiets_setDrive ..

theorem quiets_indexEvent (s : State) (serial : Word32) : Quiets s (s.indexEvent serial) := by
  have h1 : Quiets s (s.modSup fun u => { u with coil := serial, indexCount := u.indexCount + 1 }) :=
    .one (.sup _ rfl (.inl rfl) id)
  exact h1.trans (Quiets.forHeads (fun h t => quiets_indexHead t h) _)

theorem quiets_snoop (s : State) (kind : Byte) (payload : List Byte) : Quiets s (s.snoop kind payload) := by
  unfold State.snoop
  split
  · exact quiets_indexEvent ..
  · exact .refl

theorem quiets_cycleTimeUp (s : State) (h : HeadId) : Quiets s (s.cycleTimeUp h) := by
  have h1 : Quiets s (s.modCtx h fun c => { c with cycleTimer := none }) :=
    quiets_modCtx fun _ => ⟨rfl, rfl, rfl, rfl, rfl, rfl, rfl, rfl, fun _ => rfl⟩
  unfold State.cycleTimeUp
  simp only
  split
  · exact h1.trans (quiets_endCycle ..)
  · exact (h1.trans (quiets_modFlags ..)).trans (quiets_endCycle ..)
  · exact h1

theorem quiets_sensorLost (s : State) (h : HeadId) : Quiets s (s.sensorLost h) := by
  have h1 : Quiets s (s.modFront h fun fe => { fe with timer := none, sensor := .stale }) := quiets_modFront .lost
  unfold State.sensorLost
  simp only
  split
  · exact h1.trans (quiets_endCycle ..)
  · exact h1.trans (quiets_endCycle ..)
  · exact h1

theorem quiets_stepReplay (s : State) (h : HeadId) : Quiets s (s.stepReplay h) :=
  (quiets_modFront (f := fun fe => { fe with
    replayPos := min (fe.replayPos + 1) 255, replayNext := later fe.replayNext Config.replayPace })
    (.replaySteps _)).trans (quiets_takeSample ..)

/-! ### Burst windows (R111) -/

theorem quiets_nextWindow (s : State) (h : HeadId) (start : Word32) (runs : (s.drives.get h).windowStart ≠ none) :
    Quiets s (s.nextWindow h start) := by
  unfold State.nextWindow
  simp only
  split
  · refine (quiets_modCtx fun c => c.kept_accrue _).trans (quiets_modDrive ?_)
    have e : s.isDry h = (s.modCtx h fun c => c.accrue ((s.fields h).maxPower * (s.drives.get h).onTime)).isDry h := by
      rw [State.isDry_eq, State.isDry_eq, State.modCtx_heads_same, Option.map_map]
      rfl
    rw [e]
    exact .window _ _ runs
  · exact quiets_modDrive (.window _ _ runs)

theorem quiets_endOnPart (s : State) (h : HeadId) (runs : (s.drives.get h).windowStart ≠ none) :
    Quiets s (s.endOnPart h) :=
  (quiets_modCtx fun c => c.kept_accrue _).trans (quiets_modDrive (.partEnds runs))

end Sys2Proof.Machine
end

section
/-! PROOFS. The requests of the stations, the supervisor's commands and every other command as moves. -/

namespace Sys2Proof.Machine

variable {s t : State} {h : HeadId} {l : LinkId}

/-! ### Frames to the stations (R132, R135, R136) -/

theorem quiets_takeUnit (s : State) (l : LinkId) : Quiets s (s.takeUnit l) := quiets_modLink (.take _)

theorem quiets_placeFrame (room : (s.links.get l).txQueue.length < 8) (f : StationFrame) : Quiets s (s.placeFrame l f) :=
  quiets_modLink (.place f room)

theorem StationLink.room_of_canPlace {k : StationLink} (hk : k.canPlace = true) : k.txQueue.length < 8 := by
  simp only [StationLink.canPlace, Bool.and_eq_true, decide_eq_true_eq] at hk
  exact hk.2

/-- Where the service has a unit to take, the transmit queue has a free entry (R132), and keeps it when the unit is taken. -/
theorem State.takeUnit_room {u : List FifoChar} (hu : s.nextUnit l = some u) :
    ((s.takeUnit l).links.get l).txQueue.length < 8 := by
  unfold State.nextUnit at hu
  split at hu
  · next hc =>
    have : ((s.takeUnit l).links.get l).txQueue = (s.links.get l).txQueue := by
      unfold State.takeUnit State.modLink
      simp only [PerSix.get_modify_same, StationLink.judgeTaken]
      split <;> rfl
    rw [this]
    exact StationLink.room_of_canPlace hc.1
  · cases hu

/-! ### START (R45, R46) -/

/-- A front end that takes a sample: its status, and when it is usable its temperature (R32 to R35). -/
def FrontEnd.sampled (fe : FrontEnd) (status : SampleStatus) (raw : Word16) (timeout : Nat) : FrontEnd :=
  match fe.calibration.convert status raw with
  | none => { fe with lastStatus := some status }
  | some v => { fe with lastStatus := some status }.usable v timeout

/-- Outside HEATING and HOLD no cycle acts on a sample (R33, R34). -/
theorem State.holdWeak_outside (hst : (s.heads.get h).state ≠ .heating ∧ (s.heads.get h).state ≠ .hold) :
    s.holdWeak h = s := by
  unfold State.holdWeak
  split
  · next e => exact absurd e hst.1
  · next e => exact absurd e hst.2
  · rfl

theorem State.sampleEvent_outside (hst : (s.heads.get h).state ≠ .heating ∧ (s.heads.get h).state ≠ .hold) (v : Nat)
    (high : Bool) : s.sampleEvent h v high = s := by
  unfold State.sampleEvent
  split
  · next e _ => exact absurd e hst.1
  · next e _ => exact absurd e hst.2
  · rfl

/-- Outside HEATING and HOLD a sample reaches the front end alone (R34). -/
theorem State.takeSample_outside (hst : (s.heads.get h).state ≠ .heating ∧ (s.heads.get h).state ≠ .hold)
    (status : SampleStatus) (raw : Word16) :
    s.takeSample h status raw = s.modFront h fun fe => fe.sampled status raw (s.fields h).sensorTimeout := by
  unfold State.takeSample
  simp only
  split
  · next hc =>
    rw [State.holdWeak_outside (by simpa using hst)]
    simp only [State.modFront, PerSix.modify, FrontEnd.sampled, hc]
  · next v hc =>
    rw [State.sampleEvent_outside (by simpa using hst)]
    simp only [State.modFront, PerSix.modify, FrontEnd.sampled, hc, PerSix.set_set, PerSix.get_set_same]

/-- The front end of a replay that begins with this entry (R38). -/
def FrontEnd.replaying (fe : FrontEnd) (next : Word32) (timeout : Nat) (e : ReplayEntry) : FrontEnd :=
  { fe with replayActive := true, replayPos := 0, replayNext := next, timer := some timeout }.sampled e.status e.raw timeout

/-- Outside HEATING and HOLD a replay begins in the front end alone. -/
theorem State.beginReplay_outside (hst : (s.heads.get h).state ≠ .heating ∧ (s.heads.get h).state ≠ .hold) :
    s.beginReplay h = s.modFront h fun fe =>
      fe.replaying (later s.disp.timestamp Config.replayPace) (s.fields h).sensorTimeout
        (s.sup.replayTable.getD 0 { raw := 0, status := .low }) := by
  unfold State.beginReplay State.takeReplay
  simp only
  rw [State.takeSample_outside (by simpa using hst)]
  simp only [State.modFront, PerSix.modify, PerSix.set_set, PerSix.get_set_same, FrontEnd.replaying]
  rfl

theorem quiets_beginReplay (active : s.isActive h = true) (dry : s.isDry h = true) : Quiets s (s.beginReplay h) :=
  (quiets_modFront (f := fun fe => { fe with
    replayActive := true, replayPos := 0, replayNext := later s.disp.timestamp Config.replayPace
    timer := some (s.fields h).sensorTimeout }) (.replayBegins _ _ active dry)).trans (quiets_takeSample ..)

/-- The context a START creates (Table 3.2). -/
def State.startContext (s : State) (l : LinkId) (code : Nat) (joint : Word32) : Context :=
  Context.created (nextCycle s.disp.cycleCounter) joint s.sup.coil l code s.disp.timestamp (s.sup.mode == .service)

/-- The acceptance of a START (R46): the cycle begins, then its replay, its ACCEPT and its lookup. -/
theorem State.acceptStart_eq (tr : TraceUnit) (hidle : (s.heads.get h).state = .idle) (code : Nat) (joint : Word32)
    (buf : BufferId) :
    (s.modTrace fun _ => tr).acceptStart l h code joint buf =
      ((let u := s.beginCycle h tr buf (s.startContext l code joint)
        if (s.sup.mode == .service) && (s.fields h).source == .replay then u.beginReplay h else u).placeFrame l
          (.accept (BitVec.ofNat 8 h.val) (nextCycle s.disp.cycleCounter))).arriveLookup
        { head := h, cycle := nextCycle s.disp.cycleCounter, code := code } := by
  unfold State.acceptStart
  simp only
  refine congrArg (fun u : State => (u.placeFrame l _).arriveLookup _) ?_
  have hfields : (s.modTrace fun _ => tr).fields h = s.fields h := rfl
  simp only [State.modTrace_sup, hfields]
  split
  · rw [State.beginReplay_outside, State.beginReplay_outside]
    · simp only [State.modHead, State.modFront, State.modDisp, State.modTrace, State.beginCycle, PerSix.modify,
        PerSix.set_set, PerSix.get_set_same, State.startContext, Context.created]
      rfl
    · simp [State.beginCycle]
    · simp [hidle]
  · simp only [State.modHead, State.modDisp, State.modTrace, State.beginCycle, PerSix.modify,
      PerSix.set_set, PerSix.get_set_same, State.startContext, Context.created]

/-- Conditions 1 to 8 of Table 3.3 hold of a START that is not refused by them. -/
theorem State.startFailure_none (hf : s.startFailure l h = none) {x : StationRefusal × Bool}
    (hx : x ∈ s.startConditions l h) : x.2 = true := by
  simp only [State.startFailure, Option.map_eq_none_iff, List.find?_eq_none] at hf
  simpa using hf x hx

/-- What a START comes to: moves alone, or moves, the beginning of a cycle, and moves. -/
def State.StartOutcome (s t : State) : Prop :=
  Quiets s t ∨ ∃ u h tr buf c, Quiets s u ∧ u.Begins h tr buf c ∧ Quiets (u.beginCycle h tr buf c) t

theorem State.judgeStart_cases (room : (s.links.get l).txQueue.length < 8) (payload : List Byte) (code : Nat)
    (joint : Word32) : s.StartOutcome (s.judgeStart l payload h code joint) := by
  unfold State.judgeStart
  split
  · exact .inl (quiets_placeFrame room _)
  · next hf =>
    have cond : ∀ x ∈ s.startConditions l h, x.2 = true := fun x hx => State.startFailure_none hf hx
    simp only [State.startConditions, List.forall_mem_cons, beq_iff_eq, Bool.or_eq_true] at cond
    obtain ⟨hmode, -, -, hidle, -⟩ := cond
    simp only
    split
    · next hj =>
      have h1 : Quiets s (s.modTrace fun _ => s.trace.judgeStart.1) := by
        unfold TraceUnit.judgeStart at hj ⊢
        split
        · exact .refl
        · next i hi =>
          simp only [hi] at hj
          split
          · exact .refl
          · next hfree => exact .one (.trace _ (.closes i hi (.inr (.inr (Nat.lt_of_not_le hfree)))))
      exact .inl (h1.trans (quiets_placeFrame (s := s.modTrace _) room _))
    · next buf hj =>
      refine .inr ⟨s, h, s.trace.judgeStart.1, buf, s.startContext l code joint, .refl, ?_, ?_⟩
      · refine ⟨hidle, ?_, by rw [← hj], rfl, rfl, rfl, rfl, rfl⟩
        rcases hmode with e | e
        · exact .inl ⟨e, by simp [State.startContext, Context.created, e]⟩
        · exact .inr ⟨e, by simp [State.startContext, Context.created, e]⟩
      · rw [State.acceptStart_eq _ hidle]
        have h1 : ∀ u : State, u.links = s.links → Quiets u ((u.placeFrame l
            (.accept (BitVec.ofNat 8 h.val) (nextCycle s.disp.cycleCounter))).arriveLookup
              { head := h, cycle := nextCycle s.disp.cycleCounter, code := code }) := fun u hu =>
          (quiets_placeFrame (by rw [hu]; exact room) _).trans (quiets_arriveLookup ..)
        simp only
        split
        · next hr =>
          simp only [Bool.and_eq_true, beq_iff_eq] at hr
          have hactive : ((s.beginCycle h s.trace.judgeStart.1 buf (s.startContext l code joint)).heads.get h) =
              { s.heads.get h with state := .lookup, ctx := some (s.startContext l code joint) } := by
            simp [State.beginCycle]
          refine (quiets_beginReplay ?_ ?_).trans (h1 _ ?_)
          · rw [State.isActive_iff, hactive]; exact .inl rfl
          · rw [State.isDry_eq, hactive]; simp [State.startContext, Context.created, hr.1]
          · rw [State.beginReplay_outside (by rw [hactive]; simp)]; rfl
        · exact h1 _ rfl

theorem execStart_cases (hs : execStart l s = .next t) : s.StartOutcome t := by
  unfold execStart at hs
  split at hs
  · cases hs; exact .inl .refl
  · next u hu =>
    have room := State.takeUnit_room hu
    have h0 := quiets_takeUnit s l
    have lift : ∀ v, (s.takeUnit l).StartOutcome v → s.StartOutcome v := by
      rintro v (hv | ⟨u, h, tr, buf, c, h1, hb, h2⟩)
      · exact .inl (h0.trans hv)
      · exact .inr ⟨u, h, tr, buf, c, h0.trans h1, hb, h2⟩
    split at hs
    · cases hs
      apply lift
      unfold State.handleStart
      simp only
      split
      · exact .inl (quiets_placeFrame room _)
      · split
        · exact .inl (quiets_placeFrame room _)
        · exact State.judgeStart_cases room _ _ _
    · cases hs; exact .inl .refl

/-! ### ABORT, RELEASE, QUERY, LINK_ERROR, FINISHED -/

theorem quiets_execAbort (hs : execAbort l s = .next t) : Quiets s t := by
  unfold execAbort at hs
  split at hs
  · cases hs; exact .refl
  · next u hu =>
    have room := State.takeUnit_room hu
    split at hs
    · cases hs
      refine (quiets_takeUnit s l).trans ?_
      unfold State.handleAbort
      split
      · exact quiets_placeFrame room _
      · split
        · exact quiets_placeFrame room _
        · exact (quiets_endCycle ..).trans (quiets_placeFrame (by simpa using room) _)
    · cases hs; exact .refl

/-- A released head loses its context, then takes its deferred fields (R69). -/
theorem State.releaseHead_eq (s : State) (h : HeadId) :
    s.releaseHead h = if s.store.deferred.get h then (s.forgetCycle h).applyFields h else s.forgetCycle h := by
  unfold State.releaseHead
  simp only
  split
  · have e : ∀ (v : State) (f g : Head → Head), ((v.modHead h f).applyFields h).modHead h g =
        (v.modHead h (g ∘ f)).applyFields h := by
      intro v f g
      have hf : ∀ k, (v.modHead h k).fields h = v.fields h := fun _ => rfl
      unfold State.applyFields
      simp only [hf, State.modHead_store]
      split <;>
        simp only [State.modHead, State.modStore, State.modDrive, PerSix.modify, PerSix.set_set, PerSix.get_set_same,
          Function.comp]
    rw [e]
    rfl
  · simp only [State.forgetCycle, State.modHead, PerSix.modify, PerSix.set_set, PerSix.get_set_same]

theorem quiets_releaseHead (ended : (s.heads.get h).state = .done ∨ (s.heads.get h).state = .faulted) :
    Quiets s (s.releaseHead h) := by
  have h1 : Quiets s (s.forgetCycle h) := .one (.forget h ended)
  rw [State.releaseHead_eq]
  split
  · exact h1.tail (.applyFields h (by simp [State.forgetCycle]))
  · exact h1

theorem State.releaseHead_links (s : State) (h : HeadId) : (s.releaseHead h).links = s.links := by
  rw [State.releaseHead_eq]
  split
  · rw [State.applyFields_links]; rfl
  · rfl

theorem quiets_execRelease (hs : execRelease l s = .next t) : Quiets s t := by
  unfold execRelease at hs
  split at hs
  · cases hs; exact .refl
  · next u hu =>
    have room := State.takeUnit_room hu
    split at hs
    · cases hs
      refine (quiets_takeUnit s l).trans ?_
      unfold State.handleRelease
      split
      · exact quiets_placeFrame room _
      · split
        · exact quiets_placeFrame room _
        · split
          · next hst =>
            exact (quiets_releaseHead hst).trans (quiets_placeFrame (by rw [State.releaseHead_links]; exact room) _)
          · exact quiets_placeFrame room _
    · cases hs; exact .refl

theorem quiets_execQuery (hs : execQuery l s = .next t) : Quiets s t := by
  unfold execQuery at hs
  split at hs
  · cases hs; exact .refl
  · next u hu =>
    have room := State.takeUnit_room hu
    split at hs
    · cases hs
      refine (quiets_takeUnit s l).trans ?_
      unfold State.handleQuery
      split <;> exact quiets_placeFrame room _
    · cases hs; exact .refl

theorem quiets_execLinkError (hs : execLinkError l s = .next t) : Quiets s t := by
  unfold execLinkError at hs
  split at hs
  · cases hs; exact .refl
  · next u hu =>
    split at hs
    · cases hs
      exact (quiets_takeUnit s l).trans (quiets_placeFrame (State.takeUnit_room hu) _)
    · cases hs; exact .refl

theorem quiets_execFinished (hs : execFinished l s = .next t) : Quiets s t := by
  unfold execFinished at hs
  split at hs
  · next hk =>
    split at hs
    · cases hs; exact .refl
    · split at hs
      · cases hs; exact .refl
      · next h _ _ _ _ =>
        cases hs
        exact (Quiets.one (.notice h)).trans (quiets_placeFrame (s := s.modHead h _) (StationLink.room_of_canPlace hk) _)
  · cases hs; exact .refl

theorem quiets_execStationCharacter {c : Character} (hs : execStationCharacter l c s = .next t) : Quiets s t := by
  unfold execStationCharacter at hs
  have h1 : Quiets s (s.modLink l fun k => { k with spoiled := false }) := quiets_modLink (.spoiled false)
  split at hs
  · cases hs; exact .refl
  · simp only at hs
    split at hs
    · cases hs; exact h1.trans (quiets_abortAll ..)
    · cases hs; exact h1.trans (quiets_modLink (.receive _ _))

/-! ### The supervisor's commands (Table 9.2) -/

/-- Accepting an operation is holding it, then starting it where the port is free (R11). -/
theorem State.acceptOp_eq (s : State) (op : SupervisorOp) :
    s.acceptOp op =
      let u := s.modStore fun st => { st with supervisor := some { op := op, started := false } }
      if s.store.port = .idle ∧ s.store.queue = [] then u.startSupervisor op else u := by
  unfold State.acceptOp
  simp only
  split
  · unfold State.startSupervisor
    cases op with
    | recipeErase slot =>
      by_cases he : s.store.slotStatus.getD slot .empty = .empty
      · exact (if_pos he).trans (if_pos he).symm
      · exact (if_neg he).trans (if_neg he).symm
    | recipeRead slot =>
      simp only [State.modStore_store]
      generalize s.store.slotStatus.getD slot .empty = status
      cases status <;> rfl
    | recipeWrite _ _ => rfl
    | calibrationWrite _ _ => rfl
    | settingsWrite _ => rfl
  · rfl

theorem quiets_acceptOp {op : SupervisorOp} (free : s.store.supervisor = none) (admitted : op.Admitted s.store)
    (started : s.sup.mode ≠ .starting) (hop : ∀ slot, op ≠ .recipeRead slot) : Quiets s (s.acceptOp op) := by
  have h1 : Quiets s (s.modStore fun st => { st with supervisor := some { op := op, started := false } }) := by
    refine .one (.store _ (.accept op free admitted started) ?_)
    simp [Store.Reading, free, hop]
  rw [State.acceptOp_eq]
  simp only
  split
  · next hidle => exact h1.trans (quiets_startSupervisor hidle.1 rfl hop)
  · exact h1

/-- The field tests of a calibration make a sound copy (R5, R29). -/
theorem decodeCalibration_sound {b : List Byte} (hb : firstFailing (calibrationTests b) = none) :
    (decodeCalibration b).sound := by
  have hpoint : ∀ k < 17, u16At b (2 * k) ≤ 12000 ∧ (k = 0 ∨ u16At b (2 * (k - 1)) ≤ u16At b (2 * k)) := by
    intro k hk
    have := firstFailing_none hb (List.mem_append_left _ (List.mem_map_of_mem (List.mem_range.mpr hk)))
    simpa using this
  have hoffset : -500 ≤ s16At b 34 ∧ s16At b 34 ≤ 500 := by
    have := firstFailing_none hb (List.mem_append_right _ (List.mem_singleton.mpr rfl))
    simpa using this
  refine ⟨by simp [decodeCalibration], ?_, ?_, hoffset⟩
  · intro p hp
    obtain ⟨k, hk, rfl⟩ := List.mem_map.mp hp
    exact (hpoint k (List.mem_range.mp hk)).1
  · intro k hk
    have hget : ∀ j < 17, (decodeCalibration b).point j = u16At b (2 * j) := by
      intro j hj
      simp [Calibration.point, decodeCalibration, hj]
    rw [hget k (by omega), hget (k + 1) (by omega)]
    exact_mod_cast (hpoint (k + 1) (by omega)).2.resolve_left (by omega)

/-- The field tests of the settings bound the default budget (R6 field 42). -/
theorem settingsTests_budget {b : List Byte} (hb : firstFailing (settingsTests b) = none) : u16At b 54 ≤ 2400 := by
  have := firstFailing_none hb (t := (42, decide (u16At b 54 ≤ 2400)))
    (List.mem_append_right _ (by simp [globalFieldTests]))
  simpa using this

/-- Entries written within the replay table leave its length (R177). -/
theorem writeReplay_length {table : List ReplayEntry} {offset : Nat} {entries : List ReplayEntry}
    (hfit : offset + entries.length ≤ table.length) : (writeReplay table offset entries).length = table.length := by
  simp only [writeReplay, List.length_append, List.length_take, List.length_drop]
  omega

theorem quiets_refuseBusy (s : State) : Quiets s s.refuseBusy.1 := quiets_drawFree s

theorem quiets_writeRecipe (p : List Byte) (started : s.sup.mode ≠ .starting) :
    Quiets s (performWriteRecipe p s).1 ∧ (performWriteRecipe p s).2 ≠ .forming := by
  unfold performWriteRecipe
  simp only
  split
  · exact ⟨quiets_refuseBusy s, by simp [State.refuseBusy]⟩
  · next hfree =>
    have free : s.store.supervisor = none := by simpa using hfree
    split
    · exact ⟨.refl, by simp [invalid]⟩
    · next hf =>
      have hslot : byteAt p 0 < 48 := by
        unfold recipeFailure at hf
        split at hf
        · cases hf
        · omega
      split
      · next other ho =>
        split
        · next e => exact ⟨quiets_acceptOp free ⟨hslot, .inr (by rw [ho, e])⟩ started (by simp), by simp⟩
        · exact ⟨.refl, by simp⟩
      · next ho => exact ⟨quiets_acceptOp free ⟨hslot, .inl ho⟩ started (by simp), by simp⟩

theorem quiets_eraseRecipe (p : List Byte) (started : s.sup.mode ≠ .starting) :
    Quiets s (performEraseRecipe p s).1 ∧ (performEraseRecipe p s).2 ≠ .forming := by
  unfold performEraseRecipe
  simp only
  split
  · exact ⟨quiets_refuseBusy s, by simp [State.refuseBusy]⟩
  · next hfree =>
    split
    · exact ⟨.refl, by simp [invalid]⟩
    · next hslot => exact ⟨quiets_acceptOp (by simpa using hfree) (Nat.lt_succ_of_le (Nat.le_of_not_lt hslot)) started (by simp), by simp⟩

theorem quiets_writeCal (p : List Byte) (started : s.sup.mode ≠ .starting) :
    Quiets s (performWriteCal p s).1 ∧ (performWriteCal p s).2 ≠ .forming := by
  unfold performWriteCal
  simp only
  split
  · exact ⟨quiets_refuseBusy s, by simp [State.refuseBusy]⟩
  · next hfree =>
    split
    · exact ⟨.refl, by simp [invalid]⟩
    · next h _ =>
      split
      · exact ⟨.refl, by simp⟩
      · split
        · exact ⟨.refl, by simp [invalid]⟩
        · next hb =>
          have h1 : Quiets s (s.modFront h fun fe => { fe with calValid := false }) := quiets_modFront .uncalibrated
          exact ⟨h1.trans (quiets_acceptOp (by simpa using hfree) (decodeCalibration_sound hb) started (by simp)), by simp⟩

theorem quiets_writeSettings (p : List Byte) (started : s.sup.mode ≠ .starting) :
    Quiets s (performWriteSettings p s).1 ∧ (performWriteSettings p s).2 ≠ .forming := by
  unfold performWriteSettings
  split
  · exact ⟨quiets_refuseBusy s, by simp [State.refuseBusy]⟩
  · next hfree =>
    split
    · exact ⟨.refl, by simp⟩
    · split
      · exact ⟨.refl, by simp [invalid]⟩
      · next hb => exact ⟨quiets_acceptOp (by simpa using hfree) (settingsTests_budget hb) started (by simp), by simp⟩

theorem quiets_headEnable (p : List Byte) (s : State) :
    Quiets s (performHeadEnable p s).1 ∧ (performHeadEnable p s).2 ≠ .forming := by
  unfold performHeadEnable
  split
  · exact ⟨.refl, by simp [invalid]⟩
  · next h _ =>
    split
    · exact ⟨.refl, by simp [invalid]⟩
    · refine ⟨?_, by simp⟩
      have h1 : ∀ b, Quiets s (s.setEnable h b) := fun b => .one (.sup _ rfl (.inl rfl) id)
      simp only [State.enableHead]
      split
      · exact h1 true
      · exact (h1 false).trans (quiets_endCycle ..)

theorem quiets_releaseTrace (p : List Byte) (s : State) :
    Quiets s (performReleaseTrace p s).1 ∧ (performReleaseTrace p s).2 ≠ .forming := by
  unfold performReleaseTrace
  split
  · exact ⟨.refl, by simp [invalid]⟩
  · next i _ =>
    split
    · next hfull => exact ⟨.one (.trace _ (.releases i hfull)), by simp⟩
    · exact ⟨.refl, by simp⟩

theorem quiets_flushTrace (p : List Byte) (s : State) :
    Quiets s (performFlushTrace p s).1 ∧ (performFlushTrace p s).2 ≠ .forming := by
  refine ⟨?_, by simp [performFlushTrace]⟩
  simp only [performFlushTrace, State.modTrace]
  unfold TraceUnit.flush
  split
  · exact .refl
  · next i hi =>
    split
    · exact .refl
    · next hused => exact .one (.trace _ (.closes i hi (by omega)))

theorem quiets_loadReplay (p : List Byte) (s : State) :
    Quiets s (performLoadReplay p s).1 ∧ (performLoadReplay p s).2 ≠ .forming := by
  unfold performLoadReplay
  split
  · exact ⟨.refl, by simp⟩
  · split
    · exact ⟨.refl, by simp [invalid]⟩
    · next ht =>
      refine ⟨.one (.sup _ rfl (.inl rfl) fun hlen => ?_), by simp⟩
      have hfit := firstFailing_none ht (t := (0, decide (u16At p 0 + byteAt p 2 ≤ 256))) (by simp [replayTests])
      rw [writeReplay_length, hlen]
      simpa [replayEntriesOf, hlen] using hfit

/-- Every supervisor command but SET_MODE, CLEAR and READ_RECIPE is moves alone, and its reply is formed at once. -/
theorem quiets_perform {k : CommandKind} (p : List Byte) (hk : k ≠ .setMode ∧ k ≠ .clear ∧ k ≠ .readRecipe)
    (started : s.sup.mode ≠ .starting ∨ k.inStarting = true) :
    Quiets s (k.perform p s).1 ∧ (k.perform p s).2 ≠ .forming := by
  obtain ⟨h1, h2, h3⟩ := hk
  cases k with
  | setMode => exact absurd rfl h1
  | clear => exact absurd rfl h2
  | readRecipe => exact absurd rfl h3
  | status => exact ⟨.refl, by simp [CommandKind.perform, performStatus]⟩
  | setBudget => exact ⟨.one (.budget _ (min_le_right ..)), by simp [CommandKind.perform, performSetBudget]⟩
  | ackRestart => exact ⟨.one (.sup _ rfl (.inr rfl) id), by simp [CommandKind.perform, performAckRestart]⟩
  | headEnable => exact quiets_headEnable p s
  | readHead =>
    simp only [CommandKind.perform, performReadHead]
    split
    · exact ⟨.refl, by simp [invalid]⟩
    · exact ⟨.refl, by simp⟩
  | listCodes => exact ⟨.refl, by simp [CommandKind.perform, performListCodes]⟩
  | readCal =>
    simp only [CommandKind.perform, performReadCal]
    split
    · exact ⟨.refl, by simp [invalid]⟩
    · exact ⟨.refl, by simp⟩
  | readSettings => exact ⟨.refl, by simp [CommandKind.perform, performReadSettings]⟩
  | writeRecipe => exact quiets_writeRecipe p (started.resolve_right (by simp [CommandKind.inStarting]))
  | eraseRecipe => exact quiets_eraseRecipe p (started.resolve_right (by simp [CommandKind.inStarting]))
  | writeCal => exact quiets_writeCal p (started.resolve_right (by simp [CommandKind.inStarting]))
  | writeSettings => exact quiets_writeSettings p (started.resolve_right (by simp [CommandKind.inStarting]))
  | traceInfo => exact ⟨.refl, by simp [CommandKind.perform, performTraceInfo]⟩
  | readTrace =>
    simp only [CommandKind.perform, performReadTrace]
    split
    · exact ⟨.refl, by simp [invalid]⟩
    · split
      · exact ⟨.refl, by simp⟩
      · exact ⟨.refl, by simp⟩
  | releaseTrace => exact quiets_releaseTrace p s
  | flushTrace => exact quiets_flushTrace p s
  | loadReplay => exact quiets_loadReplay p s

/-! ### The commands that are moves alone -/

/-- The commands that leave the line link, the settings and the mode but for the drain watch, and accept no START. -/
def isQuiet : Instr → Bool
  | .recipeWriteComplete _ | .recipeEraseComplete | .calibrationWriteComplete _ | .lookupComplete _ | .sample _ _
  | .replayStep _ | .sensorTimerExpiry _ | .cycleTimeExpiry _ | .dispatchExpiry | .windowStart _ | .onPartEnd _
  | .driveFrameSent _ | .driveStatus _ _ | .driveStatusTimeout _ | .cabinetInputChange _ | .stationCharacter _ _
  | .interCharacterTimerExpiry _ | .abort _ | .release _ | .query _ | .linkError _ | .finished _ | .transmitFrameSent _
  | .holdInputChange _ _ _ | .sensorCharacter _ _ | .driveStatusCharacter _ _ | .timestampTick => true
  | _ => false

theorem State.runningOp_eq {op : SupervisorOp} (ho : s.runningOp = some op) :
    s.store.port = .supervisor ∧ s.store.supervisor = some { op := op, started := true } := by
  unfold State.runningOp at ho
  split at ho
  · next h1 h2 => cases ho; exact ⟨h1, h2⟩
  · cases ho

theorem Store.completeRecipeWrite_supervisor (st : Store) (slot : Nat) (body : List Byte) (w : WriteResult) :
    (st.completeRecipeWrite slot body w).supervisor = none := rfl

theorem quiets_execRecipeWriteComplete {w : WriteResult} (hs : execRecipeWriteComplete w s = .next t) : Quiets s t := by
  unfold execRecipeWriteComplete at hs
  split at hs
  · next slot body ho =>
    cases hs
    obtain ⟨hp, hsup⟩ := State.runningOp_eq ho
    refine .one (.store _ (.written slot body w hp hsup) ?_)
    simp [Store.Reading, hsup, Store.completeRecipeWrite_supervisor]
  · cases hs; exact .refl

theorem quiets_execRecipeEraseComplete (hs : execRecipeEraseComplete s = .next t) : Quiets s t := by
  unfold execRecipeEraseComplete at hs
  split at hs
  · next slot ho =>
    cases hs
    obtain ⟨hp, hsup⟩ := State.runningOp_eq ho
    refine .one (.store _ (.erased slot hp hsup) ?_)
    simp [Store.Reading, hsup, Store.completeErase, Store.finishOp]
  · cases hs; exact .refl

theorem quiets_execCalibrationWriteComplete {w : WriteResult} (hs : execCalibrationWriteComplete w s = .next t) :
    Quiets s t := by
  unfold execCalibrationWriteComplete at hs
  split at hs
  · next h body ho =>
    obtain ⟨hp, hsup⟩ := State.runningOp_eq ho
    have m : ∀ u : State, u.store = s.store → Quiets u (u.modStore fun st =>
        (st.storeRecord (calibrationSlotOf h) body w).finishOp .calibrationWrite (resultOf (writeOk body w))) := by
      intro u hu
      refine .one (.store _ (.calibrated h body w (by rw [hu]; exact hp) (by rw [hu]; exact hsup)) ?_)
      simp [Store.Reading, hu, hsup, Store.finishOp]
    simp only at hs
    split at hs
    · cases hs
      exact (quiets_modFront (f := fun fe => { fe with calibration := decodeCalibration body, calValid := true })
        (.calibrated body hsup)).trans (m (s.modFront h _) rfl)
    · cases hs; exact m s rfl
  · cases hs; exact .refl

theorem quiets_execDriveStatusCharacter {c : Character} (hs : execDriveStatusCharacter h c s = .next t) : Quiets s t := by
  have rx : ∀ x, Quiets s (s.modDrive h fun u => { u with rx := x }) := fun x => quiets_modDrive (.receive x)
  unfold execDriveStatusCharacter at hs
  split at hs
  · cases hs; exact rx _
  · split at hs
    · cases hs; exact .refl
    · split at hs
      · cases hs; exact (rx _).trans (quiets_statusFrame ..)
      · cases hs; exact rx _

theorem quiets_execSensorCharacter {c : Character} (hs : execSensorCharacter h c s = .next t) : Quiets s t := by
  have rx : ∀ x, Quiets s (s.modFront h fun u => { u with rx := x }) := fun x => quiets_modFront (.receive x)
  unfold execSensorCharacter at hs
  split at hs
  · cases hs; exact rx _
  · split at hs
    · cases hs; exact .refl
    · split at hs
      · cases hs; exact (rx _).trans (quiets_sampleFrame ..)
      · cases hs; exact rx _

/-- What a command that is moves alone answers. -/
theorem quiets_exec {i : Instr} (hi : isQuiet i = true) (hs : exec i s = .next t) : Quiets s t := by
  cases i <;> cases hi
  case recipeWriteComplete w => exact quiets_execRecipeWriteComplete hs
  case recipeEraseComplete => exact quiets_execRecipeEraseComplete hs
  case calibrationWriteComplete w => exact quiets_execCalibrationWriteComplete hs
  case lookupComplete flips => exact quiets_execLookupComplete hs
  case sample h frame =>
    cases hs
    exact (quiets_modFront (f := fun fe => { fe with rx := none }) (.receive none)).trans (quiets_sampleFrame ..)
  case replayStep h =>
    simp only [exec, execReplayStep] at hs
    split at hs
    · cases hs; exact quiets_stepReplay s h
    · cases hs; exact .refl
  case sensorTimerExpiry h =>
    simp only [exec, execSensorTimerExpiry] at hs
    split at hs
    · cases hs; exact quiets_sensorLost s h
    · cases hs; exact .refl
  case cycleTimeExpiry h =>
    simp only [exec, execCycleTimeExpiry] at hs
    split at hs
    · cases hs; exact quiets_cycleTimeUp s h
    · cases hs; exact .refl
  case dispatchExpiry =>
    simp only [exec, execDispatchExpiry] at hs
    split at hs
    · cases hs; exact .one .expire
    · cases hs; exact .refl
  case windowStart h =>
    simp only [exec, execWindowStart] at hs
    split at hs
    · cases hs; exact .refl
    · next hw =>
      split at hs
      · cases hs; exact quiets_nextWindow s h _ (by simp [hw])
      · cases hs; exact .refl
  case onPartEnd h =>
    simp only [exec, execOnPartEnd] at hs
    split at hs
    · next hdue =>
      cases hs
      refine quiets_endOnPart s h fun hw => ?_
      simp [State.onPartDue, hw] at hdue
    · cases hs; exact .refl
  case driveFrameSent h =>
    simp only [exec, execDriveFrameSent] at hs
    split at hs
    · cases hs; exact quiets_modDrive .sent
    · cases hs; exact .refl
  case driveStatus h frame =>
    cases hs
    exact (quiets_modDrive (f := fun u => { u with rx := none }) (.receive none)).trans (quiets_statusFrame ..)
  case driveStatusTimeout h =>
    simp only [exec, execDriveStatusTimeout] at hs
    split at hs
    · cases hs; exact quiets_setDrive ..
    · cases hs; exact .refl
  case cabinetInputChange level =>
    simp only [exec, execCabinetInputChange] at hs
    split at hs
    · cases hs; exact .refl
    · split at hs
      · cases hs; exact .one (.cabinet _)
      · cases hs
        exact (Quiets.one (.cabinet .notReady)).trans (Quiets.forHeads (fun h t => quiets_reportToHead t h _) _)
  case stationCharacter l c => exact quiets_execStationCharacter hs
  case interCharacterTimerExpiry l =>
    simp only [exec, execInterCharacterTimerExpiry] at hs
    split at hs
    · cases hs; exact .refl
    · cases hs; exact quiets_modLink .gap
  case abort l => exact quiets_execAbort hs
  case release l => exact quiets_execRelease hs
  case query l => exact quiets_execQuery hs
  case linkError l => exact quiets_execLinkError hs
  case finished l => exact quiets_execFinished hs
  case transmitFrameSent l =>
    simp only [exec, execTransmitFrameSent] at hs
    split at hs
    · cases hs; exact quiets_modLink .sent
    · cases hs; exact .refl
  case holdInputChange l asserted position => cases hs; exact quiets_modLink (.hold asserted position)
  case sensorCharacter h c => exact quiets_execSensorCharacter hs
  case driveStatusCharacter h c => exact quiets_execDriveStatusCharacter hs
  case timestampTick => cases hs; exact .one .tick

end Sys2Proof.Machine
end

section
/-! PROOFS. What every command keeps: a property kept by each move, and by the few changes that are more than moves, is kept by
every command and so by every step. -/

namespace Sys2Proof.Machine

variable {s t : State} {h : HeadId} {l : LinkId} {P : State → Prop}

/-- A property kept by every change a command but START is made of. -/
structure Kept (P : State → Prop) : Prop where
  quiet : ∀ {s t}, Quiet s t → P s → P t
  store : ∀ {s st}, StoreMove s st → P s → P { s with store := st }
  line : ∀ {s} (k : LineLink), P s → P { s with line := k }
  modes : ∀ {s} (p), s.sup.mode ≠ .starting → P s → P (performSetMode p s).1 ∧ P (performClear p s).1
  adopt : ∀ {s body started}, s.store.supervisor = some { op := .settingsWrite body, started := started } → P s →
    P (s.adopt (decodeSettings body))
  scan : ∀ {s} (flips), s.store.port = .scan → P s → P (s.scan flips).handOver
  reset : ∀ {s} (left straps cabinet), P s → P (State.resetWith (s.memoryAfterReset left) (s.settingsFailedAfterReset left)
    straps cabinet (s.links.map (·.holdIn)) s.freeCount s.pending)

theorem Kept.quiets (k : Kept P) (q : Quiets s t) (hp : P s) : P t := by
  induction q with
  | refl => exact hp
  | tail _ q ih => exact k.quiet q ih

/-- A move never leads into STARTING. -/
theorem Quiet.mode (q : Quiet s t) : t.sup.mode = s.sup.mode ∨ (s.sup.mode = .draining ∧ t.sup.mode = .standby) := by
  cases q with
  | sup u mode => exact .inl mode
  | applyFields h => exact .inl (by simp)
  | run h c =>
    unfold State.runLoop; split <;> exact .inl rfl
  | advance h c =>
    unfold State.runLoop; split <;> exact .inl rfl
  | close h reason c c' =>
    have e : (s.leaveCycle h).sup = s.sup := by unfold State.leaveCycle; split <;> rfl
    unfold State.closeCycle
    rw [State.watchDrain_sup]
    split
    · next hd => exact .inr ⟨by rw [← e]; exact hd.1, rfl⟩
    · exact .inl (by rw [← e])
  | expire => exact .inl (by rw [State.expire_sup])
  | _ => exact .inl rfl

theorem Quiets.started (q : Quiets s t) (hs : s.sup.mode ≠ .starting) : t.sup.mode ≠ .starting := by
  induction q with
  | refl => exact hs
  | tail _ q ih =>
    rcases q.mode with e | ⟨-, e⟩
    · rwa [e]
    · rw [e]; decide

/-- A property that no change of the mode outside STARTING touches is kept by SET_MODE and CLEAR. -/
theorem modes_of_setModeTo (quiet : ∀ {s t}, Quiet s t → P s → P t)
    (mode : ∀ {s : State} (m), s.sup.mode ≠ .starting → m ≠ .starting → P s → P (s.setModeTo m)) (p : List Byte)
    (hs : s.sup.mode ≠ .starting) (hp : P s) : P (performSetMode p s).1 ∧ P (performClear p s).1 := by
  have quiets : ∀ {s t}, Quiets s t → P s → P t := fun q hp => by
    induction q with
    | refl => exact hp
    | tail _ q ih => exact quiet q ih
  constructor
  · unfold performSetMode
    split
    · unfold State.toStandby
      split
      · exact hp
      · exact mode _ hs (by split <;> simp) hp
      · exact hp
      · refine quiets (Quiets.forHeads (fun h t => ?_) _) (mode .standby hs (by simp) hp)
        unfold State.endDry
        split
        · exact quiets_endCycle ..
        · exact .refl
      · exact hp
    · unfold State.toProduction
      split
      · split
        · exact hp
        · exact mode _ hs (by simp) hp
      · exact hp
      · exact mode _ hs (by simp) hp
      · exact hp
      · exact hp
    · unfold State.toService
      split
      · exact mode _ hs (by simp) hp
      · exact hp
      · exact hp
      · exact hp
      · exact hp
    · exact hp
  · have q : Quiets s (State.forHeads { s with links := s.links.map StationLink.clear } State.clearHead) :=
      (Quiets.one (.links _ fun l => by rw [PerSix.get_map]; exact .clear)).trans
        (Quiets.forHeads (fun h t => quiets_endCycle ..) _)
    exact mode .standby (q.started hs) (by simp) (quiets q hp)

/-! ### The store port and the line link -/

theorem Kept.formReply (k : Kept P) (r : LineReply) (hp : P s) : P (s.formReply r) := by
  unfold State.formReply
  split
  · exact k.line _ hp
  · exact hp

theorem Kept.startSupervisor (k : Kept P) {op : SupervisorOp} (idle : s.store.port = .idle)
    (waits : s.store.supervisor = some { op := op, started := false }) (hp : P s) : P (s.startSupervisor op) := by
  by_cases hop : ∃ slot, op = .recipeRead slot
  · obtain ⟨slot, rfl⟩ := hop
    have done : P (s.modStore Store.finishRead) := k.store (.readAtStart slot idle waits) hp
    unfold State.startSupervisor
    simp only
    split
    · exact k.formReply _ done
    · exact k.formReply _ done
    · exact k.store (.occupy _ idle waits) hp
  · exact k.quiets (quiets_startSupervisor idle waits fun slot e => hop ⟨slot, e⟩) hp

theorem Kept.acceptOp (k : Kept P) {op : SupervisorOp} (free : s.store.supervisor = none) (admitted : op.Admitted s.store)
    (started : s.sup.mode ≠ .starting) (hp : P s) : P (s.acceptOp op) := by
  have held := k.store (.accept op free admitted started) hp
  rw [State.acceptOp_eq]
  simp only
  split
  · next hidle => exact k.startSupervisor (s := s.modStore _) hidle.1 rfl held
  · exact held

theorem Kept.perform (k : Kept P) {c : CommandKind} (p : List Byte)
    (started : s.sup.mode ≠ .starting ∨ c.inStarting = true) (hp : P s) : P (c.perform p s).1 := by
  have hns : ∀ {c : CommandKind}, (s.sup.mode ≠ .starting ∨ c.inStarting = true) → c.inStarting = false →
      s.sup.mode ≠ .starting := fun ha hb => ha.resolve_right (by simp [hb])
  by_cases h1 : c = .setMode
  · subst h1; exact (k.modes p (hns started rfl) hp).1
  by_cases h2 : c = .clear
  · subst h2; exact (k.modes p (hns started rfl) hp).2
  by_cases h3 : c = .readRecipe
  · subst h3
    simp only [CommandKind.perform, performReadRecipe]
    split
    · exact k.quiets (quiets_refuseBusy s) hp
    · next hfree =>
      split
      · exact hp
      · next hslot =>
        exact k.acceptOp (by simpa using hfree) (Nat.lt_succ_of_le (Nat.le_of_not_lt hslot)) (hns started rfl) hp
  · exact k.quiets (quiets_perform p ⟨h1, h2, h3⟩ started).1 hp

/-- A command that passes its gates is let through by the mode. -/
theorem started_of_gate {c : CommandKind} {n : Nat} {m : Mode} (hg : gateFailure c n m = none) :
    m ≠ .starting ∨ c.inStarting = true := by
  unfold gateFailure at hg
  split at hg
  · cases hg
  · split at hg
    · cases hg
    · next hn =>
      by_cases hm : m = .starting
      · exact .inr (by simpa [hm] using hn)
      · exact .inl hm

theorem Kept.concludeCommand (k : Kept P) (kind : Byte) {r : State × CommandOutcome} (hp : P r.1) :
    P (concludeCommand kind r) := by
  unfold Machine.concludeCommand
  split
  · exact k.formReply _ hp
  · exact k.formReply _ hp
  · exact hp

theorem Kept.takeCommand (k : Kept P) (c : CommandKind) (p : List Byte) (hp : P s) : P (takeCommand c c.perform p s) := by
  have howe : P s.owe := k.line _ hp
  unfold Machine.takeCommand
  apply k.concludeCommand
  split
  · exact howe
  · next hg => exact k.perform (s := s.owe) p (started_of_gate hg) howe

theorem Kept.routeFrame (k : Kept P) (address : Nat) (kind : Byte) (p : List Byte) (hp : P s) :
    P (s.routeFrame address kind p) := by
  unfold State.routeFrame
  split
  · exact k.quiets (quiets_snoop ..) hp
  · split
    · unfold State.commandFrame
      split
      · split
        · exact k.takeCommand _ p hp
        · exact k.concludeCommand _ (k.line _ hp)
      · exact hp
    · exact hp

theorem Kept.wholeFrame (k : Kept P) (address : Nat) (kind : Byte) (p : List Byte) (hp : P s) :
    P (s.wholeFrame address kind p) := by
  unfold State.wholeFrame
  split
  · exact hp
  · split
    · exact k.line _ hp
    · exact k.routeFrame _ _ _ (k.line _ hp)

theorem Kept.supervisorFrame (k : Kept P) (c : CommandKind) (p : List Byte) (hp : P s) :
    P (s.supervisorFrame c c.perform p) := by
  have hdrop : P (s.modLine LineLink.dropFrame) := k.line _ hp
  unfold State.supervisorFrame
  split
  · exact hp
  · split
    · exact k.line _ hp
    · simp only
      split
      · exact hdrop
      · split
        · exact k.takeCommand c p hdrop
        · exact hdrop

theorem Kept.lineCharacter (k : Kept P) (c : Character) (hp : P s) : P (s.lineCharacter c) := by
  have h1 : P (s.modLine fun k => { k with spoiled := false }) := k.line _ hp
  unfold State.lineCharacter State.takeLineCharacter
  split
  · exact k.line _ h1
  · split
    · exact k.line _ h1
    · split
      · unfold State.storeLine
        split
        · exact k.line _ h1
        · split
          · unfold State.completeLine
            split
            · exact k.routeFrame _ _ _ (k.line _ h1)
            · exact k.line _ h1
          · exact k.line _ h1
      · exact h1

/-! ### New settings (R17) -/

theorem Kept.settleFields (k : Kept P) (h : HeadId) (hp : P s) : P (State.settleFields h s) := by
  unfold State.settleFields
  split
  · next hidle => exact k.quiet (.applyFields h hidle) hp
  · exact k.store (.defer _) hp

/-- The store after a settings write completes (R17). -/
def Store.settleSettings (st : Store) (body : List Byte) (w : WriteResult) : Store :=
  ((st.storeRecord Config.settingsSlot body w).markSettings (writeOk body w)).finishOp .settingsWrite
    (resultOf (writeOk body w))

theorem execSettingsWriteComplete_eq {body : List Byte} (ho : s.runningOp = some (.settingsWrite body))
    (w : SettingsCompletion) :
    execSettingsWriteComplete w s =
      .next (if writeOk body w.held
        then (s.modStore fun st => st.settleSettings body w.held).putInForce (decodeSettings body) w
        else s.modStore fun st => st.settleSettings body w.held) := by
  simp only [execSettingsWriteComplete, ho]
  rfl

/-- A settings record is stored the same whatever settings are in force. -/
theorem Store.settleSettings_adopted (st : Store) (new : Settings) (body : List Byte) (w : WriteResult) :
    { st with settings := new }.settleSettings body w = { st.settleSettings body w with settings := new } := by
  simp only [Store.settleSettings, Store.storeRecord, Store.countRead_eq]
  rfl

/-- New settings in force: taken over, the links judged and marked, the line marked, and the heads' fields settled (R17). -/
theorem State.putInForce_eq (s : State) (body : List Byte) (new : Settings) (w : SettingsCompletion) :
    (s.modStore fun st => st.settleSettings body w.held).putInForce new w =
      State.forHeadsInOrder
        { s.adopt new with
          store := { s.store with settings := new }.settleSettings body w.held
          links := PerSix.ofFn fun l => ((s.links.get l).rejudgeHold new.holdHigh new.holdLow).spoil (w.onLinks.get l)
          line := s.line.spoil w.onLine } State.settleFields := by
  rw [Store.settleSettings_adopted]
  rfl

theorem Kept.putInForce (k : Kept P) {body : List Byte} {w : SettingsCompletion} (hport : s.store.port = .supervisor)
    (hsup : s.store.supervisor = some { op := .settingsWrite body, started := true }) (hp : P s) :
    P ((s.modStore fun st => st.settleSettings body w.held).putInForce (decodeSettings body) w) := by
  rw [State.putInForce_eq]
  have hadopt := k.adopt hsup hp
  have hstore := k.store (s := s.adopt (decodeSettings body)) (.settled body w.held hport hsup) hadopt
  have hjudge := k.quiet (.links (s.links.map fun x => x.rejudgeHold (decodeSettings body).holdHigh
    (decodeSettings body).holdLow) fun l => by rw [PerSix.get_map]; exact .rejudge _ _) hstore
  have hspoil := k.quiet (.links (PerSix.ofFn fun l => ((s.links.get l).rejudgeHold (decodeSettings body).holdHigh
    (decodeSettings body).holdLow).spoil (w.onLinks.get l)) fun l => by
      rw [PerSix.get_map, PerSix.get_ofFn]; exact .spoiled _) hjudge
  exact State.forHeadsInOrder_keeps _ P _ (fun h u hu => k.settleFields h hu) (k.line (s.line.spoil w.onLine) hspoil)

theorem Kept.execSettingsWriteComplete (k : Kept P) {w : SettingsCompletion}
    (hs : execSettingsWriteComplete w s = .next t) (hp : P s) : P t := by
  by_cases ho : ∃ body, s.runningOp = some (.settingsWrite body)
  · obtain ⟨body, ho⟩ := ho
    obtain ⟨hport, hsup⟩ := State.runningOp_eq ho
    rw [execSettingsWriteComplete_eq ho] at hs
    obtain rfl := Host.Outcome.next.inj hs
    split
    · exact k.putInForce hport hsup hp
    · exact k.store (.settled body w.held hport hsup) hp
  · unfold Machine.execSettingsWriteComplete at hs
    split at hs
    · next body hb => exact absurd ⟨body, hb⟩ ho
    · cases hs; exact hp

theorem Kept.execRecipeReadComplete (k : Kept P) {flips : List CellFlip} (hs : execRecipeReadComplete flips s = .next t)
    (hp : P s) : P t := by
  unfold Machine.execRecipeReadComplete at hs
  split at hs
  · next slot ho =>
    cases hs
    obtain ⟨hport, hsup⟩ := State.runningOp_eq ho
    exact k.formReply _ (k.store (.read slot flips hport hsup) hp)
  · cases hs; exact hp

theorem Kept.execStorePortStart (k : Kept P) (hs : execStorePortStart s = .next t) (hp : P s) : P t := by
  unfold Machine.execStorePortStart at hs
  split at hs
  · next hidle =>
    split at hs
    · next e rest hq =>
      cases hs
      exact k.quiets (quiets_startLookup (s := s.modStore _) e hidle) (k.store (.queue rest) hp)
    · split at hs
      · next op hw => cases hs; exact k.startSupervisor hidle hw hp
      · cases hs; exact hp
      · cases hs; exact hp
  · cases hs; exact hp

/-! ### Every command, and every step -/

theorem Kept.exec (k : Kept P) {i : Instr} (hns : ∀ l, i ≠ .start l) (hs : exec i s = .next t) (hp : P s) : P t := by
  have frame : ∀ c p, Machine.exec (CommandKind.instr c p) s = .next t → P t := fun c p hs => by
    rw [exec_instr] at hs; exact Host.Outcome.next.inj hs ▸ k.supervisorFrame c p hp
  cases i with
  | start l => exact absurd rfl (hns l)
  | reset straps cabinet left => exact Host.Outcome.next.inj hs ▸ k.reset left straps cabinet hp
  | startUpScanComplete flips =>
    simp only [Machine.exec, execStartUpScanComplete] at hs
    split at hs
    · next hport => exact Host.Outcome.next.inj hs ▸ k.scan flips hport hp
    · cases hs; exact hp
  | settingsWriteComplete w => exact k.execSettingsWriteComplete hs hp
  | recipeReadComplete flips => exact k.execRecipeReadComplete hs hp
  | storePortStart => exact k.execStorePortStart hs hp
  | frameTimerExpiry =>
    simp only [Machine.exec, execFrameTimerExpiry] at hs
    split at hs
    · cases hs; exact hp
    · cases hs; exact k.line _ hp
  | index serial => cases hs; exact k.wholeFrame _ _ _ hp
  | turnaroundExpiry =>
    simp only [Machine.exec, execTurnaroundExpiry] at hs
    split at hs
    · cases hs; exact hp
    · cases hs; exact k.line _ hp
  | replySent =>
    simp only [Machine.exec, execReplySent] at hs
    split at hs
    · cases hs; exact k.line _ hp
    · cases hs; exact hp
  | status p => exact frame .status p hs
  | setBudget p => exact frame .setBudget p hs
  | setMode p => exact frame .setMode p hs
  | ackRestart p => exact frame .ackRestart p hs
  | headEnable p => exact frame .headEnable p hs
  | clear p => exact frame .clear p hs
  | readHead p => exact frame .readHead p hs
  | readRecipe p => exact frame .readRecipe p hs
  | listCodes p => exact frame .listCodes p hs
  | readCal p => exact frame .readCal p hs
  | readSettings p => exact frame .readSettings p hs
  | writeRecipe p => exact frame .writeRecipe p hs
  | eraseRecipe p => exact frame .eraseRecipe p hs
  | writeCal p => exact frame .writeCal p hs
  | writeSettings p => exact frame .writeSettings p hs
  | traceInfo p => exact frame .traceInfo p hs
  | readTrace p => exact frame .readTrace p hs
  | releaseTrace p => exact frame .releaseTrace p hs
  | flushTrace p => exact frame .flushTrace p hs
  | loadReplay p => exact frame .loadReplay p hs
  | lineCharacter c =>
    simp only [Machine.exec, execLineCharacter] at hs
    split at hs
    · cases hs; exact k.lineCharacter _ hp
    · cases hs; exact hp
  | unknownKind kind p => cases hs; exact k.wholeFrame _ _ _ hp
  | _ => exact k.quiets (quiets_exec (by rfl) hs) hp

/-- What every change keeps, the beginning of a cycle among them, every step keeps. -/
theorem Kept.step (k : Kept P) (queue : ∀ {s} (q : List Instr), P s → P { s with pending := q })
    (begins : ∀ {s h tr buf c}, s.Begins h tr buf c → P s → P (s.beginCycle h tr buf c)) : StepKeeps P := by
  intro s t hp hs
  unfold Machine.step at hs
  split at hs
  · cases hs; exact hp
  · next i rest _ =>
    have hp' : P { s with pending := rest } := queue rest hp
    by_cases hl : ∃ l, i = .start l
    · obtain ⟨l, rfl⟩ := hl
      rcases execStart_cases hs with q | ⟨u, h, tr, buf, c, q1, hb, q2⟩
      · exact k.quiets q hp'
      · exact k.quiets q2 (begins hb (k.quiets q1 hp'))
    · exact k.exec (fun l e => hl ⟨l, e⟩) hs hp'

end Sys2Proof.Machine
end

section
/-! PROOFS. What the moves do to the heads: which heads they leave untouched, what they make of the head they are about, and that
heads stay sound (R43, R92, R93). -/

namespace Sys2Proof.Machine

variable {s t : State} {h k : HeadId}

/-! ### Leaving a cycle and closing it -/

section leave
variable (s : State) (h : HeadId)
@[simp] theorem State.leaveCycle_fronts : (s.leaveCycle h).fronts = s.fronts := by
  unfold State.leaveCycle; split <;> rfl
@[simp] theorem State.leaveCycle_cabinet : (s.leaveCycle h).cabinet = s.cabinet := by
  unfold State.leaveCycle; split <;> rfl
@[simp] theorem State.leaveCycle_links : (s.leaveCycle h).links = s.links := by
  unfold State.leaveCycle; split <;> rfl
@[simp] theorem State.leaveCycle_line : (s.leaveCycle h).line = s.line := by
  unfold State.leaveCycle; split <;> rfl
@[simp] theorem State.leaveCycle_sup : (s.leaveCycle h).sup = s.sup := by
  unfold State.leaveCycle; split <;> rfl
@[simp] theorem State.leaveCycle_trace : (s.leaveCycle h).trace = s.trace := by
  unfold State.leaveCycle; split <;> rfl
theorem State.leaveCycle_heads_other (hk : k ≠ h) : (s.leaveCycle h).heads.get k = s.heads.get k := by
  unfold State.leaveCycle
  split
  · rfl
  · exact State.cut_heads_other s h hk
  · rfl
/-- The store loses at most the head's queued lookup. -/
theorem State.leaveCycle_store : ∃ q, (s.leaveCycle h).store = { s.store with queue := q } := by
  unfold State.leaveCycle
  split
  · exact ⟨_, rfl⟩
  · exact ⟨s.store.queue, rfl⟩
  · exact ⟨s.store.queue, rfl⟩
/-- The dispatcher's entries of the head go when it leaves HEATING (R93). -/
theorem State.leaveCycle_disp :
    (s.leaveCycle h).disp =
      if (s.heads.get h).state = .heating then
        { s.disp with request := s.disp.request.set h none, grant := s.disp.grant.set h { grant := 0, served := 0 } }
      else s.disp := by
  unfold State.leaveCycle; split <;> simp_all [State.cut_disp, State.dropLookup]
theorem State.leaveCycle_drives_other (hk : k ≠ h) : (s.leaveCycle h).drives.get k = s.drives.get k := by
  unfold State.leaveCycle
  split
  · rfl
  · exact State.cut_drives_other s h hk
  · rfl
theorem State.leaveCycle_drives_same :
    (s.leaveCycle h).drives.get h =
      if (s.heads.get h).state = .heating then (s.drives.get h).cut (s.store.inForce.get h).driveType
      else s.drives.get h := by
  unfold State.leaveCycle; split <;> simp_all [State.dropLookup]
end leave

section close
variable (s : State) (h : HeadId) (reason : Option Reason) (c : Context)
@[simp] theorem State.closeCycle_store : (s.closeCycle h reason c).store = s.store := State.watchDrain_store _
@[simp] theorem State.closeCycle_disp : (s.closeCycle h reason c).disp = s.disp := State.watchDrain_disp _
@[simp] theorem State.closeCycle_drives : (s.closeCycle h reason c).drives = s.drives := State.watchDrain_drives _
@[simp] theorem State.closeCycle_links : (s.closeCycle h reason c).links = s.links := State.watchDrain_links _
@[simp] theorem State.closeCycle_line : (s.closeCycle h reason c).line = s.line := State.watchDrain_line _
@[simp] theorem State.closeCycle_fronts :
    (s.closeCycle h reason c).fronts = s.fronts.modify h fun fe => { fe with replayActive := false } :=
  State.watchDrain_fronts _
@[simp] theorem State.closeCycle_trace :
    (s.closeCycle h reason c).trace = s.trace.append h c.cycle (traceRecord h c) := State.watchDrain_trace _
@[simp] theorem State.closeCycle_heads :
    (s.closeCycle h reason c).heads =
      s.heads.set h { state := endState (cycleResult reason c.flags), ctx := some c, notice := true } :=
  State.watchDrain_heads _
/-- Closing a cycle changes the supervision unit in the mode alone. -/
theorem State.closeCycle_sup : ∃ m, (s.closeCycle h reason c).sup = { s.sup with mode := m } := by
  unfold State.closeCycle
  rw [State.watchDrain_sup]
  split
  · exact ⟨_, rfl⟩
  · exact ⟨s.sup.mode, rfl⟩
end close

/-- A cycle's end leaves its head DONE or FAULTED. -/
theorem endState_cases (r : CycleResult) : endState r = .done ∨ endState r = .faulted := by
  cases r <;> simp [endState]

/-! ### Running the loop -/

/-- A run of the loop on a head with a context: its loop state and its request entry (R74, R80). -/
theorem State.runLoop_of_ctx {c : Context} (hc : (s.heads.get h).ctx = some c) (r : Recipe) (g : Segment) (v sp : Nat) :
    s.runLoop h r g v sp =
      { s with
        heads := s.heads.set h { s.heads.get h with
          ctx := some { c with loop := c.loop.run r g (s.disp.grant.get h) v sp } }
        disp := { s.disp with request := s.disp.request.set h (some
          { request := (c.loop.run r g (s.disp.grant.get h) v sp).prevRequest, cls := g.kind.requestClass }) } } := by
  simp only [State.runLoop, hc, State.modCtx, State.modHead, State.modDisp, PerSix.modify, Option.map_some]

/-- The state after the last run's segment is entered at a sample and run (R57). -/
theorem State.advance_eq (c' : Context) (r : Recipe) (g2 : Segment) (v sp : Nat) :
    (s.modHead h fun hd => { hd with ctx := some c' }).runLoop h r g2 v sp =
      { s with
        heads := s.heads.set h { s.heads.get h with
          ctx := some { c' with loop := c'.loop.run r g2 (s.disp.grant.get h) v sp } }
        disp := { s.disp with request := s.disp.request.set h (some
          { request := (c'.loop.run r g2 (s.disp.grant.get h) v sp).prevRequest, cls := g2.kind.requestClass }) } } := by
  rw [State.runLoop_of_ctx (c := c') (by simp)]
  simp only [State.modHead, PerSix.modify, PerSix.set_set, PerSix.get_set_same]

theorem State.running_ctx {c : Context} {r : Recipe} {g : Segment} (hr : s.running h = some (c, r, g)) :
    (s.heads.get h).ctx = some c := ((State.running_iff ..).mp hr).1

/-! ### Heads stay sound (R43, R92, R93) -/

/-- What `State.HeadsSound` asks of one head. -/
def Head.Sound (hd : Head) (request : Option RequestEntry) (grant : GrantEntry) : Prop :=
  (hd.ctx = none ↔ hd.state = .idle) ∧ (request.isSome = true ↔ hd.state = .heating) ∧
    (hd.state ≠ .heating → grant = { grant := 0, served := 0 })

theorem State.headsSound_iff (s : State) :
    s.HeadsSound ↔ ∀ h, (s.heads.get h).Sound (s.disp.request.get h) (s.disp.grant.get h) := Iff.rfl

/-- A head whose state is kept and whose context does not come or go stays sound. -/
theorem Head.Sound.congr {hd hd' : Head} {q q' : Option RequestEntry} {g g' : GrantEntry} (hs : hd.Sound q g)
    (hstate : hd'.state = hd.state) (hctx : hd'.ctx = none ↔ hd.ctx = none) (hq : q'.isSome = q.isSome)
    (hg : hd.state ≠ .heating → g' = g) : hd'.Sound q' g' := by
  obtain ⟨h1, h2, h3⟩ := hs
  refine ⟨by rw [hctx, hstate, h1], by rw [hq, hstate, h2], fun hne => ?_⟩
  rw [hstate] at hne
  rw [hg hne, h3 hne]

/-- Soundness at one head and everything else of the heads as it was. -/
theorem State.HeadsSound.of_at (hp : s.HeadsSound)
    (others : ∀ k, k ≠ h → t.heads.get k = s.heads.get k ∧ t.disp.request.get k = s.disp.request.get k ∧
      t.disp.grant.get k = s.disp.grant.get k)
    (same : (t.heads.get h).Sound (t.disp.request.get h) (t.disp.grant.get h)) : t.HeadsSound := by
  rw [State.headsSound_iff]
  intro k
  by_cases hk : k = h
  · rw [hk]; exact same
  · obtain ⟨e1, e2, e3⟩ := others k hk
    rw [e1, e2, e3]
    exact hp k

theorem State.HeadsSound.modCtx (hp : s.HeadsSound) (f : Context → Context) : (s.modCtx h f).HeadsSound := by
  refine hp.of_at (h := h) (fun k hk => ⟨State.modCtx_heads_other s f hk, rfl, rfl⟩) ?_
  rw [State.modCtx_heads_same]
  exact Head.Sound.congr (hp h) rfl (by simp) rfl fun _ => rfl

/-- A head that is heating has a context. -/
theorem State.HeadsSound.ctx_ne_none (hp : s.HeadsSound) (hst : (s.heads.get h).state ≠ .idle) :
    (s.heads.get h).ctx ≠ none := fun hc => hst ((hp h).1.mp hc)

theorem Quiet.headsSound (q : Quiet s t) (hp : s.HeadsSound) : t.HeadsSound := by
  cases q with
  | tick =>
    rw [State.headsSound_iff]
    intro k
    simp only [State.tick, PerSix.get_map]
    exact Head.Sound.congr (hp k) rfl (by simp) rfl fun _ => rfl
  | applyFields k =>
    intro j
    simpa using hp j
  | context k f => exact hp.modCtx f
  | notice k =>
    refine hp.of_at (h := k) (fun j hj => ⟨State.modHead_heads_other s _ hj, rfl, rfl⟩) ?_
    rw [State.modHead_heads_same]
    exact Head.Sound.congr (hp k) rfl Iff.rfl rfl fun _ => rfl
  | heat k r c looks ctx =>
    refine hp.of_at (h := k) (fun j hj => ⟨State.modHead_heads_other s _ hj, PerSix.get_set_other _ _ hj, rfl⟩) ?_
    simp [State.beginHeating, Head.Sound, ctx]
  | run k c r g v sp heats runs =>
    rw [State.runLoop_of_ctx (State.running_ctx runs)]
    refine hp.of_at (h := k) (fun j hj => ⟨PerSix.get_set_other _ _ hj, PerSix.get_set_other _ _ hj, rfl⟩) ?_
    simp [Head.Sound, heats]
  | advance k c c' r g g2 v sp heats =>
    rw [State.advance_eq]
    refine hp.of_at (h := k) (fun j hj => ⟨PerSix.get_set_other _ _ hj, PerSix.get_set_other _ _ hj, rfl⟩) ?_
    simp [Head.Sound, heats]
  | hold k c c' =>
    refine hp.of_at (h := k) (fun j hj => ⟨?_, PerSix.get_set_other _ _ hj, PerSix.get_set_other _ _ hj⟩) ?_
    · rw [State.modHead_heads_other _ _ hj, State.cut_heads_other _ _ hj]
    · simp [Head.Sound, State.cut_disp]
  | close k reason c c' active ctx =>
    have hend := endState_cases (cycleResult reason c'.flags)
    refine hp.of_at (h := k) (fun j hj => ?_) ?_
    · simp only [State.closeCycle_heads, State.closeCycle_disp, PerSix.get_set_other _ _ hj,
        State.leaveCycle_heads_other s k hj, State.leaveCycle_disp]
      split
      · simp [PerSix.get_set_other _ _ hj]
      · simp
    · have hne : endState (cycleResult reason c'.flags) ≠ .idle ∧ endState (cycleResult reason c'.flags) ≠ .heating := by
        rcases hend with e | e <;> simp [e]
      simp only [State.closeCycle_heads, State.closeCycle_disp, PerSix.get_set_same, State.leaveCycle_disp]
      split
      · simp [Head.Sound, hne]
      · next hst =>
        obtain ⟨-, h2, h3⟩ := hp k
        have hq : (s.disp.request.get k).isSome = false := by simpa using mt h2.mp hst
        exact ⟨by simp [hne], by simp [hq, hne], fun _ => h3 hst⟩
  | cutNone k heats none => exact absurd none (hp.ctx_ne_none (by simp [heats]))
  | forget k ended =>
    refine hp.of_at (h := k) (fun j hj => ⟨State.modHead_heads_other s _ hj, rfl, rfl⟩) ?_
    have hne : (s.heads.get k).state ≠ .heating := by rcases ended with e | e <;> simp [e]
    obtain ⟨-, h2, h3⟩ := hp k
    have hq : (s.disp.request.get k).isSome = false := by simpa using mt h2.mp hne
    simpa [State.forgetCycle, Head.Sound, hq] using h3 hne
  | expire =>
    intro k
    rw [State.expire_heads, State.expire_disp]
    refine Head.Sound.congr (hp k) rfl (by simp) rfl fun hne => ?_
    have hq : s.disp.request.get k = none := by simpa using mt (hp k).2.1.mp hne
    rw [State.expiryDisp_grant, State.participants_get, hq]
    rfl
  | _ => exact hp

theorem State.HeadsSound.beginCycle {tr : TraceUnit} {buf : BufferId} {c : Context} (hb : s.Begins h tr buf c)
    (hp : s.HeadsSound) : (s.beginCycle h tr buf c).HeadsSound := by
  refine hp.of_at (h := h) (fun j hj => ⟨PerSix.get_modify_other _ _ hj, rfl, rfl⟩) ?_
  obtain ⟨-, h2, h3⟩ := hp h
  have hq : (s.disp.request.get h).isSome = false := by simpa [hb.idle] using mt h2.mp
  simpa [State.beginCycle, Head.Sound, hq] using h3 (by simp [hb.idle])

/-- A state right after a reset. -/
def State.Fresh (s : State) : Prop :=
  ∃ nv failed straps cabinet hold n q, s = State.resetWith nv failed straps cabinet hold n q

theorem State.fresh_resetWith (nv : List (Option (List NvCell))) (failed : Bool) (straps : BitVec 5) (cabinet : CabinetState)
    (hold : PerSix Bool) (n : Nat) (q : List Instr) : (State.resetWith nv failed straps cabinet hold n q).Fresh :=
  ⟨nv, failed, straps, cabinet, hold, n, q, rfl⟩

theorem State.Fresh.head (hf : s.Fresh) (h : HeadId) : s.heads.get h = Head.reset := by
  obtain ⟨nv, failed, straps, cabinet, hold, n, q, rfl⟩ := hf
  exact PerSix.get_const ..

theorem State.Fresh.inactive (hf : s.Fresh) (h : HeadId) : s.isActive h = false := by
  rw [Bool.eq_false_iff, ne_eq, State.isActive_iff, hf.head]
  simp [Head.reset]

/-- After reset every head is IDLE and takes no part. -/
theorem State.Fresh.headsSound (hf : s.Fresh) : s.HeadsSound := by
  obtain ⟨nv, failed, straps, cabinet, hold, n, q, rfl⟩ := hf
  intro k
  simp [State.resetWith, Head.reset, Dispatcher.reset]

/-! ### The scan, block by block (R22) -/

/-- The record of a head's calibration slot as the scan reads it (R22). -/
def Store.calibrationRecord (st : Store) (h : HeadId) : Option (List Byte) :=
  (st.nv.getD (calibrationSlotOf h) none).bind fun cells => (readRecord storedCalibrationOk cells).2

/-- What the scan of a head's calibration slot counts (R20). -/
def Store.countCalibration (st : Store) (h : HeadId) : Store :=
  match st.nv.getD (calibrationSlotOf h) none with
  | none => st
  | some cells =>
    st.countRead (calibrationSlotOf h) (readRecord storedCalibrationOk cells).1
      (readRecord storedCalibrationOk cells).2.isNone

/-- A calibration copy as the scan leaves it (R22). -/
def FrontEnd.loadCalibration (record : Option (List Byte)) (fe : FrontEnd) : FrontEnd :=
  match record with
  | none => { fe with calibration := Calibration.zero, calValid := false }
  | some body => { fe with calibration := decodeCalibration body, calValid := true }

theorem State.scanCalibration_eq (s : State) (h : HeadId) :
    State.scanCalibration h s =
      { s with
        store := s.store.countCalibration h
        fronts := s.fronts.modify h (FrontEnd.loadCalibration (s.store.calibrationRecord h)) } := by
  simp only [State.scanCalibration, Store.countCalibration, Store.calibrationRecord]
  cases hc : s.store.nv.getD (calibrationSlotOf h) none with
  | none => rfl
  | some cells =>
    simp only [Option.bind_some]
    cases (readRecord storedCalibrationOk cells).2 <;> rfl

theorem State.modStore_frame (s : State) (f : Store → Store) :
    s.modStore f = { s with store := (s.modStore f).store, fronts := (s.modStore f).fronts } := rfl

theorem State.modStore_frame_of {u : State} (f : Store → Store) (hu : u = { s with store := u.store, fronts := u.fronts }) :
    u.modStore f = { s with store := (u.modStore f).store, fronts := (u.modStore f).fronts } := by
  rw [hu]; rfl

/-- The scan changes the store and the calibration copies alone. -/
theorem State.scan_frame (s : State) (flips : List SlotFlip) :
    s.scan flips = { s with store := (s.scan flips).store, fronts := (s.scan flips).fronts } :=
  State.modStore_frame_of Store.scanSettings
    (State.forHeadsInOrder_keeps (s.modStore fun st => (st.flipSlots flips).scanRecipes)
      (fun u => u = { s with store := u.store, fronts := u.fronts }) State.scanCalibration
      (fun h u hu => by rw [State.scanCalibration_eq, hu]) (State.modStore_frame s _))

theorem State.scan_heads (s : State) (flips : List SlotFlip) : (s.scan flips).heads = s.heads := by rw [State.scan_frame]
theorem State.scan_disp (s : State) (flips : List SlotFlip) : (s.scan flips).disp = s.disp := by rw [State.scan_frame]
theorem State.scan_drives (s : State) (flips : List SlotFlip) : (s.scan flips).drives = s.drives := by rw [State.scan_frame]
theorem State.scan_links (s : State) (flips : List SlotFlip) : (s.scan flips).links = s.links := by rw [State.scan_frame]
theorem State.scan_sup (s : State) (flips : List SlotFlip) : (s.scan flips).sup = s.sup := by rw [State.scan_frame]
theorem State.scan_trace (s : State) (flips : List SlotFlip) : (s.scan flips).trace = s.trace := by rw [State.scan_frame]
theorem State.scan_cabinet (s : State) (flips : List SlotFlip) : (s.scan flips).cabinet = s.cabinet := by
  rw [State.scan_frame]
theorem State.scan_line (s : State) (flips : List SlotFlip) : (s.scan flips).line = s.line := by rw [State.scan_frame]

/-- The heads and the dispatcher's entries after the scan and the hand-over are as before. -/
theorem State.HeadsSound.handOver (hp : s.HeadsSound) (flips : List SlotFlip) : (s.scan flips).handOver.HeadsSound := by
  intro k
  simp only [State.handOver, State.scan_heads, State.scan_disp]
  exact hp k

theorem kept_headsSound : Kept State.HeadsSound where
  quiet := Quiet.headsSound
  store _ hp := hp
  line _ hp := hp
  modes p hm hp := modes_of_setModeTo Quiet.headsSound (fun _ _ _ hp => hp) p hm hp
  adopt _ hp := hp
  scan flips _ hp := hp.handOver flips
  reset _ _ _ _ := (State.fresh_resetWith ..).headsSound

end Sys2Proof.Machine
end

section
/-! PROOFS. Power and the drives (O53): a drive is judged against the head it belongs to, move by move. -/

namespace Sys2Proof.Machine

variable {s t : State} {h k : HeadId} {u : DriveUnit} {hd hd' : Head}

/-! ### A drive and its head -/

/-- Whether the cycle of a head is dry. -/
def Head.dry (hd : Head) : Bool := (hd.ctx.map (·.dry)).getD false

/-- `State.driven` of a head. -/
def Head.driven (hd : Head) : Bool := hd.state == .heating && !hd.dry

theorem State.driven_eq (s : State) (h : HeadId) : s.driven h = (s.heads.get h).driven := by
  rw [State.driven, State.isDry_eq]; rfl

/-- The last frame on the line, once all are sent, carries the command output (R108). -/
def DriveUnit.FollowsOutput (u : DriveUnit) : Prop :=
  match u.waiting with
  | some v => v = u.output ∧ u.inProgress ≠ none
  | none => ∀ v, u.inProgress = some v → v = u.output

/-- What `State.PowerSafe` and `State.FramesFollowOutput` ask of one head and its drive. -/
def DriveUnit.SafeFor (u : DriveUnit) (hd : Head) : Prop :=
  (hd.driven = false → u.output.value = 0) ∧
    (hd.state ≠ .heating → u.windowStart = none ∧ u.onTime = 0 ∧ u.onRunning = false) ∧ u.FollowsOutput

/-- Every drive is safe for its head. -/
def State.DrivesSafe (s : State) : Prop := ∀ h, (s.drives.get h).SafeFor (s.heads.get h)

theorem State.drivesSafe_iff (s : State) : s.DrivesSafe ↔ s.PowerSafe ∧ s.FramesFollowOutput := by
  constructor
  · exact fun hs => ⟨fun h => ⟨fun hd => (hs h).1 (State.driven_eq s h ▸ hd), (hs h).2.1⟩, fun h => (hs h).2.2⟩
  · exact fun ⟨hp, hf⟩ h => ⟨fun hd => (hp h).1 (State.driven_eq s h ▸ hd), (hp h).2, hf h⟩

theorem DriveUnit.FollowsOutput.command (hu : u.FollowsOutput) (v : DriveCommand) : (u.command v).FollowsOutput := by
  unfold DriveUnit.FollowsOutput DriveUnit.command at *
  cases hp : u.inProgress <;> cases hw : u.waiting <;> simp_all

theorem DriveUnit.FollowsOutput.frameSent (hu : u.FollowsOutput) : u.frameSent.FollowsOutput := by
  unfold DriveUnit.FollowsOutput DriveUnit.frameSent at *
  cases hw : u.waiting <;> simp_all

theorem DriveUnit.SafeFor.congr (hu : u.SafeFor hd) (hstate : hd'.state = hd.state) (hdry : hd'.dry = hd.dry) :
    u.SafeFor hd' := by
  have hdriven : hd'.driven = hd.driven := by rw [Head.driven, Head.driven, hstate, hdry]
  exact ⟨fun h => hu.1 (hdriven ▸ h), fun h => hu.2.1 (hstate ▸ h), hu.2.2⟩

/-- A head outside HEATING is not driven. -/
theorem Head.not_driven (hne : hd.state ≠ .heating) : hd.driven = false := by simp [Head.driven, hne]

/-- The drive of a head outside HEATING is safe whatever becomes of the head. -/
theorem DriveUnit.SafeFor.idle (hu : u.SafeFor hd) (hne : hd.state ≠ .heating) (hd' : Head) : u.SafeFor hd' :=
  ⟨fun _ => hu.1 (Head.not_driven hne), fun _ => hu.2.1 hne, hu.2.2⟩

theorem DriveUnit.SafeFor.command {v : DriveCommand} (hu : u.SafeFor hd) (hv : hd.driven = false → v.value = 0) :
    (u.command v).SafeFor hd :=
  ⟨fun h => by rw [DriveUnit.command_output]; exact hv h, fun h => by simpa using hu.2.1 h, hu.2.2.command v⟩


/-- A cut drive is safe for any head (R109, R112). -/
theorem DriveUnit.SafeFor.cut (hu : u.SafeFor hd) (ty : DriveType) (hd' : Head) : (u.cut ty).SafeFor hd' :=
  ⟨fun _ => by rw [DriveUnit.cut, DriveUnit.command_output, DriveType.zero_value], fun _ => ⟨rfl, rfl, rfl⟩,
    hu.2.2.command ty.zero⟩

/-- A window starts on a head in HEATING, its gate OFF on a dry cycle (R111). -/
theorem DriveUnit.SafeFor.startWindow (hu : u.SafeFor hd) (heats : hd.state = .heating) (start : Word32) (d : Nat) :
    (u.startWindow start d hd.dry).SafeFor hd := by
  refine ⟨fun hn => ?_, fun hne => absurd heats hne, hu.2.2.command _⟩
  have hdry : hd.dry = true := by simpa [Head.driven, heats] using hn
  simp [DriveUnit.startWindow, DriveCommand.value, hdry]

/-! ### The moves -/

/-- The drive and the head of one number change, no other. -/
theorem State.DrivesSafe.of_at (hp : s.DrivesSafe)
    (others : ∀ k, k ≠ h → t.heads.get k = s.heads.get k ∧ t.drives.get k = s.drives.get k)
    (same : (t.drives.get h).SafeFor (t.heads.get h)) : t.DrivesSafe := by
  intro k
  by_cases hk : k = h
  · rw [hk]; exact same
  · obtain ⟨e1, e2⟩ := others k hk
    rw [e1, e2]; exact hp k

/-- One head changes, neither its state nor whether its cycle is dry. -/
theorem State.DrivesSafe.of_head (hp : s.DrivesSafe) (drives : t.drives = s.drives)
    (others : ∀ k, k ≠ h → t.heads.get k = s.heads.get k) (state : (t.heads.get h).state = (s.heads.get h).state)
    (dry : (t.heads.get h).dry = (s.heads.get h).dry) : t.DrivesSafe :=
  hp.of_at (fun k hk => ⟨others k hk, by rw [drives]⟩) (drives ▸ (hp h).congr state dry)

/-- A change of one drive by an event of its line leaves it safe. -/
theorem DriveMove.safe (m : DriveMove s h u) (hp : (s.drives.get h).SafeFor (s.heads.get h)) : u.SafeFor (s.heads.get h) := by
  cases m with
  | receive x => exact hp
  | report st timer => exact hp
  | sent => exact ⟨hp.1, hp.2.1, hp.2.2.frameSent⟩
  | window start d runs =>
    have heats : (s.heads.get h).state = .heating := by
      by_contra hne
      exact runs (hp.2.1 hne).1
    rw [State.isDry_eq]
    exact hp.startWindow heats start d
  | partEnds runs =>
    have heats : (s.heads.get h).state = .heating := by
      by_contra hne
      exact runs (hp.2.1 hne).1
    refine ⟨fun _ => ?_, fun hne => absurd heats hne, hp.2.2.command _⟩
    simp [DriveCommand.value]

theorem State.leaveCycle_drive_safe (hp : (s.drives.get h).SafeFor (s.heads.get h)) (hd : Head) :
    ((s.leaveCycle h).drives.get h).SafeFor hd := by
  rw [State.leaveCycle_drives_same]
  split
  · exact hp.cut _ _
  · next hne => exact hp.idle hne _

/-- What an expiry hands a drive is safe: it reaches heads in HEATING alone (R92, R103, R109, R111). -/
theorem State.expiryDrive_safe (hp : (s.drives.get h).SafeFor (s.heads.get h)) (hs : s.HeadsSound) :
    (s.expiryDrive h (s.drives.get h)).SafeFor (s.heads.get h) := by
  unfold State.expiryDrive
  split
  · next hpart =>
    have heats : (s.heads.get h).state = .heating := (hs h).2.1.mp (by rwa [← State.participants_isSome])
    rw [State.isDry_eq]
    split
    · refine hp.command fun hn => ?_
      have hdry : (s.heads.get h).dry = true := by simpa [Head.driven, heats] using hn
      simp only [Head.dry] at hdry
      simp [hdry, DriveCommand.value]
    · split
      · exact hp
      · exact hp.startWindow heats _ _
  · exact hp

theorem Context.Advanced.dry_some {c c' : Context} (ha : c.Advanced c') (hc : hd.ctx = some c) (hc' : hd'.ctx = some c') :
    hd'.dry = hd.dry := by
  rw [Head.dry, Head.dry, hc, hc']; exact ha.dry

theorem Quiet.drivesSafe (q : Quiet s t) (hs : s.HeadsSound) (hp : s.DrivesSafe) : t.DrivesSafe := by
  cases q with
  | tick =>
    intro k
    simp only [State.tick, PerSix.get_map]
    have hk := hp k
    exact DriveUnit.SafeFor.congr (hd := s.heads.get k) ⟨hk.1, hk.2.1, hk.2.2⟩ rfl
      (by simp only [Head.dry, Option.map_map]; rfl)
  | drive k u m =>
    exact hp.of_at (h := k) (fun j hj => ⟨rfl, PerSix.get_set_other _ _ hj⟩) (by simpa using m.safe (hp k))
  | applyFields k idle =>
    intro j
    rw [State.applyFields_heads, State.applyFields_drives]
    split
    · exact hp j
    · rw [PerSix.get_modify]
      split
      · next e => subst e; exact (hp j).command fun _ => DriveType.zero_value _
      · exact hp j
  | context k f kept =>
    refine hp.of_head (h := k) rfl (fun j hj => State.modCtx_heads_other s f hj) (by simp) ?_
    rw [State.modCtx_heads_same, Head.dry, Head.dry]
    cases hc : (s.heads.get k).ctx with
    | none => rfl
    | some c => exact (kept c hc).dry
  | notice k => exact hp.of_head (h := k) rfl (fun j hj => State.modHead_heads_other s _ hj) (by simp) (by simp [Head.dry])
  | heat k r c looks ctx =>
    exact hp.of_at (h := k) (fun j hj => ⟨State.modHead_heads_other s _ hj, rfl⟩)
      ((hp k).idle (by simp [looks]) _)
  | run k c r g v sp heats runs =>
    rw [State.runLoop_of_ctx (State.running_ctx runs)]
    exact hp.of_head (h := k) rfl (fun j hj => PerSix.get_set_other _ _ hj) (by simp)
      (by simp [Head.dry, State.running_ctx runs])
  | advance k c c' r g g2 v sp heats runs next advanced loop =>
    rw [State.advance_eq]
    exact hp.of_head (h := k) rfl (fun j hj => PerSix.get_set_other _ _ hj) (by simp)
      (by simp [Head.dry, State.running_ctx runs, advanced.dry])
  | hold k c c' r g g2 heats =>
    refine hp.of_at (h := k) (fun j hj => ⟨?_, State.cut_drives_other s k hj⟩) ?_
    · rw [State.modHead_heads_other _ _ hj, State.cut_heads_other _ _ hj]
    · rw [State.modHead_drives, State.cut_drives_same]
      exact (hp k).cut _ _
  | close k reason c c' =>
    refine hp.of_at (h := k) (fun j hj => ?_) ?_
    · rw [State.closeCycle_heads, State.closeCycle_drives, PerSix.get_set_other _ _ hj]
      exact ⟨State.leaveCycle_heads_other s k hj, State.leaveCycle_drives_other s k hj⟩
    · rw [State.closeCycle_drives]
      exact State.leaveCycle_drive_safe (hp k) _
  | cutNone k heats none => exact absurd none (hs.ctx_ne_none (by simp [heats]))
  | forget k ended =>
    exact hp.of_at (h := k) (fun j hj => ⟨State.modHead_heads_other s _ hj, rfl⟩)
      ((hp k).idle (by rcases ended with e | e <;> simp [e]) _)
  | expire =>
    intro k
    rw [State.expire_heads, State.expire_drives]
    refine (State.expiryDrive_safe (hp k) hs).congr rfl ?_
    cases hc : (s.heads.get k).ctx with
    | none => simp [Head.dry, hc]
    | some c => simp [Head.dry, hc, State.expiryContext_eq, State.participantFlags_dry, State.periodEnergy_dry]
  | _ => exact hp

/-- The invariant of O53. -/
def State.PowerSound (s : State) : Prop := s.HeadsSound ∧ s.DrivesSafe

theorem State.PowerSound.handOver (hp : s.PowerSound) (flips : List SlotFlip) : (s.scan flips).handOver.DrivesSafe := by
  intro k
  simp only [State.handOver, State.scan_heads, State.scan_drives, PerSix.get_ofFn]
  exact (hp.2 k).command fun _ => DriveType.zero_value _

theorem Quiet.powerSound (q : Quiet s t) (hp : s.PowerSound) : t.PowerSound := ⟨q.headsSound hp.1, q.drivesSafe hp.1 hp.2⟩

theorem State.Fresh.drivesSafe (hf : s.Fresh) : s.DrivesSafe := by
  obtain ⟨nv, failed, straps, cabinet, hold, n, q, rfl⟩ := hf
  intro k
  simp [State.resetWith, DriveUnit.reset, DriveUnit.SafeFor, DriveUnit.FollowsOutput, DriveCommand.value]

theorem kept_powerSound : Kept State.PowerSound where
  quiet := Quiet.powerSound
  store _ hp := hp
  line _ hp := hp
  modes p hm hp := modes_of_setModeTo Quiet.powerSound (fun _ _ _ hp => hp) p hm hp
  adopt _ hp := hp
  scan flips _ hp := ⟨hp.1.handOver flips, hp.handOver flips⟩
  reset _ _ _ _ := ⟨(State.fresh_resetWith ..).headsSound, (State.fresh_resetWith ..).drivesSafe⟩

theorem State.DrivesSafe.beginCycle {tr : TraceUnit} {buf : BufferId} {c : Context} (hb : s.Begins h tr buf c)
    (hp : s.DrivesSafe) : (s.beginCycle h tr buf c).DrivesSafe :=
  hp.of_at (h := h) (fun j hj => ⟨PerSix.get_modify_other _ _ hj, rfl⟩) ((hp h).idle (by simp [hb.idle]) _)

/-- Settles O53: drives are kept safe for their heads by every move. -/
theorem powerOnlyWhileHeating : Obligations.PowerOnlyWhileHeating := by
  have key := kept_powerSound.step (fun _ hp => hp) fun hb hp => ⟨hp.1.beginCycle hb, hp.2.beginCycle hb⟩
  intro s t hp hs
  obtain ⟨h1, h2⟩ := key s t ⟨hp.1, (State.drivesSafe_iff s).mpr hp.2⟩ hs
  exact ⟨h1, (State.drivesSafe_iff t).mp h2⟩

end Sys2Proof.Machine
end

section
/-! PROOFS. Contexts, loop state and ceilings (O54): a context is judged against the state, the request entry and the max power of
its head, move by move. -/

namespace Sys2Proof.Machine

variable {s t : State} {h k : HeadId} {hd hd' : Head} {c c' : Context} {st : Store}

/-! ### What the moves of the store leave -/

/-- No move of the store changes the settings or the fields in force, and none leads into the scan. -/
theorem StoreMove.frame (m : StoreMove s st) :
    st.settings = s.store.settings ∧ st.inForce = s.store.inForce ∧ (st.port = .scan → s.store.port = .scan) := by
  cases m with
  | queue q => exact ⟨rfl, rfl, id⟩
  | defer d => exact ⟨rfl, rfl, id⟩
  | lookup e slot => exact ⟨rfl, rfl, nofun⟩
  | lookedUp e slot flips port =>
    obtain ⟨-, -, e3, e4⟩ := Store.readRecipe_frame s.store slot flips
    exact ⟨e3, e4, nofun⟩
  | accept op => exact ⟨rfl, rfl, id⟩
  | occupy op => exact ⟨rfl, rfl, nofun⟩
  | erasedAtStart => exact ⟨rfl, rfl, nofun⟩
  | readAtStart => exact ⟨rfl, rfl, nofun⟩
  | read slot flips =>
    obtain ⟨-, -, e3, e4⟩ := Store.readRecipe_frame s.store slot flips
    exact ⟨e3, e4, nofun⟩
  | written slot body w =>
    refine ⟨?_, ?_, nofun⟩ <;>
    · simp only [Store.completeRecipeWrite, Store.finishOp]
      split <;> simp [Store.storeRecord, Store.countRead_eq, Store.damage, Store.setStatus, Store.dropIndex,
        Store.setRevision, Store.enterIndex, Store.setCells]
  | erased slot => exact ⟨rfl, rfl, nofun⟩
  | calibrated h body w => refine ⟨?_, ?_, nofun⟩ <;> simp [Store.finishOp, Store.storeRecord, Store.setCells]
  | settled body w => refine ⟨?_, ?_, nofun⟩ <;> simp [Store.finishOp, Store.storeRecord, Store.setCells, Store.markSettings]

/-- An operation in the supervisor slot was there before, or has just been admitted. -/
theorem StoreMove.supervisor (m : StoreMove s st) {op : SupervisorOp} {started : Bool}
    (hop : st.supervisor = some { op := op, started := started }) :
    (∃ b, s.store.supervisor = some { op := op, started := b }) ∨ (op.Admitted s.store ∧ s.sup.mode ≠ .starting) := by
  cases m with
  | queue | defer | lookup => exact .inl ⟨_, hop⟩
  | lookedUp e slot flips =>
    obtain ⟨-, e2, -⟩ := Store.readRecipe_frame s.store slot flips
    exact .inl ⟨_, e2 ▸ hop⟩
  | accept op' free admitted hm =>
    simp only [Option.some.injEq, HeldOp.mk.injEq] at hop
    exact .inr ⟨hop.1 ▸ admitted, hm⟩
  | occupy op' idle waits =>
    simp only [Option.some.injEq, HeldOp.mk.injEq] at hop
    exact .inl ⟨_, hop.1 ▸ waits⟩
  | erasedAtStart | readAtStart | read | written | erased | calibrated | settled => cases hop

/-! ### A context and its head -/

/-- What `State.LoopsSound` asks of a context in HEATING, with the head's request entry. -/
def Context.LoopSound (c : Context) (request : Option RequestEntry) : Prop :=
  ∀ r g, c.recipe = some r → r.segments[c.segIndex]? = some g →
    -(g.ceiling * 4096 : Int) ≤ c.loop.accumulator ∧ c.loop.accumulator ≤ g.ceiling * 4096 ∧
    ∀ e, request = some e → e.request ≤ g.ceiling ∧ e.cls = g.kind.requestClass

/-- What `State.CeilingsSound` asks of a context in HEATING, with the head's max power in force. -/
def Context.CeilingsWithin (c : Context) (maxPower : Nat) : Prop :=
  ∀ r, c.recipe = some r → ∀ g ∈ r.segments, g.ceiling ≤ maxPower

/-- What the three properties ask of one head. -/
def Head.CycleSound (hd : Head) (request : Option RequestEntry) (maxPower : Nat) : Prop :=
  ∀ c, hd.ctx = some c → c.soundIn hd.state ∧
    (hd.state = .heating → c.LoopSound request ∧ c.CeilingsWithin maxPower) ∧ (hd.state = .hold → c.loop.accumulator = 0)

def State.CycleSoundAt (s : State) (h : HeadId) : Prop :=
  (s.heads.get h).CycleSound (s.disp.request.get h) (s.store.inForce.get h).maxPower

/-- The properties of O54 beside `State.HeadsSound`, head by head. -/
def State.CoursesSound (s : State) : Prop :=
  (∀ h, s.CycleSoundAt h) ∧ (s.store.port = .scan → ∀ h, (s.heads.get h).state ≠ .heating)

theorem State.coursesSound_iff (s : State) : s.CoursesSound ↔ s.CyclesSound ∧ s.LoopsSound ∧ s.CeilingsSound := by
  constructor
  · rintro ⟨hs, hscan⟩
    refine ⟨fun h c hc => (hs h c hc).1, fun h => ⟨fun hst c r g hr => ?_, fun hst c hc => (hs h c hc).2.2 hst⟩,
      hscan, fun h c r hst hc hr g hg => ((hs h c hc).2.1 hst).2 r hr g hg⟩
    obtain ⟨hc, hrec, hseg⟩ := (State.running_iff ..).mp hr
    exact ((hs h c hc).2.1 hst).1 r g hrec hseg
  · rintro ⟨hcycles, hloops, hscan, hceil⟩
    refine ⟨fun h c hc => ⟨hcycles h c hc, fun hst => ⟨fun r g hrec hseg => ?_, fun r hr g hg => hceil h c r hst hc hr g hg⟩,
      fun hst => (hloops h).2 hst c hc⟩, hscan⟩
    exact (hloops h).1 hst c r g ((State.running_iff ..).mpr ⟨hc, hrec, hseg⟩)

theorem Context.soundIn_congr (hc : c.soundIn hd.state) (hrecipe : c'.recipe = c.recipe) (hseg : c'.segIndex = c.segIndex)
    (hsum : c'.summaries = c.summaries) (hresult : c'.result = c.result) (hreason : c'.reason = c.reason)
    (htimer : c.cycleTimer = none → c'.cycleTimer = none) : c'.soundIn hd.state := by
  obtain ⟨hlen, hstate⟩ := hc
  refine ⟨by rw [hsum]; exact hlen, ?_⟩
  clear hlen
  cases hst : hd.state <;> simp_all

/-- Bookkeeping inside a segment leaves a context sound. -/
theorem Context.Kept.sound {request : Option RequestEntry} {maxPower : Nat} (hk : c.Kept c')
    (hc : c.soundIn hd.state ∧ (hd.state = .heating → c.LoopSound request ∧ c.CeilingsWithin maxPower) ∧
      (hd.state = .hold → c.loop.accumulator = 0)) :
    c'.soundIn hd.state ∧ (hd.state = .heating → c'.LoopSound request ∧ c'.CeilingsWithin maxPower) ∧
      (hd.state = .hold → c'.loop.accumulator = 0) := by
  obtain ⟨h1, h2, h3⟩ := hc
  refine ⟨Context.soundIn_congr h1 hk.recipe hk.segIndex hk.summaries hk.result hk.reason hk.cycleTimer, ?_, ?_⟩
  · simpa only [Context.LoopSound, Context.CeilingsWithin, hk.recipe, hk.segIndex, hk.loop] using h2
  · simpa only [hk.loop] using h3

theorem Head.CycleSound.of_kept {request : Option RequestEntry} {maxPower : Nat} {f : Context → Context}
    (hp : hd.CycleSound request maxPower) (kept : ∀ c, hd.ctx = some c → c.Kept (f c)) :
    Head.CycleSound { hd with ctx := hd.ctx.map f } request maxPower := by
  intro c hc
  obtain ⟨d, hd', rfl⟩ := Option.map_eq_some_iff.mp hc
  exact (kept d hd').sound (hp d hd')

/-- A head without a context is sound. -/
theorem Head.CycleSound.of_none {request : Option RequestEntry} {maxPower : Nat} (hc : hd.ctx = none) :
    hd.CycleSound request maxPower := fun c e => by rw [hc] at e; cases e

/-- What is asked of a head outside HEATING does not depend on its request and its fields. -/
theorem Head.CycleSound.not_heating {q q' : Option RequestEntry} {m m' : Nat} (hp : hd.CycleSound q m)
    (hne : hd.state ≠ .heating) : hd.CycleSound q' m' :=
  fun c hc => ⟨(hp c hc).1, fun e => absurd e hne, (hp c hc).2.2⟩

theorem State.CoursesSound.of_at (hp : s.CoursesSound) (inForce : t.store.inForce = s.store.inForce)
    (port : t.store.port = .scan → s.store.port = .scan)
    (others : ∀ k, k ≠ h → t.heads.get k = s.heads.get k ∧ t.disp.request.get k = s.disp.request.get k)
    (same : t.CycleSoundAt h) (heats : (t.heads.get h).state = .heating → (s.heads.get h).state = .heating ∨
      s.store.port ≠ .scan) : t.CoursesSound := by
  refine ⟨fun k => ?_, fun hscan k hst => ?_⟩
  · by_cases hk : k = h
    · rw [hk]; exact same
    · obtain ⟨e1, e2⟩ := others k hk
      rw [State.CycleSoundAt, e1, e2, inForce]; exact hp.1 k
  · by_cases hk : k = h
    · subst hk
      rcases heats hst with e | e
      · exact hp.2 (port hscan) k e
      · exact e (port hscan)
    · rw [(others k hk).1] at hst
      exact hp.2 (port hscan) k hst

/-- A head's context after a run of the loop for the segment it stands in (R78, R79, R80). -/
theorem Head.CycleSound.run {q : Option RequestEntry} {m v sp : Nat} {r : Recipe} {g : Segment} {gr : GrantEntry}
    (hst : hd.state = .heating) (hc : c.soundIn .heating) (hrec : c.recipe = some r) (hseg : r.segments[c.segIndex]? = some g)
    (hacc : -(g.ceiling * 4096 : Int) ≤ c.loop.accumulator ∧ c.loop.accumulator ≤ g.ceiling * 4096)
    (hceil : c.CeilingsWithin m)
    (hq : q = some { request := (c.loop.run r g gr v sp).prevRequest, cls := g.kind.requestClass }) :
    Head.CycleSound { hd with ctx := some { c with loop := c.loop.run r g gr v sp } } q m := by
  intro d hd'
  obtain rfl := Option.some.inj hd'
  refine ⟨by rw [hst]; exact hc, fun _ => ⟨fun r' g' hr' hg' => ?_, hceil⟩, fun e => by simp [hst] at e⟩
  obtain rfl : r = r' := Option.some.inj (hrec ▸ hr')
  obtain rfl : g = g' := Option.some.inj (hseg ▸ hg')
  obtain ⟨h1, h2⟩ := nextAccumulator_mem (fz := judgeFreeze c.loop gr (loopError sp v)) (ki := r.ki) (e := loopError sp v)
    hacc.1 hacc.2
  refine ⟨h1, h2, fun e he => ?_⟩
  obtain rfl := Option.some.inj (hq ▸ he)
  exact ⟨LoopState.run_prevRequest_le_ceiling .., rfl⟩

/-! ### The moves -/

/-- A context one segment on is sound in HEATING and in HOLD (R57, R58). -/
theorem Context.Advanced.soundIn {r : Recipe} {g : Segment} (ha : c.Advanced c') (hc : c.soundIn .heating)
    (hrec : c.recipe = some r) (hnext : r.segments[c.segIndex + 1]? = some g) : c'.soundIn .heating ∧ c'.soundIn .hold := by
  obtain ⟨-, hres, hsum, r', hrec', hlen, -⟩ := hc
  obtain rfl : r = r' := Option.some.inj (hrec ▸ hrec')
  obtain ⟨hlt, -⟩ := List.getElem?_eq_some_iff.mp hnext
  have hsum' : c'.summaries.length = c'.segIndex := by rw [ha.summaries, ha.segIndex, hsum]
  have h8 : c'.summaries.length ≤ 8 := by rw [hsum', ha.segIndex]; omega
  have hlast : c'.result = none ∧ c'.summaries.length = c'.segIndex ∧
      ∃ r, c'.recipe = some r ∧ r.segments.length ≤ 8 ∧ c'.segIndex < r.segments.length :=
    ⟨by rw [ha.result, hres], hsum', r, by rw [ha.recipe, hrec], hlen, by rw [ha.segIndex]; exact hlt⟩
  exact ⟨⟨h8, hlast⟩, ⟨h8, hlast⟩⟩

/-- A cycle that is over leaves a sound context (R61, R62). -/
theorem Context.Over.soundIn {reason : Option Reason} {st : HeadState} (ho : c.Over reason c') (hc : c.soundIn st)
    (active : st = .lookup ∨ st = .heating ∨ st = .hold) : c'.soundIn (endState (cycleResult reason c'.flags)) := by
  have hlast : c.summaries.length ≤ c.segIndex ∧ c.segIndex + 1 ≤ 8 := by
    rcases active with rfl | rfl | rfl
    · obtain ⟨-, -, hsum, hseg, -⟩ := hc
      simp [hsum, hseg]
    all_goals
      obtain ⟨-, -, hsum, r, -, hlen, hlt⟩ := hc
      omega
  have h8 : c'.summaries.length ≤ 8 := (ho.summaries hlast.1).trans hlast.2
  refine ⟨h8, ?_⟩
  cases reason with
  | some x => exact ⟨ho.result, by rw [ho.reason]; exact nofun, ho.cycleTimer⟩
  | none =>
    have hres := ho.result
    simp only [cycleResult] at hres ⊢
    split at hres <;> simp_all [endState, ho.reason, ho.cycleTimer]

/-- A head that goes to HEATING stands in segment 0 with a loop just prepared (R47, R81). -/
theorem Context.startHeating_sound {r : Recipe} {m : Nat} (hc : c.soundIn .lookup) (fits : r.Fits m)
    {q : Option RequestEntry} (hq : q = some { request := 0, cls := r.firstClass }) :
    (c.startHeating r).soundIn .heating ∧ (c.startHeating r).LoopSound q ∧ (c.startHeating r).CeilingsWithin m := by
  obtain ⟨h8, -, hsum, -, hres⟩ := hc
  refine ⟨⟨h8, hres, by simp [Context.startHeating, Context.enter, hsum], r, rfl, fits.atMost, fits.some⟩, ?_, ?_⟩
  · intro r' g hr' hg
    obtain rfl := Option.some.inj hr'
    have hhead : r.segments.head? = some g := by rw [List.head?_eq_getElem?]; exact hg
    have hacc : (c.startHeating r).loop.accumulator = 0 := by
      simp only [Context.startHeating, hhead, LoopState.first, LoopState.created]
    refine ⟨by omega, by omega, fun e he => ?_⟩
    obtain rfl := Option.some.inj (hq ▸ he)
    exact ⟨Nat.zero_le _, by simp only [Recipe.firstClass, hhead]⟩
  · intro r' hr'
    obtain rfl := Option.some.inj hr'
    exact fits.ceilings

theorem Context.kept_expiry (s : State) (h : HeadId) (c : Context) : c.Kept (s.expiryContext h c) := by
  unfold State.expiryContext
  split <;> exact ⟨rfl, rfl, rfl, rfl, rfl, rfl, rfl, rfl, id⟩

theorem State.leaveCycle_heads_same_state (s : State) (h : HeadId) : (s.leaveCycle h).store.port = s.store.port ∧
    (s.leaveCycle h).store.inForce = s.store.inForce := by
  obtain ⟨q, e⟩ := s.leaveCycle_store h
  rw [e]; exact ⟨rfl, rfl⟩

theorem State.leaveCycle_request_other (s : State) (h : HeadId) (hk : k ≠ h) :
    (s.leaveCycle h).disp.request.get k = s.disp.request.get k := by
  rw [State.leaveCycle_disp]
  split
  · exact PerSix.get_set_other _ _ hk
  · rfl

theorem Quiet.coursesSound (q : Quiet s t) (hs : s.HeadsSound) (hp : s.CoursesSound) : t.CoursesSound := by
  have sameAt : ∀ k, (s.heads.get k).CycleSound (s.disp.request.get k) (s.store.inForce.get k).maxPower := hp.1
  cases q with
  | tick =>
    refine ⟨fun k => ?_, fun hscan k hst => hp.2 hscan k (by simpa [State.tick] using hst)⟩
    simp only [State.CycleSoundAt, State.tick, PerSix.get_map]
    refine (sameAt k).of_kept fun c _ => ⟨rfl, rfl, rfl, rfl, rfl, rfl, rfl, rfl, fun hn => ?_⟩
    simp [runDown, hn]
  | store st m =>
    obtain ⟨-, e2, e3⟩ := m.frame
    exact ⟨fun k => by rw [State.CycleSoundAt, e2]; exact sameAt k, fun hscan => hp.2 (e3 hscan)⟩
  | applyFields k idle =>
    have hne : (s.heads.get k).state ≠ .heating := by simp [idle]
    refine ⟨fun j => ?_, by simpa using hp.2⟩
    rw [State.CycleSoundAt, State.applyFields_heads, State.applyFields_disp, State.applyFields_store]
    by_cases hj : j = k
    · rw [hj]; exact (sameAt k).not_heating hne
    · rw [PerSix.get_set_other _ _ hj]; exact sameAt j
  | context k f kept =>
    refine hp.of_at (h := k) rfl id (fun j hj => ⟨State.modCtx_heads_other s f hj, rfl⟩) ?_ (by simpa using .inl)
    simpa [State.CycleSoundAt] using (sameAt k).of_kept kept
  | notice k =>
    refine hp.of_at (h := k) rfl id (fun j hj => ⟨State.modHead_heads_other s _ hj, rfl⟩) ?_ (by simpa using .inl)
    rw [State.CycleSoundAt, State.modHead_heads_same]
    exact sameAt k
  | heat k r c looks ctx port fits =>
    refine hp.of_at (h := k) rfl id
      (fun j hj => ⟨State.modHead_heads_other s _ hj, PerSix.get_set_other _ _ hj⟩) ?_ fun _ => .inr port
    intro d hd
    have hc := (sameAt k c ctx).1
    rw [looks] at hc
    simp only [State.beginHeating, State.modDisp_heads, State.modHead_heads_same, ctx, Option.map_some,
      Option.some.injEq] at hd
    subst hd
    obtain ⟨h1, h2⟩ := Context.startHeating_sound hc fits
      (q := (s.beginHeating k r).disp.request.get k) (PerSix.get_set_same ..)
    have hst : ((s.beginHeating k r).heads.get k).state = .heating := by simp [State.beginHeating]
    rw [hst]
    exact ⟨h1, fun _ => h2, nofun⟩
  | run k c r g v sp heats runs =>
    obtain ⟨hc, hrec, hseg⟩ := (State.running_iff ..).mp runs
    obtain ⟨h1, h2, -⟩ := sameAt k c hc
    rw [heats] at h1
    obtain ⟨hl, hceil⟩ := h2 heats
    obtain ⟨ha, hb, -⟩ := hl r g hrec hseg
    rw [State.runLoop_of_ctx hc]
    refine hp.of_at (h := k) rfl id (fun j hj => ⟨PerSix.get_set_other _ _ hj, PerSix.get_set_other _ _ hj⟩) ?_
      fun _ => .inl heats
    simp only [State.CycleSoundAt, PerSix.get_set_same]
    exact Head.CycleSound.run heats h1 hrec hseg ⟨ha, hb⟩ hceil rfl
  | advance k c c' r g g2 v sp heats runs next advanced loop =>
    obtain ⟨hc, hrec, hseg⟩ := (State.running_iff ..).mp runs
    obtain ⟨h1, h2, -⟩ := sameAt k c hc
    rw [heats] at h1
    obtain ⟨-, hceil⟩ := h2 heats
    rw [State.advance_eq]
    refine hp.of_at (h := k) rfl id (fun j hj => ⟨PerSix.get_set_other _ _ hj, PerSix.get_set_other _ _ hj⟩) ?_
      fun _ => .inl heats
    simp only [State.CycleSoundAt, PerSix.get_set_same]
    refine Head.CycleSound.run heats (advanced.soundIn h1 hrec next).1 (by rw [advanced.recipe, hrec])
      (by rw [advanced.segIndex]; exact next) ?_ ?_ rfl
    · rw [loop]; exact clampAccumulator_mem _ _
    · intro r' hr'
      exact hceil r' (by rw [← advanced.recipe]; exact hr')
  | hold k c c' r g g2 heats runs next advanced loop =>
    obtain ⟨hc, hrec, -⟩ := (State.running_iff ..).mp runs
    obtain ⟨h1, -⟩ := sameAt k c hc
    rw [heats] at h1
    refine hp.of_at (h := k) rfl id (fun j hj => ⟨?_, PerSix.get_set_other _ _ hj⟩) ?_ (by simp)
    · rw [State.modHead_heads_other _ _ hj, State.cut_heads_other _ _ hj]
    · intro d hd
      simp only [State.modHead_heads_same, Option.some.injEq] at hd
      subst hd
      simp only [State.modHead_heads_same]
      exact ⟨(advanced.soundIn h1 hrec next).2, nofun, fun _ => by rw [loop]; rfl⟩
  | close k reason c c' active ctx ended =>
    have hover := ended.soundIn (sameAt k c ctx).1 ((State.isActive_iff ..).mp active)
    have hne : endState (cycleResult reason c'.flags) ≠ .heating ∧ endState (cycleResult reason c'.flags) ≠ .hold := by
      rcases endState_cases (cycleResult reason c'.flags) with e | e <;> simp [e]
    obtain ⟨e1, e2⟩ := s.leaveCycle_heads_same_state k
    refine hp.of_at (h := k) (by rw [State.closeCycle_store, e2]) (by rw [State.closeCycle_store, e1]; exact id)
      (fun j hj => ?_) ?_ (by simp [hne])
    · rw [State.closeCycle_heads, State.closeCycle_disp, PerSix.get_set_other _ _ hj]
      exact ⟨State.leaveCycle_heads_other s k hj, State.leaveCycle_request_other s k hj⟩
    · intro d hd
      simp only [State.closeCycle_heads, PerSix.get_set_same, Option.some.injEq] at hd ⊢
      subst hd
      exact ⟨hover, fun e => absurd e hne.1, fun e => absurd e hne.2⟩
  | cutNone k heats none => exact absurd none (hs.ctx_ne_none (by simp [heats]))
  | forget k ended =>
    exact hp.of_at (h := k) rfl id (fun j hj => ⟨State.modHead_heads_other s _ hj, rfl⟩)
      (Head.CycleSound.of_none (by simp [State.forgetCycle])) (by simp [State.forgetCycle])
  | expire =>
    refine ⟨fun k => ?_, fun hscan k => by simpa using hp.2 (by simpa using hscan) k⟩
    rw [State.CycleSoundAt, State.expire_heads, State.expire_store, State.expire_disp]
    exact (sameAt k).of_kept fun c _ => Context.kept_expiry s k c
  | _ => exact hp

/-- The invariant of O54. -/
def State.CourseSound (s : State) : Prop := s.HeadsSound ∧ s.CoursesSound

theorem Quiet.courseSound (q : Quiet s t) (hp : s.CourseSound) : t.CourseSound :=
  ⟨q.headsSound hp.1, q.coursesSound hp.1 hp.2⟩

theorem State.Fresh.coursesSound (hf : s.Fresh) : s.CoursesSound :=
  ⟨fun k => Head.CycleSound.of_none (by rw [hf.head]; rfl), fun _ k => by rw [hf.head]; decide⟩

theorem kept_courseSound : Kept State.CourseSound where
  quiet := Quiet.courseSound
  store m hp := by
    obtain ⟨-, e2, e3⟩ := m.frame
    exact ⟨hp.1, fun k => by rw [State.CycleSoundAt, e2]; exact hp.2.1 k, fun hscan => hp.2.2 (e3 hscan)⟩
  line _ hp := hp
  modes p hm hp := modes_of_setModeTo Quiet.courseSound (fun _ _ _ hp => hp) p hm hp
  adopt _ hp := hp
  scan flips hport hp := by
    refine ⟨hp.1.handOver flips, fun k => ?_, nofun⟩
    simp only [State.CycleSoundAt, State.handOver, State.scan_heads, State.scan_disp]
    exact (hp.2.1 k).not_heating (hp.2.2 hport k)
  reset _ _ _ _ := ⟨(State.fresh_resetWith ..).headsSound, (State.fresh_resetWith ..).coursesSound⟩

/-- A cycle that has just begun has a sound context (Table 3.2). -/
theorem State.CoursesSound.beginCycle {tr : TraceUnit} {buf : BufferId} (hb : s.Begins h tr buf c)
    (hp : s.CoursesSound) : (s.beginCycle h tr buf c).CoursesSound := by
  refine hp.of_at (h := h) rfl id (fun j hj => ⟨PerSix.get_modify_other _ _ hj, rfl⟩) ?_ (by simp [State.beginCycle])
  intro d hd
  simp only [State.beginCycle, PerSix.get_modify_same, Option.some.injEq] at hd ⊢
  subst hd
  exact ⟨⟨by simp [hb.summaries], hb.recipe, hb.summaries, hb.segIndex, hb.result⟩, nofun, nofun⟩

/-- Settles O54: contexts are kept sound by every move. -/
theorem cyclesStaySound : Obligations.CyclesStaySound := by
  have key := kept_courseSound.step (fun _ hp => hp) fun hb hp => ⟨hp.1.beginCycle hb, hp.2.beginCycle hb⟩
  intro s t hp hs
  obtain ⟨h1, h2⟩ := key s t ⟨hp.1, (State.coursesSound_iff s).mpr hp.2⟩ hs
  exact ⟨h1, (State.coursesSound_iff t).mp h2⟩

end Sys2Proof.Machine
end

section
/-! PROOFS. The code index under the store's operations (R9), and the start-up scan slot by slot (R22). -/

namespace Sys2Proof.Machine

variable {s : State} {st st0 : Store} {slot code n : Nat}

/-! ### The code index (R9) -/

/-- Ascending codes, and no slot twice. -/
def Store.IndexOrdered (st : Store) : Prop := (st.index.map (·.code)).Pairwise (· < ·) ∧ (st.index.map (·.slot)).Nodup

/-- A VALID slot has an entry and no other slot has. -/
def Store.IndexStandsFor (st : Store) (slot : Nat) : Prop :=
  st.slotStatus[slot]? = some .valid ↔ ∃ e ∈ st.index, e.slot = slot

theorem insertEntry_perm (x : IndexEntry) (l : List IndexEntry) : (insertEntry x l).Perm (x :: l) := by
  induction l with
  | nil => exact .refl _
  | cons y ys ih =>
    simp only [insertEntry]
    split
    · exact .refl _
    · exact (ih.cons y).trans (.swap x y ys)

theorem Store.IndexOrdered.dropIndex (ho : st.IndexOrdered) (slot : Nat) : (st.dropIndex slot).IndexOrdered :=
  ⟨ho.1.sublist (List.filter_sublist.map _), ho.2.sublist (List.filter_sublist.map _)⟩

/-- A code that stands for no other slot may be entered. -/
theorem Store.IndexOrdered.enterIndex (ho : st.IndexOrdered) (hc : ∀ e ∈ st.index, e.code = code → e.slot = slot) :
    (st.enterIndex code slot).IndexOrdered := by
  obtain ⟨h1, h2⟩ := ho.dropIndex slot
  refine ⟨insertEntry_ascending h1 fun e he hcode => ?_, ?_⟩
  · obtain ⟨hmem, hslot⟩ := (Store.mem_dropIndex st).mp he
    exact hslot (hc e hmem hcode)
  · have hperm := (insertEntry_perm { code := code, slot := slot } (st.dropIndex slot).index).map (·.slot)
    refine hperm.nodup_iff.mpr (List.nodup_cons.mpr ⟨fun hmem => ?_, h2⟩)
    obtain ⟨e, he, hslot⟩ := List.mem_map.mp hmem
    exact ((Store.mem_dropIndex st).mp he).2 hslot

/-- Making a slot VALID with its entry leaves the index standing for the VALID slots. -/
theorem Store.indexStandsFor_enter (hlen : slot < st.slotStatus.length) (k : Nat) (hk : st.IndexStandsFor k) :
    ((st.setStatus slot .valid).enterIndex code slot).IndexStandsFor k := by
  unfold Store.IndexStandsFor at *
  rw [Store.enterIndex_slotStatus, Store.setStatus_slotStatus, List.getElem?_set]
  simp only [Store.mem_enterIndex, Store.setStatus_index, hlen, if_true]
  by_cases h : slot = k
  · subst h
    simp
  · rw [if_neg h, hk]
    constructor
    · rintro ⟨e, he, rfl⟩
      exact ⟨e, .inr ⟨he, Ne.symm h⟩, rfl⟩
    · rintro ⟨e, rfl | ⟨he, -⟩, hslot⟩
      · exact absurd hslot h
      · exact ⟨e, he, hslot⟩

/-- A slot made anything but VALID loses its entry. -/
theorem Store.indexStandsFor_drop {v : SlotStatus} (hv : v ≠ .valid) (k : Nat) (hk : st.IndexStandsFor k) :
    ((st.setStatus slot v).dropIndex slot).IndexStandsFor k := by
  unfold Store.IndexStandsFor at *
  have hstatus : ((st.setStatus slot v).dropIndex slot).slotStatus = st.slotStatus.set slot v := rfl
  rw [hstatus, List.getElem?_set]
  simp only [Store.mem_dropIndex, Store.setStatus_index]
  by_cases h : slot = k
  · subst h
    simp only [if_true]
    constructor
    · split
      · simp [hv]
      · simp
    · rintro ⟨e, ⟨-, hne⟩, hslot⟩
      exact absurd hslot hne
  · rw [if_neg h, hk]
    constructor
    · rintro ⟨e, he, rfl⟩
      exact ⟨e, ⟨he, Ne.symm h⟩, rfl⟩
    · rintro ⟨e, ⟨he, -⟩, hslot⟩
      exact ⟨e, he, hslot⟩

/-! ### The recipe slots (R22) -/

/-- What the scan makes of one recipe slot, read from a store scanned beyond it (R22). -/
def Store.ScannedSlot (st : Store) (slot : Nat) : Prop :=
  match st.nv.getD slot none with
  | none => st.slotStatus[slot]? = some .empty ∧ st.lastRevision[slot]? = some 0
  | some cells =>
    match (readRecord storedHeaderOk (cells.take storedHeaderBytes)).2 with
    | none => st.slotStatus[slot]? = some .damaged ∧ st.lastRevision[slot]? = some 0
    | some hdr =>
      st.lastRevision[slot]? = some (storedRevision hdr) ∧
        ((st.slotStatus[slot]? = some .valid ∧ { code := u16At hdr 2, slot := slot } ∈ st.index) ∨
          (st.slotStatus[slot]? = some .damaged ∧
            ∃ lower, lower < slot ∧ { code := u16At hdr 2, slot := lower } ∈ st.index))

/-- A store whose recipe slots below `n` have been scanned, from `st0` with an empty index. -/
structure Store.Scanned (st0 st : Store) (n : Nat) : Prop where
  nv : st.nv = st0.nv
  statusLength : st.slotStatus.length = st0.slotStatus.length
  revisionLength : st.lastRevision.length = st0.lastRevision.length
  ordered : st.IndexOrdered
  below : ∀ e ∈ st.index, e.slot < n
  stands : ∀ slot, slot < n → st.IndexStandsFor slot
  slots : ∀ slot, slot < n → st.ScannedSlot slot

/-- The store but for what the scan of recipe slots changes. -/
def Store.ScanFrame (st0 st : Store) : Prop :=
  st = { st0 with
    slotStatus := st.slotStatus, lastRevision := st.lastRevision, index := st.index, corrected := st.corrected
    uncorrectable := st.uncorrectable, lastError := st.lastError }

/-- A scanned slot gets a status that is not VALID and keeps the index, or is VALID and entered under a new code. -/
theorem Store.scanRecipeSlot_cases (st : Store) (slot : Nat) :
    (∃ c u v rev, v ≠ SlotStatus.valid ∧
      st.scanRecipeSlot slot = ((st.countRead slot c u).setStatus slot v).setRevision slot rev) ∨
    ∃ c rev code, st.slotOf code = none ∧
      st.scanRecipeSlot slot =
        (((st.countRead slot c false).setStatus slot .valid).setRevision slot rev).enterIndex code slot := by
  simp only [Store.scanRecipeSlot]
  split
  · exact .inl ⟨false, false, .empty, 0, by decide, rfl⟩
  · split
    · exact .inl ⟨_, true, .damaged, 0, by decide, rfl⟩
    · split
      · exact .inl ⟨_, true, .damaged, _, by decide, rfl⟩
      · next hnone => exact .inr ⟨_, _, _, by simpa using hnone, rfl⟩

theorem Store.scanRecipeSlot_frame (st : Store) (slot : Nat) : st.ScanFrame (st.scanRecipeSlot slot) := by
  unfold Store.ScanFrame
  rcases st.scanRecipeSlot_cases slot with ⟨c, u, v, rev, -, e⟩ | ⟨c, rev, code, -, e⟩ <;> rw [e, Store.countRead_eq] <;> rfl

/-- The slot just scanned (R22): its status and its revision, and its code's entry. -/
theorem Store.scannedSlot_self (hs : slot < st.slotStatus.length) (hr : slot < st.lastRevision.length)
    (ho : (st.index.map (·.code)).Pairwise (· < ·)) (below : ∀ e ∈ st.index, e.slot < slot) :
    (st.scanRecipeSlot slot).ScannedSlot slot := by
  have hnv : (st.scanRecipeSlot slot).nv = st.nv := by rw [Store.scanRecipeSlot_frame]
  unfold Store.ScannedSlot
  rw [hnv]
  cases hc : st.nv.getD slot none with
  | none => simp [Store.scanRecipeSlot, hc, hs, hr, -List.getD_eq_getElem?_getD]
  | some cells =>
    simp only
    cases hread : (readRecord storedHeaderOk (cells.take storedHeaderBytes)).2 with
    | none => simp [Store.scanRecipeSlot, hc, hread, hs, hr, -List.getD_eq_getElem?_getD]
    | some hdr =>
      cases hcode : st.slotOf (u16At hdr 2) with
      | none =>
        simp [Store.scanRecipeSlot, hc, hread, hcode, hs, hr, Store.mem_enterIndex, -List.getD_eq_getElem?_getD]
      | some lower =>
        have hmem := (Store.slotOf_eq_some st ho).mp hcode
        simp only [Store.scanRecipeSlot, hc, hread, hcode, Option.isSome_some, if_true]
        simp only [Store.setRevision_lastRevision, Store.setStatus_lastRevision, Store.countRead_lastRevision,
          Store.setRevision_slotStatus, Store.setStatus_slotStatus, Store.countRead_slotStatus, Store.setRevision_index,
          Store.setStatus_index, Store.countRead_index, List.getElem?_set_self hs, List.getElem?_set_self hr]
        exact ⟨trivial, .inr ⟨trivial, lower, below _ hmem, hmem⟩⟩

/-- The scan of a later slot leaves what it made of this one. -/
theorem Store.ScannedSlot.later {k : Nat} (hk : k < slot) (hs : st.ScannedSlot k) : (st.scanRecipeSlot slot).ScannedSlot k := by
  have hnv : (st.scanRecipeSlot slot).nv = st.nv := by rw [Store.scanRecipeSlot_frame]
  have hne : slot ≠ k := by omega
  obtain ⟨hstatus, hrev, hindex⟩ : (st.scanRecipeSlot slot).slotStatus[k]? = st.slotStatus[k]? ∧
      (st.scanRecipeSlot slot).lastRevision[k]? = st.lastRevision[k]? ∧
      ∀ e ∈ st.index, e.slot ≠ slot → e ∈ (st.scanRecipeSlot slot).index := by
    rcases st.scanRecipeSlot_cases slot with ⟨c, u, v, rev, -, e⟩ | ⟨c, rev, code, -, e⟩ <;> rw [e]
    · simpa [List.getElem?_set_ne hne] using fun e he _ => he
    · simpa [List.getElem?_set_ne hne, Store.mem_enterIndex] using fun e he hne => .inr ⟨he, hne⟩
  unfold Store.ScannedSlot at *
  rw [hnv, hstatus, hrev]
  cases hc : st.nv.getD k none with
  | none => simpa only [hc] using hs
  | some cells =>
    simp only [hc] at hs ⊢
    cases hread : (readRecord storedHeaderOk (cells.take storedHeaderBytes)).2 with
    | none => simpa only [hread] using hs
    | some hdr =>
      simp only [hread] at hs ⊢
      refine hs.imp_right (Or.imp ?_ ?_)
      · exact fun ⟨h1, h2⟩ => ⟨h1, hindex _ h2 hne.symm⟩
      · exact fun ⟨h1, lower, hlt, h2⟩ => ⟨h1, lower, hlt, hindex _ h2 (by simp only; omega)⟩

theorem Store.Scanned.succ (hp : st0.Scanned st n) (hs : n < st0.slotStatus.length) (hr : n < st0.lastRevision.length) :
    st0.Scanned (st.scanRecipeSlot n) (n + 1) := by
  have hnv : (st.scanRecipeSlot n).nv = st.nv := by rw [Store.scanRecipeSlot_frame]
  have hs' : n < st.slotStatus.length := by rwa [hp.statusLength]
  have hr' : n < st.lastRevision.length := by rwa [hp.revisionLength]
  have hself := Store.scannedSlot_self hs' hr' hp.ordered.1 hp.below
  have hslots : ∀ k, k < n + 1 → (st.scanRecipeSlot n).ScannedSlot k := fun k hk => by
    rcases Nat.lt_succ_iff_lt_or_eq.mp hk with h | rfl
    · exact (hp.slots k h).later h
    · exact hself
  have hn : st.slotStatus[n]? ≠ some .valid → st.IndexStandsFor n := fun hv =>
    ⟨fun h => absurd h hv, fun ⟨e, he, heq⟩ => absurd (hp.below e he) (by omega)⟩
  rcases st.scanRecipeSlot_cases n with ⟨c, u, v, rev, hv, e⟩ | ⟨c, rev, code, hcode, e⟩
  · refine ⟨hnv.trans hp.nv, by simp [e, hp.statusLength], by simp [e, hp.revisionLength], ?_, ?_, fun k hk => ?_, hslots⟩
    · simpa [e, Store.IndexOrdered] using hp.ordered
    · intro x hx
      exact Nat.lt_succ_of_lt (hp.below x (by simpa [e] using hx))
    · simp only [e, Store.IndexStandsFor, Store.setRevision_slotStatus, Store.setStatus_slotStatus,
        Store.countRead_slotStatus, Store.setRevision_index, Store.setStatus_index, Store.countRead_index]
      rcases Nat.lt_succ_iff_lt_or_eq.mp hk with h | rfl
      · rw [List.getElem?_set_ne (by omega)]; exact hp.stands k h
      · rw [List.getElem?_set_self hs']
        exact ⟨fun h => absurd (Option.some.inj h) hv, fun ⟨x, hx, heq⟩ => absurd (hp.below x hx) (by omega)⟩
  · have hnot := (Store.slotOf_eq_none st).mp hcode
    refine ⟨hnv.trans hp.nv, by simp [e, hp.statusLength], by simp [e, hp.revisionLength], ?_, ?_, fun k hk => ?_, hslots⟩
    · rw [e]
      refine Store.IndexOrdered.enterIndex ?_ ?_
      · simpa [Store.IndexOrdered] using hp.ordered
      · simpa using fun x hx hc => absurd hc (hnot x hx)
    · intro x hx
      rw [e, Store.mem_enterIndex] at hx
      rcases hx with rfl | ⟨hx, -⟩
      · exact Nat.lt_succ_self n
      · exact Nat.lt_succ_of_lt (hp.below x (by simpa using hx))
    · rw [e]
      simp only [Store.IndexStandsFor, Store.enterIndex_slotStatus, Store.setRevision_slotStatus,
        Store.setStatus_slotStatus, Store.countRead_slotStatus, Store.mem_enterIndex, Store.setRevision_index,
        Store.setStatus_index, Store.countRead_index]
      rcases Nat.lt_succ_iff_lt_or_eq.mp hk with h | rfl
      · have hstands := hp.stands k h
        unfold Store.IndexStandsFor at hstands
        rw [List.getElem?_set_ne (by omega), hstands]
        constructor
        · rintro ⟨x, hx, rfl⟩
          exact ⟨x, .inr ⟨hx, by omega⟩, rfl⟩
        · rintro ⟨x, rfl | ⟨hx, -⟩, hslot⟩
          · exact absurd hslot (by simp only; omega)
          · exact ⟨x, hx, hslot⟩
      · simp [List.getElem?_set_self hs']

/-- The scan of the recipe slots in slot order, as far as slot `n` (R22). -/
def Store.scanTo (st : Store) (n : Nat) : Store := (List.range n).foldl Store.scanRecipeSlot { st with index := [] }

theorem Store.scanTo_succ (st : Store) (n : Nat) : st.scanTo (n + 1) = (st.scanTo n).scanRecipeSlot n := by
  simp [Store.scanTo, List.range_succ]

theorem Store.scanRecipes_eq (st : Store) : st.scanRecipes = st.scanTo 48 := rfl

theorem Store.scanned_scanTo (st : Store) (hs : n ≤ st.slotStatus.length) (hr : n ≤ st.lastRevision.length) :
    st.Scanned (st.scanTo n) n := by
  induction n with
  | zero => exact ⟨rfl, rfl, rfl, ⟨.nil, .nil⟩, nofun, nofun, nofun⟩
  | succ n ih => rw [Store.scanTo_succ]; exact (ih (by omega) (by omega)).succ hs hr

theorem Store.scanTo_frame (st : Store) (n : Nat) : st.ScanFrame (st.scanTo n) := by
  induction n with
  | zero => rfl
  | succ n ih =>
    have step := (st.scanTo n).scanRecipeSlot_frame n
    rw [Store.scanTo_succ]
    unfold Store.ScanFrame at *
    rw [step, ih]

/-! ### The calibration slots and the settings slot (R22) -/

@[simp] theorem Store.countCalibration_nv (st : Store) (h : HeadId) : (st.countCalibration h).nv = st.nv := by
  unfold Store.countCalibration; split <;> simp

theorem Store.calibrationRecord_countCalibration (st : Store) (h k : HeadId) :
    (st.countCalibration h).calibrationRecord k = st.calibrationRecord k := by
  simp [Store.calibrationRecord]

/-- The scan of the six calibration slots as a whole. -/
theorem State.scanCalibrations_eq (s : State) :
    s.forHeadsInOrder State.scanCalibration =
      { s with
        store := sixInOrder.foldl Store.countCalibration s.store
        fronts := PerSix.ofFn fun h => (s.fronts.get h).loadCalibration (s.store.calibrationRecord h) } := by
  simp only [State.forHeadsInOrder, sixInOrder, List.foldl_cons, List.foldl_nil, State.scanCalibration_eq,
    Store.calibrationRecord_countCalibration]
  rfl

theorem Store.calibrationRecord_congr {st' : Store} (hnv : st'.nv = st.nv) (h : HeadId) :
    st'.calibrationRecord h = st.calibrationRecord h := by
  unfold Store.calibrationRecord; rw [hnv]

theorem Store.scanTo_nv (st : Store) (n : Nat) : (st.scanTo n).nv = st.nv := by rw [st.scanTo_frame n]

/-- The calibration copies after the scan. -/
theorem State.scan_fronts (s : State) (flips : List SlotFlip) (h : HeadId) :
    (s.scan flips).fronts.get h =
      (s.fronts.get h).loadCalibration ((s.store.flipSlots flips).calibrationRecord h) := by
  unfold State.scan
  rw [State.modStore_fronts, State.scanCalibrations_eq, PerSix.get_ofFn, State.modStore_store, State.modStore_fronts,
    Store.scanRecipes_eq, Store.calibrationRecord_congr (Store.scanTo_nv _ 48)]

/-- The store after the scan: recipe slots, calibration slots, settings slot. -/
theorem State.scan_store (s : State) (flips : List SlotFlip) :
    (s.scan flips).store =
      (sixInOrder.foldl Store.countCalibration ((s.store.flipSlots flips).scanTo 48)).scanSettings := by
  unfold State.scan
  rw [State.modStore_store, State.scanCalibrations_eq, State.modStore_store, Store.scanRecipes_eq]

/-! ### What the scan leaves of the store -/

/-- The store but for the memory, the recipe slots, the counts and the settings. -/
def Store.KeptByScan (st0 st : Store) : Prop :=
  st = { st0 with
    nv := st.nv, slotStatus := st.slotStatus, lastRevision := st.lastRevision, index := st.index
    corrected := st.corrected, uncorrectable := st.uncorrectable, lastError := st.lastError, settings := st.settings
    settingsDefaulted := st.settingsDefaulted }

theorem Store.KeptByScan.trans {a b c : Store} (h1 : a.KeptByScan b) (h2 : b.KeptByScan c) : a.KeptByScan c := by
  unfold Store.KeptByScan at *
  rw [h2, h1]

theorem Store.keptByScan_flipSlots (st : Store) (flips : List SlotFlip) : st.KeptByScan (st.flipSlots flips) := by
  unfold Store.flipSlots
  induction flips generalizing st with
  | nil => rfl
  | cons f fs ih => exact Store.KeptByScan.trans (b := st.flip f.slot [{ cell := f.cell, mask := f.mask }]) rfl (ih _)

theorem Store.keptByScan_scanTo (st : Store) (n : Nat) : st.KeptByScan (st.scanTo n) := by
  unfold Store.KeptByScan
  rw [st.scanTo_frame n]

theorem Store.keptByScan_countCalibrations (st : Store) (l : List HeadId) :
    st.KeptByScan (l.foldl Store.countCalibration st) := by
  induction l generalizing st with
  | nil => rfl
  | cons h hs ih =>
    refine Store.KeptByScan.trans ?_ (ih _)
    unfold Store.countCalibration
    split
    · rfl
    · rw [Store.countRead_eq]; rfl

theorem Store.keptByScan_scanSettings (st : Store) : st.KeptByScan st.scanSettings := by
  simp only [Store.scanSettings]
  split
  · rfl
  · split <;> rw [Store.countRead_eq] <;> rfl

theorem State.keptByScan (s : State) (flips : List SlotFlip) : s.store.KeptByScan (s.scan flips).store := by
  rw [State.scan_store]
  exact (((s.store.keptByScan_flipSlots flips).trans (Store.keptByScan_scanTo _ 48)).trans
    (Store.keptByScan_countCalibrations _ _)).trans (Store.keptByScan_scanSettings _)

theorem State.scan_supervisor (s : State) (flips : List SlotFlip) : (s.scan flips).store.supervisor = s.store.supervisor := by
  rw [s.keptByScan flips]

end Sys2Proof.Machine
end

section
/-! PROOFS. The front ends (O55): each is judged against its head's cycle, move by move. -/

namespace Sys2Proof.Machine

variable {s t : State} {h k : HeadId} {fe fe' : FrontEnd}

/-- What `State.FrontsSound` asks of one front end, `dry` telling whether its head's cycle is active and dry. -/
def FrontEnd.SoundFor (fe : FrontEnd) (dry : Prop) : Prop :=
  fe.calibration.sound ∧ (∀ t, fe.temperature = some t → t ≤ 12000) ∧ fe.replayPos ≤ 255 ∧
    (fe.sensor = .fresh → fe.temperature ≠ none ∧ fe.timer ≠ none) ∧ (fe.replayActive = true → dry)

/-- An active dry cycle on a head (R38). -/
def State.ActiveDry (s : State) (h : HeadId) : Prop := s.isActive h = true ∧ s.isDry h = true

/-- A calibration write in the supervisor slot holds a sound calibration (R5). -/
def Store.HoldsSound (st : Store) : Prop :=
  ∀ h body started, st.supervisor = some { op := .calibrationWrite h body, started := started } →
    (decodeCalibration body).sound

theorem State.frontsSound_iff (s : State) :
    s.FrontsSound ↔ s.sup.replayTable.length = 256 ∧ s.store.HoldsSound ∧
      ∀ h, (s.fronts.get h).SoundFor (s.ActiveDry h) := Iff.rfl

theorem Calibration.sound_zero : Calibration.zero.sound := by
  refine ⟨rfl, ?_, ?_, by decide, by decide⟩ <;> decide

theorem FrontEnd.soundFor_reset (dry : Prop) : FrontEnd.reset.SoundFor dry :=
  ⟨Calibration.sound_zero, nofun, Nat.zero_le _, nofun, nofun⟩

/-- A change of a front end by an event of its sensor, its replay or its calibration leaves it sound. -/
theorem FrontMove.sound (m : FrontMove s h fe) (hs : s.store.HoldsSound) (hp : (s.fronts.get h).SoundFor (s.ActiveDry h)) :
    fe.SoundFor (s.ActiveDry h) := by
  obtain ⟨hcal, htemp, hpos, hfresh, hreplay⟩ := hp
  cases m with
  | receive x => exact ⟨hcal, htemp, hpos, hfresh, hreplay⟩
  | status x => exact ⟨hcal, htemp, hpos, hfresh, hreplay⟩
  | usable t timeout ht =>
    exact ⟨hcal, fun t' e => by cases e; exact ht, hpos, fun _ => ⟨nofun, nofun⟩, hreplay⟩
  | lost => exact ⟨hcal, htemp, hpos, nofun, hreplay⟩
  | uncalibrated => exact ⟨hcal, htemp, hpos, hfresh, hreplay⟩
  | calibrated body held => exact ⟨hs _ _ _ held, htemp, hpos, hfresh, hreplay⟩
  | replayBegins next timeout active dry =>
    exact ⟨hcal, htemp, Nat.zero_le _, fun e => ⟨(hfresh e).1, nofun⟩, fun _ => ⟨active, dry⟩⟩
  | replaySteps next => exact ⟨hcal, htemp, Nat.min_le_right _ _, hfresh, hreplay⟩

/-- The heads' cycles go on as they were, dry or not. -/
theorem State.FrontsSound.of_heads (hp : s.FrontsSound) (fronts : t.fronts = s.fronts) (store : t.store.supervisor = s.store.supervisor)
    (sup : t.sup.replayTable = s.sup.replayTable)
    (cycles : ∀ k, (s.fronts.get k).replayActive = true → s.ActiveDry k → t.ActiveDry k) : t.FrontsSound := by
  obtain ⟨h1, h2, h3⟩ := hp
  refine ⟨by rw [sup]; exact h1, fun h body started => by rw [store]; exact h2 h body started, fun k => ?_⟩
  obtain ⟨a1, a2, a3, a4, a5⟩ := h3 k
  rw [fronts]
  exact ⟨a1, a2, a3, a4, fun e => cycles k e (a5 e)⟩

/-- Whether a head's cycle is active and dry hangs on its state and its context alone. -/
theorem State.ActiveDry.congr (ha : s.ActiveDry k) (state : (t.heads.get k).state = (s.heads.get k).state ∨
    (t.heads.get k).state = .heating ∨ (t.heads.get k).state = .hold)
    (dry : (t.heads.get k).dry = (s.heads.get k).dry) : t.ActiveDry k := by
  obtain ⟨h1, h2⟩ := ha
  rw [State.isActive_iff] at h1
  rw [State.isDry_eq] at h2
  refine ⟨?_, by rw [State.isDry_eq]; exact dry.trans h2⟩
  rw [State.isActive_iff]
  rcases state with e | e | e <;> simp [e, h1]

theorem State.ActiveDry.of_head_eq (ha : s.ActiveDry k) (head : t.heads.get k = s.heads.get k) : t.ActiveDry k :=
  ha.congr (.inl (by rw [head])) (by rw [head])

/-- One head's context or state changes, its cycle staying active and dry if it was. -/
theorem State.FrontsSound.of_head (hp : s.FrontsSound) (fronts : t.fronts = s.fronts)
    (store : t.store.supervisor = s.store.supervisor) (sup : t.sup.replayTable = s.sup.replayTable)
    (others : ∀ k, k ≠ h → t.heads.get k = s.heads.get k)
    (state : (t.heads.get h).state = (s.heads.get h).state ∨ (t.heads.get h).state = .heating ∨ (t.heads.get h).state = .hold)
    (dry : (t.heads.get h).dry = (s.heads.get h).dry) : t.FrontsSound := by
  refine hp.of_heads fronts store sup fun k _ ha => ?_
  by_cases hk : k = h
  · subst hk; exact ha.congr state dry
  · exact ha.of_head_eq (others k hk)

theorem Store.HoldsSound.moved {st : Store} (hs : s.store.HoldsSound) (m : StoreMove s st) : st.HoldsSound := by
  intro h body started hop
  rcases m.supervisor hop with ⟨b, e⟩ | ⟨hadm, -⟩
  · exact hs h body b e
  · exact hadm

theorem Quiet.frontsSound (q : Quiet s t) (hp : s.FrontsSound) : t.FrontsSound := by
  obtain ⟨htable, hheld, hfronts⟩ := (State.frontsSound_iff s).mp hp
  cases q with
  | tick =>
    refine ⟨htable, hheld, fun k => ?_⟩
    obtain ⟨h1, h2, h3, h4, h5⟩ := hfronts k
    simp only [State.tick, PerSix.get_map]
    refine ⟨h1, h2, h3, fun e => ⟨(h4 e).1, by simpa [runDown] using (h4 e).2⟩, fun e => ?_⟩
    refine (h5 e).congr (.inl (by simp)) ?_
    simp only [PerSix.get_map, Head.dry, Option.map_map]
    rfl
  | front k fe m =>
    refine ⟨htable, hheld, fun j => ?_⟩
    by_cases hj : j = k
    · subst hj
      simp only [PerSix.get_set_same]
      exact m.sound hheld (hfronts j)
    · simp only [PerSix.get_set_other _ _ hj]
      exact hfronts j
  | sup u mode restart table => exact ⟨table htable, hheld, hfronts⟩
  | store st m => exact ⟨htable, hheld.moved m, hfronts⟩
  | applyFields k =>
    refine hp.of_heads (by simp) (by simp) (by simp) fun j _ ha => ha.of_head_eq (by simp)
  | context k f kept =>
    refine hp.of_head (h := k) rfl rfl rfl (fun j hj => State.modCtx_heads_other s f hj) (.inl (by simp)) ?_
    rw [State.modCtx_heads_same, Head.dry, Head.dry]
    cases hc : (s.heads.get k).ctx with
    | none => rfl
    | some c => exact (kept c hc).dry
  | notice k =>
    exact hp.of_head (h := k) rfl rfl rfl (fun j hj => State.modHead_heads_other s _ hj) (.inl (by simp)) (by simp [Head.dry])
  | heat k r c looks ctx =>
    exact hp.of_head (h := k) rfl rfl rfl (fun j hj => State.modHead_heads_other s _ hj)
      (.inr (.inl (by simp [State.beginHeating])))
      (by simp [State.beginHeating, Head.dry, ctx, Context.startHeating, Context.enter])
  | run k c r g v sp heats runs =>
    rw [State.runLoop_of_ctx (State.running_ctx runs)]
    exact hp.of_head (h := k) rfl rfl rfl (fun j hj => PerSix.get_set_other _ _ hj) (.inl (by simp))
      (by simp [Head.dry, State.running_ctx runs])
  | advance k c c' r g g2 v sp heats runs next advanced loop =>
    rw [State.advance_eq]
    exact hp.of_head (h := k) rfl rfl rfl (fun j hj => PerSix.get_set_other _ _ hj) (.inl (by simp))
      (by simp [Head.dry, State.running_ctx runs, advanced.dry])
  | hold k c c' r g g2 heats runs next advanced =>
    refine hp.of_head (h := k) rfl rfl rfl (fun j hj => ?_) (.inr (.inr (by simp)))
      (by simp [Head.dry, State.running_ctx runs, advanced.dry])
    rw [State.modHead_heads_other _ _ hj, State.cut_heads_other _ _ hj]
  | close k reason c c' =>
    obtain ⟨q, hq⟩ := s.leaveCycle_store k
    obtain ⟨m, hm⟩ := (s.leaveCycle k).closeCycle_sup k reason c'
    refine ⟨by rw [hm]; simpa using htable, by rw [State.closeCycle_store, hq]; exact hheld, fun j => ?_⟩
    rw [State.closeCycle_fronts, State.leaveCycle_fronts]
    by_cases hj : j = k
    · subst hj
      obtain ⟨h1, h2, h3, h4, -⟩ := hfronts j
      rw [PerSix.get_modify_same]
      exact ⟨h1, h2, h3, h4, nofun⟩
    · obtain ⟨h1, h2, h3, h4, h5⟩ := hfronts j
      rw [PerSix.get_modify_other _ _ hj]
      refine ⟨h1, h2, h3, h4, fun e => (h5 e).of_head_eq ?_⟩
      rw [State.closeCycle_heads, PerSix.get_set_other _ _ hj, State.leaveCycle_heads_other s k hj]
  | cutNone k heats none =>
    exact hp.of_head (h := k) rfl rfl rfl (fun j hj => State.cut_heads_other s k hj) (.inl (by simp)) (by simp [Head.dry, none])
  | forget k ended =>
    refine hp.of_heads rfl rfl rfl fun j _ ha => ?_
    by_cases hj : j = k
    · subst hj
      have := (State.isActive_iff ..).mp ha.1
      rcases ended with e | e <;> simp [e] at this
    · exact ha.of_head_eq (State.modHead_heads_other s _ hj)
  | expire =>
    refine hp.of_heads (by simp) (by simp) (by simp) fun j _ ha => ha.congr (.inl (by simp)) ?_
    rw [State.expire_heads]
    cases hc : (s.heads.get j).ctx with
    | none => simp [Head.dry, hc]
    | some c => simp [Head.dry, hc, (Context.kept_expiry s j c).dry]
  | _ => exact hp

/-- A stored calibration that passes its tests loads a sound copy (R5, R22, R29). -/
theorem FrontEnd.loadCalibration_sound {st : Store} {dry : Prop} (hp : fe.SoundFor dry) :
    (fe.loadCalibration (st.calibrationRecord h)).SoundFor dry := by
  obtain ⟨-, h2, h3, h4, h5⟩ := hp
  cases hr : st.calibrationRecord h with
  | none => exact ⟨Calibration.sound_zero, h2, h3, h4, h5⟩
  | some body =>
    obtain ⟨cells, -, hread⟩ := Option.bind_eq_some_iff.mp hr
    obtain ⟨-, hok⟩ := (Option.filter_eq_some_iff).mp hread
    simp only [storedCalibrationOk, Bool.and_eq_true, Option.isNone_iff_eq_none] at hok
    exact ⟨decodeCalibration_sound hok.2, h2, h3, h4, h5⟩

/-- The scan and the hand-over leave the front ends sound (R22, R23). -/
theorem State.FrontsSound.handOver (hp : s.FrontsSound) (flips : List SlotFlip) : (s.scan flips).handOver.FrontsSound := by
  have sup : ∀ u : State, u.handOver.sup.replayTable = u.sup.replayTable := fun _ => rfl
  have supervisor : ∀ u : State, u.handOver.store.supervisor = u.store.supervisor := fun _ => rfl
  have fronts : ∀ u : State, u.handOver.fronts = u.fronts := fun _ => rfl
  have heads : ∀ u : State, u.handOver.heads = u.heads := fun _ => rfl
  refine ⟨by rw [sup, State.scan_sup]; exact hp.1, ?_, fun k => ?_⟩
  · rw [supervisor, State.scan_supervisor]
    exact hp.2.1
  · rw [fronts, State.scan_fronts]
    obtain ⟨h1, h2, h3, h4, h5⟩ := hp.2.2 k
    refine FrontEnd.loadCalibration_sound ⟨h1, h2, h3, h4, fun e => ?_⟩
    exact State.ActiveDry.of_head_eq (h5 e) (by rw [heads, State.scan_heads])

theorem State.Fresh.frontsSound (hf : s.Fresh) : s.FrontsSound := by
  obtain ⟨nv, failed, straps, cabinet, hold, n, q, rfl⟩ := hf
  refine ⟨List.length_replicate, nofun, fun k => ?_⟩
  rw [show (State.resetWith nv failed straps cabinet hold n q).fronts.get k = FrontEnd.reset from PerSix.get_const ..]
  exact FrontEnd.soundFor_reset _

theorem kept_frontsSound : Kept State.FrontsSound where
  quiet := Quiet.frontsSound
  store m hp := ⟨hp.1, Store.HoldsSound.moved hp.2.1 m, hp.2.2⟩
  line _ hp := hp
  modes p hm hp := modes_of_setModeTo Quiet.frontsSound (fun _ _ _ hp => hp) p hm hp
  adopt _ hp := hp
  scan flips _ hp := hp.handOver flips
  reset _ _ _ _ := (State.fresh_resetWith ..).frontsSound

/-- Settles O55: every move keeps the front ends sound, and a replay runs on while its cycle is active and dry. -/
theorem frontEndsStaySound : Obligations.FrontEndsStaySound :=
  kept_frontsSound.step (fun _ hp => hp) fun {s h tr buf c} hb hp => by
    refine hp.of_heads rfl rfl rfl fun k _ ha => ?_
    by_cases hk : k = h
    · subst hk
      have := (State.isActive_iff ..).mp ha.1
      simp [hb.idle] at this
    · exact ha.of_head_eq (PerSix.get_modify_other _ _ hk)

end Sys2Proof.Machine
end

section
/-! PROOFS. The division of a budget (O29): the walk of a leftover, a class served, and the three classes in their order. -/

namespace Sys2Proof.Machine

variable {ps : Participants} {c : ServeClass} {d : Division}

/-! ### Sums over the six heads -/

theorem sixInOrder_sum (f : HeadId → Nat) : (sixInOrder.map f).sum = ∑ h, f h := by
  simp [sixInOrder, Fin.sum_univ_six, Nat.add_assoc]

theorem sumSix_eq (f : HeadId → Nat) : sumSix f = ∑ h, f h := sixInOrder_sum f

theorem walkFrom_perm : ∀ p, (walkFrom p).Perm sixInOrder := by decide

theorem walkFrom_nodup (p : HeadId) : (walkFrom p).Nodup := (walkFrom_perm p).nodup_iff.mpr (by decide)

theorem mem_walkFrom (p h : HeadId) : h ∈ walkFrom p := by
  rw [(walkFrom_perm p).mem_iff]; revert h; decide

theorem walkFrom_eq (p : HeadId) : walkFrom p = [p, p + 1, p + 2, p + 3, p + 4, p + 5] := by
  simp [walkFrom, sixInOrder]

/-- The members of a list without repetition, counted head by head. -/
theorem sum_mem_eq_length {l : List HeadId} (hl : l.Nodup) : ∑ h, (if h ∈ l then 1 else 0) = l.length := by
  have e : ∀ h, (if h ∈ l then 1 else 0) = if h ∈ l.toFinset then 1 else 0 := fun h => by simp
  simp only [e, Finset.sum_ite_mem, Finset.univ_inter, Finset.sum_const, smul_eq_mul, mul_one]
  exact List.toFinset_card_of_nodup hl

/-! ### The walk of the leftover (R98) -/

/-- One unit to each of the first members, in the order of the walk, that wait for one; `w` tells who waits. -/
theorem handOut_eq {w : HeadId → Bool} (hs : List HeadId) (hnd : hs.Nodup) (n : Nat) (g : PerSix Nat) (p : HeadId)
    (hw : ∀ h ∈ hs, (memberOf ps c h && decide (g.get h < requestOf ps h)) = w h) :
    (∀ k, (handOut ps c hs n g p).1.get k = g.get k + if k ∈ (hs.filter w).take n then 1 else 0) ∧
      (handOut ps c hs n g p).2 = match ((hs.filter w).take n).getLast? with
        | some h => h + 1
        | none => p := by
  induction hs generalizing n g p with
  | nil => simp [handOut]
  | cons h hs ih =>
    obtain ⟨hnot, hnd⟩ := List.nodup_cons.mp hnd
    have hrest : ∀ k ∈ hs, (memberOf ps c k && decide (g.get k < requestOf ps k)) = w k :=
      fun k hk => hw k (List.mem_cons_of_mem _ hk)
    unfold handOut
    split
    · next hn => simp [hn]
    · next hn =>
      obtain ⟨m, rfl⟩ := Nat.exists_eq_succ_of_ne_zero hn
      rw [hw h List.mem_cons_self]
      split
      · next hwait =>
        have hne : ∀ k ∈ hs, k ≠ h := fun k hk e => hnot (e ▸ hk)
        obtain ⟨h1, h2⟩ := ih hnd m (g.set h (g.get h + 1)) (nextOfSix h) fun k hk => by
          rw [PerSix.get_set_other _ _ (hne k hk)]; exact hrest k hk
        simp only [Nat.succ_eq_add_one, Nat.add_sub_cancel, List.filter_cons, hwait, if_true, List.take_succ_cons]
        constructor
        · intro k
          rw [h1 k]
          by_cases hk : k = h
          · subst hk
            have : k ∉ (hs.filter w).take m := fun hmem => hnot (List.mem_filter.mp (List.mem_of_mem_take hmem)).1
            simp [this]
          · simp [PerSix.get_set_other _ _ hk, hk]
        · rw [h2, List.getLast?_cons]
          cases ((hs.filter w).take m).getLast? <;> rfl
      · next hwait =>
        simp only [List.filter_cons, hwait]
        exact ih hnd _ g p hrest

/-! ### A short class (R97, R98) -/

/-- A member's proportional share, rounded down (R97). -/
def Division.share (d : Division) (ps : Participants) (c : ServeClass) (h : HeadId) : Nat :=
  requestOf ps h * d.remainder / classSum ps c

/-- What the shares leave of the remainder (R98). -/
def Division.leftover (d : Division) (ps : Participants) (c : ServeClass) : Nat :=
  d.remainder - ∑ h, if memberOf ps c h then d.share ps c h else 0

/-- A member whose share is below its request (R98). -/
def Division.waits (d : Division) (ps : Participants) (c : ServeClass) (h : HeadId) : Bool :=
  memberOf ps c h && decide (d.share ps c h < requestOf ps h)

/-- The members that get a unit of the leftover, in the order of the walk (R98). -/
def Division.served (d : Division) (ps : Participants) (c : ServeClass) : List HeadId :=
  ((walkFrom d.pointer).filter (d.waits ps c)).take (d.leftover ps c)

theorem classSum_eq (ps : Participants) (c : ServeClass) : classSum ps c = ∑ h, if memberOf ps c h then requestOf ps h else 0 :=
  sumSix_eq _

/-- A sum over the members of a class. -/
theorem Division.served_nodup (d : Division) (ps : Participants) (c : ServeClass) : (d.served ps c).Nodup :=
  ((walkFrom_nodup d.pointer).sublist List.filter_sublist).sublist (List.take_sublist _ _)

theorem Division.mem_served {h : HeadId} (hm : h ∈ d.served ps c) : memberOf ps c h = true ∧ d.share ps c h < requestOf ps h := by
  have := (List.mem_filter.mp (List.mem_of_mem_take hm)).2
  simpa [Division.waits] using this

/-- In a short class the shares and the rests of their divisions come to the remainder times the class's sum. -/
theorem Division.leftover_mul_classSum (d : Division) (ps : Participants) (c : ServeClass) :
    d.leftover ps c * classSum ps c =
      ∑ h, if memberOf ps c h then requestOf ps h * d.remainder % classSum ps c else 0 := by
  have hsplit : d.remainder * classSum ps c =
      (∑ h, if memberOf ps c h then d.share ps c h else 0) * classSum ps c +
        ∑ h, if memberOf ps c h then requestOf ps h * d.remainder % classSum ps c else 0 := by
    conv_lhs => rw [classSum_eq, Finset.mul_sum]
    rw [Finset.sum_mul, ← Finset.sum_add_distrib]
    refine Finset.sum_congr rfl fun h _ => ?_
    split
    · rw [Division.share, mul_comm d.remainder, Nat.div_add_mod']
    · simp
  rw [Division.leftover, Nat.sub_mul, hsplit, Nat.add_sub_cancel_left]

/-- The leftover of a short class suffices for one unit each at most (R98). -/
theorem Division.leftover_le (hshort : d.remainder < classSum ps c) :
    d.leftover ps c ≤ ((walkFrom d.pointer).filter (d.waits ps c)).length := by
  have hpos : 0 < classSum ps c := by omega
  have hterm : ∀ h, (if memberOf ps c h then requestOf ps h * d.remainder % classSum ps c else 0) ≤
      (if h ∈ (walkFrom d.pointer).filter (d.waits ps c) then 1 else 0) * classSum ps c := by
    intro h
    split
    · next hm =>
      by_cases hw : d.waits ps c h = true
      · have hin : h ∈ (walkFrom d.pointer).filter (d.waits ps c) := List.mem_filter.mpr ⟨mem_walkFrom _ _, hw⟩
        rw [if_pos hin, one_mul]
        exact (Nat.mod_lt _ hpos).le
      · have hle : requestOf ps h ≤ requestOf ps h * d.remainder / classSum ps c := by
          exact not_lt.mp fun hlt => hw (by rw [Division.waits, hm, Bool.true_and]; exact decide_eq_true hlt)
        have hzero : requestOf ps h = 0 := by
          by_contra hne
          exact absurd (Nat.div_lt_of_lt_mul (by nlinarith [Nat.pos_of_ne_zero hne])) (not_lt.mpr hle)
        simp [hzero]
    · exact Nat.zero_le _
  have hmul : d.leftover ps c * classSum ps c ≤
      ((walkFrom d.pointer).filter (d.waits ps c)).length * classSum ps c := by
    rw [Division.leftover_mul_classSum]
    refine (Finset.sum_le_sum fun h _ => hterm h).trans (le_of_eq ?_)
    rw [← Finset.sum_mul, sum_mem_eq_length ((walkFrom_nodup _).sublist List.filter_sublist)]
  exact Nat.le_of_mul_le_mul_right hmul hpos

theorem Division.shares_le (hshort : d.remainder < classSum ps c) :
    (∑ h, if memberOf ps c h then d.share ps c h else 0) ≤ d.remainder := by
  refine Nat.le_of_mul_le_mul_right (c := classSum ps c) ?_ (by omega)
  conv_rhs => rw [classSum_eq, Finset.mul_sum]
  rw [Finset.sum_mul]
  refine Finset.sum_le_sum fun h _ => ?_
  split
  · rw [Division.share, mul_comm d.remainder]; exact Nat.div_mul_le_self _ _
  · simp

/-- A short class served: the shares, one unit more for the first that wait, nothing left (R97, R98). -/
theorem serveClass_short (hshort : d.remainder < classSum ps c) :
    (serveClass ps d c).remainder = 0 ∧
      (∀ h, memberOf ps c h = true →
        (serveClass ps d c).grants.get h = d.share ps c h + if h ∈ d.served ps c then 1 else 0) ∧
      (∀ h, memberOf ps c h = false → (serveClass ps d c).grants.get h = d.grants.get h) ∧
      (serveClass ps d c).pointer = match (d.served ps c).getLast? with
        | some h => h + 1
        | none => d.pointer := by
  have hleft : d.remainder - classGrants ps c (shareOf ps c d.remainder d.grants) = d.leftover ps c := by
    rw [Division.leftover, classGrants, sumSix_eq]
    congr 1
    refine Finset.sum_congr rfl fun h _ => ?_
    split
    · next hm => rw [shareOf, PerSix.get_ofFn, if_pos hm, Division.share]
    · rfl
  obtain ⟨hgrants, hpointer⟩ := handOut_eq (ps := ps) (c := c) (w := d.waits ps c) (walkFrom d.pointer) (walkFrom_nodup _)
    (d.leftover ps c) (shareOf ps c d.remainder d.grants) d.pointer fun h _ => by
      rw [shareOf, PerSix.get_ofFn, Division.waits]
      cases hm : memberOf ps c h
      · rfl
      · rw [if_pos rfl]; rfl
  have e : serveClass ps d c =
      { grants := (handOut ps c (walkFrom d.pointer) (d.leftover ps c) (shareOf ps c d.remainder d.grants) d.pointer).1
        remainder := 0
        pointer := (handOut ps c (walkFrom d.pointer) (d.leftover ps c) (shareOf ps c d.remainder d.grants) d.pointer).2 } := by
    simp only [serveClass, if_neg (not_le.mpr hshort), hleft]
  rw [e]
  refine ⟨rfl, fun h hm => ?_, fun h hm => ?_, hpointer⟩
  · rw [hgrants, shareOf, PerSix.get_ofFn, if_pos hm]; rfl
  · have hnot : h ∉ d.served ps c := fun hin => by simp [(Division.mem_served hin).1] at hm
    rw [hgrants, shareOf, PerSix.get_ofFn, hm, if_neg Bool.false_ne_true]
    exact congrArg (d.grants.get h + ·) (if_neg hnot)

/-- A class that fits is served whole (R96). -/
theorem serveClass_fits (hfits : classSum ps c ≤ d.remainder) :
    (serveClass ps d c).remainder = d.remainder - classSum ps c ∧ (serveClass ps d c).pointer = d.pointer ∧
      (∀ h, memberOf ps c h = true → (serveClass ps d c).grants.get h = requestOf ps h) ∧
      ∀ h, memberOf ps c h = false → (serveClass ps d c).grants.get h = d.grants.get h := by
  have e : serveClass ps d c = { d with
      grants := PerSix.ofFn fun h => if memberOf ps c h then requestOf ps h else d.grants.get h
      remainder := d.remainder - classSum ps c } := by simp only [serveClass, if_pos hfits]
  rw [e]
  exact ⟨rfl, rfl, fun h hm => by rw [PerSix.get_ofFn, if_pos hm], fun h hm => by rw [PerSix.get_ofFn, hm]; rfl⟩

/-! ### A class served, whole or short -/

/-- What the members of a class have. -/
def Division.total (d : Division) (ps : Participants) (c : ServeClass) : Nat :=
  ∑ h, if memberOf ps c h then d.grants.get h else 0

/-- A short class gets all that remains, each member its share or one more, and none more than it asks (R97, R98). -/
theorem serveClass_shared (hshort : d.remainder < classSum ps c) :
    (serveClass ps d c).total ps c = d.remainder ∧
      ∀ h, memberOf ps c h = true → d.share ps c h ≤ (serveClass ps d c).grants.get h ∧
        (serveClass ps d c).grants.get h ≤ d.share ps c h + 1 ∧ (serveClass ps d c).grants.get h ≤ requestOf ps h := by
  obtain ⟨-, hmember, -, -⟩ := serveClass_short hshort
  refine ⟨?_, fun h hm => ?_⟩
  · have hterm : ∀ h, (if memberOf ps c h then (serveClass ps d c).grants.get h else 0) =
        (if memberOf ps c h then d.share ps c h else 0) + if h ∈ d.served ps c then 1 else 0 := by
      intro h
      split
      · next hm => exact hmember h hm
      · next hm => rw [if_neg fun hin => hm (Division.mem_served hin).1]
    have hlen : (d.served ps c).length = d.leftover ps c := by
      rw [Division.served, List.length_take, min_eq_left (Division.leftover_le hshort)]
    have hshares := Division.shares_le hshort
    rw [Division.total, Finset.sum_congr rfl fun h _ => hterm h, Finset.sum_add_distrib,
      sum_mem_eq_length (d.served_nodup ps c), hlen, Division.leftover]
    omega
  · rw [hmember h hm]
    have hshare : d.share ps c h ≤ requestOf ps h :=
      Nat.div_le_of_le_mul (by rw [mul_comm]; exact Nat.mul_le_mul_right _ hshort.le)
    split
    · next hin =>
      have := (Division.mem_served hin).2
      omega
    · omega

/-- However a class is served: its members get what there is, up to all they ask, and none more than it asks. -/
theorem serveClass_served (ps : Participants) (d : Division) (c : ServeClass) :
    (serveClass ps d c).total ps c = min d.remainder (classSum ps c) ∧
      (serveClass ps d c).remainder = d.remainder - classSum ps c ∧
      (∀ h, memberOf ps c h = true → (serveClass ps d c).grants.get h ≤ requestOf ps h) ∧
      ∀ h, memberOf ps c h = false → (serveClass ps d c).grants.get h = d.grants.get h := by
  by_cases hfits : classSum ps c ≤ d.remainder
  · obtain ⟨hrem, -, hmember, hother⟩ := serveClass_fits hfits
    refine ⟨?_, hrem, fun h hm => (hmember h hm).le, hother⟩
    rw [min_eq_right hfits, classSum_eq, Division.total]
    exact Finset.sum_congr rfl fun h _ => by split; exacts [hmember h ‹_›, rfl]
  · have hshort : d.remainder < classSum ps c := not_le.mp hfits
    obtain ⟨hrem, -, hother, -⟩ := serveClass_short hshort
    obtain ⟨htotal, hmember⟩ := serveClass_shared hshort
    exact ⟨by rw [htotal, min_eq_left hshort.le], by omega, fun h hm => (hmember h hm).2.2, hother⟩

/-- A class served after the short one gets nothing. -/
theorem serveClass_nothing (hrem : d.remainder = 0) {h : HeadId} (hm : memberOf ps c h = true) :
    (serveClass ps d c).grants.get h = 0 := by
  have htotal : (serveClass ps d c).total ps c = 0 := by rw [(serveClass_served ps d c).1, hrem, Nat.zero_min]
  have := (Finset.sum_eq_zero_iff.mp htotal) h (Finset.mem_univ h)
  simpa [hm] using this

/-! ### The three classes in their order (R96) -/

/-- Where the division starts. -/
def Division.start (budget : Nat) (pointer : HeadId) : Division :=
  { grants := PerSix.const 0, remainder := budget, pointer := pointer }

theorem divideBudget_eq (budget : Nat) (pointer : HeadId) (ps : Participants) :
    divideBudget budget pointer ps =
      serveClass ps (serveClass ps (serveClass ps (.start budget pointer) .class2) .class1) .class0 := rfl

/-- A head takes part in one class at most. -/
theorem memberOf_other {c' : ServeClass} {h : HeadId} (hm : memberOf ps c h = true) (hne : c' ≠ c) :
    memberOf ps c' h = false := by
  unfold memberOf at *
  split at hm
  · simp only [beq_iff_eq] at hm
    simpa [hm] using hne.symm
  · cases hm

section division
variable (budget : Nat) (pointer : HeadId) (ps : Participants)

/-- A member has what its class gave it. -/
theorem divideBudget_member {h : HeadId} :
    (memberOf ps .class2 h = true → (divideBudget budget pointer ps).grants.get h =
      (serveClass ps (.start budget pointer) .class2).grants.get h) ∧
    (memberOf ps .class1 h = true → (divideBudget budget pointer ps).grants.get h =
      (serveClass ps (serveClass ps (.start budget pointer) .class2) .class1).grants.get h) := by
  rw [divideBudget_eq]
  refine ⟨fun hm => ?_, fun hm => ?_⟩
  · rw [(serveClass_served ..).2.2.2 h (memberOf_other hm (by decide)),
      (serveClass_served ..).2.2.2 h (memberOf_other hm (by decide))]
  · rw [(serveClass_served ..).2.2.2 h (memberOf_other hm (by decide))]

theorem divideBudget_none {h : HeadId} (hp : ps.get h = none) : (divideBudget budget pointer ps).grants.get h = 0 := by
  have hno : ∀ c, memberOf ps c h = false := fun c => by simp [memberOf, hp]
  rw [divideBudget_eq]
  rw [(serveClass_served ..).2.2.2 h (hno _), (serveClass_served ..).2.2.2 h (hno _),
    (serveClass_served ..).2.2.2 h (hno _)]
  exact PerSix.get_const ..

/-- Every value of the participants is the sum of its parts by class. -/
theorem sum_by_class {f : HeadId → Nat} (hf : ∀ h, ps.get h = none → f h = 0) :
    ∑ h, f h = (∑ h, if memberOf ps .class2 h then f h else 0) + (∑ h, if memberOf ps .class1 h then f h else 0) +
      ∑ h, if memberOf ps .class0 h then f h else 0 := by
  rw [← Finset.sum_add_distrib, ← Finset.sum_add_distrib]
  refine Finset.sum_congr rfl fun h _ => ?_
  cases hp : ps.get h with
  | none => simp [hf h hp]
  | some p => cases hc : p.cls <;> simp [memberOf, hp, hc]

theorem requestOf_none {h : HeadId} (hp : ps.get h = none) : requestOf ps h = 0 := by simp [requestOf, hp]

/-- The grants of a class at the end of the division are those its service gave. -/
theorem divideBudget_totals :
    (divideBudget budget pointer ps).total ps .class2 = min budget (classSum ps .class2) ∧
    (divideBudget budget pointer ps).total ps .class1 =
      min (budget - classSum ps .class2) (classSum ps .class1) ∧
    (divideBudget budget pointer ps).total ps .class0 =
      min (budget - classSum ps .class2 - classSum ps .class1) (classSum ps .class0) := by
  obtain ⟨t2, r2, -⟩ := serveClass_served ps (.start budget pointer) .class2
  obtain ⟨t1, r1, -⟩ := serveClass_served ps (serveClass ps (.start budget pointer) .class2) .class1
  obtain ⟨t0, -⟩ := serveClass_served ps (serveClass ps (serveClass ps (.start budget pointer) .class2) .class1) .class0
  refine ⟨?_, ?_, ?_⟩
  · refine Eq.trans (Finset.sum_congr rfl fun h _ => ?_) t2
    split
    · next hm => exact (divideBudget_member budget pointer ps).1 hm
    · rfl
  · rw [r2] at t1
    refine Eq.trans (Finset.sum_congr rfl fun h _ => ?_) t1
    split
    · next hm => exact (divideBudget_member budget pointer ps).2 hm
    · rfl
  · rw [r1, r2] at t0
    rw [divideBudget_eq]
    exact t0

/-- The grants come to the budget or to all that is asked (R97). -/
theorem divideBudget_sum :
    ∑ h, (divideBudget budget pointer ps).grants.get h = min budget (∑ h, requestOf ps h) := by
  obtain ⟨t2, t1, t0⟩ := divideBudget_totals budget pointer ps
  rw [sum_by_class ps fun h hp => divideBudget_none budget pointer ps hp, sum_by_class ps fun h hp => requestOf_none ps hp,
    ← classSum_eq, ← classSum_eq, ← classSum_eq]
  unfold Division.total at t2 t1 t0
  rw [t2, t1, t0]
  omega

/-- No head gets more than it asks (R97). -/
theorem divideBudget_le (h : HeadId) : (divideBudget budget pointer ps).grants.get h ≤ requestOf ps h := by
  cases hp : ps.get h with
  | none => rw [divideBudget_none budget pointer ps hp]; exact Nat.zero_le _
  | some p =>
    cases hc : p.cls with
    | class2 =>
      have hm : memberOf ps .class2 h = true := by simp [memberOf, hp, hc]
      rw [(divideBudget_member budget pointer ps).1 hm]
      exact (serveClass_served ..).2.2.1 h hm
    | class1 =>
      have hm : memberOf ps .class1 h = true := by simp [memberOf, hp, hc]
      rw [(divideBudget_member budget pointer ps).2 hm]
      exact (serveClass_served ..).2.2.1 h hm
    | class0 =>
      have hm : memberOf ps .class0 h = true := by simp [memberOf, hp, hc]
      rw [divideBudget_eq]
      exact (serveClass_served ..).2.2.1 h hm

end division

/-- The classes in their order (R96, R97): each whole while it fits, the first that does not shared, the rest with nothing. -/
theorem divideBudget_order (budget : Nat) (pointer : HeadId) (ps : Participants) :
    let v := divideBudget budget pointer ps
    let whole : ServeClass → Prop := fun c => ∀ h, memberOf ps c h = true → v.grants.get h = requestOf ps h
    let nothing : ServeClass → Prop := fun c => ∀ h, memberOf ps c h = true → v.grants.get h = 0
    let shared : ServeClass → Nat → Prop := fun c left => v.total ps c = left ∧
      ∀ h, memberOf ps c h = true → requestOf ps h * left / classSum ps c ≤ v.grants.get h ∧
        v.grants.get h ≤ requestOf ps h * left / classSum ps c + 1
    (classSum ps .class2 + classSum ps .class1 + classSum ps .class0 ≤ budget →
        whole .class2 ∧ whole .class1 ∧ whole .class0 ∧ v.pointer = pointer) ∧
      (budget < classSum ps .class2 → shared .class2 budget ∧ nothing .class1 ∧ nothing .class0) ∧
      (classSum ps .class2 ≤ budget → budget < classSum ps .class2 + classSum ps .class1 →
        whole .class2 ∧ shared .class1 (budget - classSum ps .class2) ∧ nothing .class0) ∧
      (classSum ps .class2 + classSum ps .class1 ≤ budget → budget < classSum ps .class2 + classSum ps .class1 + classSum ps .class0 →
        whole .class2 ∧ whole .class1 ∧ shared .class0 (budget - classSum ps .class2 - classSum ps .class1)) := by
  intro v whole nothing shared
  obtain ⟨t2, t1, t0⟩ := divideBudget_totals budget pointer ps
  obtain ⟨v2, v1⟩ : (∀ h, memberOf ps .class2 h = true → v.grants.get h = _) ∧
      (∀ h, memberOf ps .class1 h = true → v.grants.get h = _) :=
    ⟨fun _ => (divideBudget_member budget pointer ps).1, fun _ => (divideBudget_member budget pointer ps).2⟩
  have r2 : (serveClass ps (.start budget pointer) .class2).remainder = budget - classSum ps .class2 :=
    (serveClass_served ..).2.1
  have r1 : (serveClass ps (serveClass ps (.start budget pointer) .class2) .class1).remainder =
      budget - classSum ps .class2 - classSum ps .class1 := by rw [(serveClass_served ..).2.1, r2]
  have whole2 : classSum ps .class2 ≤ budget → whole .class2 := fun hle h hm =>
    (v2 h hm).trans ((serveClass_fits (ps := ps) (d := .start budget pointer) hle).2.2.1 h hm)
  have whole1 : classSum ps .class1 ≤ budget - classSum ps .class2 → whole .class1 := fun hle h hm =>
    (v1 h hm).trans ((serveClass_fits (r2 ▸ hle)).2.2.1 h hm)
  have nothing0 : budget - classSum ps .class2 - classSum ps .class1 = 0 → nothing .class0 := fun hz h hm =>
    serveClass_nothing (r1.trans hz) hm
  refine ⟨fun hle => ?_, fun hlt => ⟨⟨?_, fun h hm => ?_⟩, fun h hm => ?_, ?_⟩, fun hle hlt => ⟨whole2 hle, ⟨?_, fun h hm => ?_⟩, ?_⟩,
    fun hle hlt => ⟨whole2 (by omega), whole1 (by omega), ?_, fun h hm => ?_⟩⟩
  · have h2 : classSum ps .class2 ≤ (Division.start budget pointer).remainder := by
      change classSum ps .class2 ≤ budget; omega
    have h1 : classSum ps .class1 ≤ (serveClass ps (.start budget pointer) .class2).remainder := by omega
    have h0 : classSum ps .class0 ≤ (serveClass ps (serveClass ps (.start budget pointer) .class2) .class1).remainder := by omega
    refine ⟨whole2 (by omega), whole1 (by omega), (serveClass_fits h0).2.2.1, ?_⟩
    exact ((serveClass_fits h0).2.1.trans (serveClass_fits h1).2.1).trans (serveClass_fits h2).2.1
  · rw [t2, min_eq_left hlt.le]
  · rw [v2 h hm]
    obtain ⟨h1, h2, -⟩ := (serveClass_shared (ps := ps) (d := .start budget pointer) hlt).2 h hm
    exact ⟨h1, h2⟩
  · rw [v1 h hm]
    exact serveClass_nothing (by omega) hm
  · exact nothing0 (by omega)
  · rw [t1, min_eq_left (by omega)]
  · rw [v1 h hm, ← r2]
    obtain ⟨h1, h2, -⟩ := (serveClass_shared (ps := ps) (c := .class1)
      (d := serveClass ps (.start budget pointer) .class2) (by rw [r2]; omega)).2 h hm
    exact ⟨h1, h2⟩
  · exact nothing0 (by omega)
  · rw [t0, min_eq_left (by omega)]
  · rw [← r1]
    obtain ⟨h1, h2, -⟩ := (serveClass_shared (ps := ps) (c := .class0)
      (d := serveClass ps (serveClass ps (.start budget pointer) .class2) .class1) (by rw [r1]; omega)).2 h hm
    exact ⟨h1, h2⟩

/-- Settles O29. -/
theorem divisionServesTheClassesInOrder : Obligations.DivisionServesTheClassesInOrder := by
  refine ⟨fun budget pointer ps => ⟨?_, divideBudget_le budget pointer ps, fun h => divideBudget_none budget pointer ps⟩,
    fun budget pointer ps => ?_, fun ps d c hshort => ?_⟩
  · rw [sixInOrder_sum, sixInOrder_sum]
    exact divideBudget_sum budget pointer ps
  · simp only [sixInOrder_sum, ← classSum_eq]
    exact divideBudget_order budget pointer ps
  · obtain ⟨hrem, hmember, hother, hpointer⟩ := serveClass_short hshort
    simp only [sixInOrder_sum, ← walkFrom_eq]
    exact ⟨Division.leftover_le hshort, hrem, hmember, hother, hpointer⟩

end Sys2Proof.Machine
end

section
/-! PROOFS. The dispatcher's bounds (O56). -/

namespace Sys2Proof.Machine

variable {s t : State} {h k : HeadId}

/-- The budgets and the last total of a dispatcher, and the counters under a relief threshold (R91, R97, R99). -/
def Dispatcher.Bounded (d : Dispatcher) (threshold : Nat) : Prop :=
  d.budgetSetting ≤ 2400 ∧ d.budget ≤ 2400 ∧ d.lastTotal ≤ d.budget ∧ ∀ h, d.shortfall.get h ≤ threshold

/-- A settings write in the supervisor slot holds a default budget within 2400 (R6). -/
def Store.HoldsBudget (st : Store) : Prop :=
  ∀ body started, st.supervisor = some { op := .settingsWrite body, started := started } → u16At body 54 ≤ 2400

/-- Before the scan completes no head takes part (R105). -/
def Dispatcher.Unused (d : Dispatcher) : Prop := ∀ h, d.shortfall.get h = 0 ∧ d.request.get h = none

theorem State.dispatchSound_iff (s : State) :
    s.DispatchSound ↔ s.disp.Bounded s.store.settings.reliefThreshold ∧ s.store.settings.defaultBudget ≤ 2400 ∧
      (s.store.port = .scan → s.disp.Unused) ∧ s.store.HoldsBudget := by
  constructor
  · exact fun ⟨h1, h2, h3, h4, h5, h6, h7⟩ => ⟨⟨h1, h2, h3, h4⟩, h5, h6, h7⟩
  · exact fun ⟨⟨h1, h2, h3, h4⟩, h5, h6, h7⟩ => ⟨h1, h2, h3, h4, h5, h6, h7⟩

/-- The counter of a participant stays within the threshold (R99). -/
theorem nextShortfall_le (p : Participant) (grant counter threshold : Nat) :
    nextShortfall p grant counter threshold ≤ threshold := by
  unfold nextShortfall
  split
  · exact Nat.zero_le _
  · split
    · exact Nat.zero_le _
    · split
      · exact Nat.min_le_right _ _
      · exact Nat.zero_le _

theorem budgetFor_le (setting : Nat) (cabinet : CabinetState) : budgetFor setting cabinet ≤ setting := by
  cases cabinet
  case ready => exact le_refl _
  case notReady => exact Nat.zero_le _

/-- An expiry keeps the bounds: its grants come to the budget at most (R97). -/
theorem State.expiryDisp_bounded (hp : s.disp.Bounded s.store.settings.reliefThreshold) :
    s.expiryDisp.Bounded s.store.settings.reliefThreshold := by
  obtain ⟨h1, -, -, h4⟩ := hp
  refine ⟨h1, (budgetFor_le _ _).trans h1, ?_, fun k => ?_⟩
  · have e : s.expiryDisp.lastTotal = sumSix s.division.grants.get := rfl
    rw [e, sumSix_eq, State.division, divideBudget_sum]
    exact Nat.min_le_left _ _
  · have e : s.expiryDisp.shortfall.get k = match s.participants.get k with
        | some p => nextShortfall p (s.division.grants.get k) (s.disp.shortfall.get k) s.store.settings.reliefThreshold
        | none => s.disp.shortfall.get k := PerSix.get_ofFn _ k
    rw [e]
    split
    · exact nextShortfall_le _ _ _ _
    · exact h4 k

theorem Store.HoldsBudget.moved {st : Store} (hs : s.store.HoldsBudget) (m : StoreMove s st) : st.HoldsBudget := by
  intro body started hop
  rcases m.supervisor hop with ⟨b, e⟩ | ⟨hadm, -⟩
  · exact hs body b e
  · exact hadm

/-- A change that keeps the store's settings, port and slot, and of the dispatcher the bounds and who takes no part. -/
theorem State.DispatchSound.of_disp (hp : s.DispatchSound) (settings : t.store.settings = s.store.settings)
    (port : t.store.port = s.store.port) (supervisor : t.store.supervisor = s.store.supervisor)
    (bounded : s.disp.Bounded s.store.settings.reliefThreshold → t.disp.Bounded s.store.settings.reliefThreshold)
    (unused : s.store.port = .scan → s.disp.Unused → t.disp.Unused) : t.DispatchSound := by
  obtain ⟨h1, h2, h3, h4⟩ := (State.dispatchSound_iff s).mp hp
  rw [State.dispatchSound_iff, settings, port, Store.HoldsBudget, supervisor]
  exact ⟨bounded h1, h2, fun hscan => unused hscan (h3 hscan), h4⟩

/-- Before the scan completes no head is heating (R92, R105). -/
theorem Dispatcher.Unused.not_heating (hu : s.disp.Unused) (hs : s.HeadsSound) : (s.heads.get h).state ≠ .heating := by
  intro hst
  have := (hs h).2.1.mpr hst
  rw [(hu h).2] at this
  cases this

theorem State.leaveCycle_unused (hu : s.disp.Unused) (hs : s.HeadsSound) : (s.leaveCycle h).disp = s.disp := by
  rw [State.leaveCycle_disp, if_neg (hu.not_heating hs)]

theorem State.leaveCycle_bounded {threshold : Nat} (hp : s.disp.Bounded threshold) :
    (s.leaveCycle h).disp.Bounded threshold := by
  rw [State.leaveCycle_disp]
  split <;> exact hp

theorem Quiet.dispatchSound (q : Quiet s t) (hs : s.HeadsSound) (hp : s.DispatchSound) : t.DispatchSound := by
  cases q with
  | tick => exact hp.of_disp rfl rfl rfl id fun _ => id
  | budget n bound => exact hp.of_disp rfl rfl rfl (fun ⟨_, h2, h3, h4⟩ => ⟨bound, h2, h3, h4⟩) fun _ => id
  | store st m =>
    obtain ⟨h1, h2, h3, h4⟩ := (State.dispatchSound_iff s).mp hp
    obtain ⟨e1, -, e3⟩ := m.frame
    rw [State.dispatchSound_iff]
    exact ⟨by rw [e1]; exact h1, by rw [e1]; exact h2, fun hscan => h3 (e3 hscan), h4.moved m⟩
  | applyFields k =>
    exact hp.of_disp (by simp) (by simp) (by simp) (by simp) (by simp)
  | heat k r c looks ctx port fits =>
    exact hp.of_disp rfl rfl rfl id fun hscan => absurd hscan port
  | noShortfall k =>
    refine hp.of_disp rfl rfl rfl (fun ⟨h1, h2, h3, h4⟩ => ⟨h1, h2, h3, fun j => ?_⟩) fun _ hu j => ?_ <;>
      by_cases hj : j = k
    · subst hj; simp
    · simpa [PerSix.get_set_other _ _ hj] using h4 j
    · subst hj; simpa using (hu j).2
    · simpa [PerSix.get_set_other _ _ hj] using hu j
  | run k c r g v sp heats runs =>
    rw [State.runLoop_of_ctx (State.running_ctx runs)]
    exact hp.of_disp rfl rfl rfl id fun _ hu => absurd heats (hu.not_heating hs)
  | advance k c c' r g g2 v sp heats =>
    rw [State.advance_eq]
    exact hp.of_disp rfl rfl rfl id fun _ hu => absurd heats (hu.not_heating hs)
  | hold k c c' r g g2 heats => exact hp.of_disp rfl rfl rfl id fun _ hu => absurd heats (hu.not_heating hs)
  | close k reason c c' =>
    obtain ⟨q, hq⟩ := s.leaveCycle_store k
    refine hp.of_disp (by simp [hq]) (by simp [hq]) (by simp [hq]) ?_ fun _ hu => ?_
    · rw [State.closeCycle_disp]; exact State.leaveCycle_bounded
    · rw [State.closeCycle_disp, State.leaveCycle_unused hu hs]; exact hu
  | cutNone k heats none => exact absurd none (hs.ctx_ne_none (by simp [heats]))
  | expire =>
    refine hp.of_disp (by simp) (by simp) (by simp) ?_ fun _ hu => ?_ <;> rw [State.expire_disp]
    · exact State.expiryDisp_bounded
    · intro j
      refine ⟨?_, (hu j).2⟩
      have hpart : s.participants.get j = none := by rw [State.participants_get, (hu j).2]; rfl
      have e : s.expiryDisp.shortfall.get j = match s.participants.get j with
          | some p => nextShortfall p (s.division.grants.get j) (s.disp.shortfall.get j) s.store.settings.reliefThreshold
          | none => s.disp.shortfall.get j := PerSix.get_ofFn _ j
      rw [e, hpart]
      exact (hu j).1
  | _ => exact hp.of_disp rfl rfl rfl id fun _ => id

/-- The invariant of O56. -/
def State.DispatchingSound (s : State) : Prop := s.HeadsSound ∧ s.DispatchSound

theorem Quiet.dispatchingSound (q : Quiet s t) (hp : s.DispatchingSound) : t.DispatchingSound :=
  ⟨q.headsSound hp.1, q.dispatchSound hp.1 hp.2⟩

theorem factorySettings_budget : factorySettings.defaultBudget ≤ 2400 := by decide

/-- The settings a scan leaves have a default budget within 2400 (R6, R22). -/
theorem Store.scanSettings_budget (st : Store) : st.scanSettings.settings.defaultBudget ≤ 2400 := by
  simp only [Store.scanSettings]
  split
  · exact factorySettings_budget
  · split
    · exact factorySettings_budget
    · next body hread =>
      simp only [Store.readSettings] at hread
      split at hread
      · cases hread
      · obtain ⟨-, hok⟩ := Option.filter_eq_some_iff.mp hread
        simp only [storedSettingsOk, Bool.and_eq_true, Option.isNone_iff_eq_none] at hok
        exact settingsTests_budget hok.2

theorem State.DispatchSound.handOver (hp : s.DispatchSound) (hport : s.store.port = .scan) (flips : List SlotFlip) :
    (s.scan flips).handOver.DispatchSound := by
  obtain ⟨⟨-, h2, h3, -⟩, -, h6, h7⟩ := (State.dispatchSound_iff s).mp hp
  have settings : ∀ u : State, u.handOver.store.settings = u.store.settings := fun _ => rfl
  have supervisor : ∀ u : State, u.handOver.store.supervisor = u.store.supervisor := fun _ => rfl
  have port : ∀ u : State, u.handOver.store.port = .idle := fun _ => rfl
  have disp : ∀ u : State, u.handOver.disp = { u.disp with budgetSetting := u.store.settings.defaultBudget } := fun _ => rfl
  have hbudget : (s.scan flips).store.settings.defaultBudget ≤ 2400 := by
    rw [State.scan_store]; exact Store.scanSettings_budget _
  rw [State.dispatchSound_iff, settings, port, Store.HoldsBudget, supervisor, disp, State.scan_supervisor, State.scan_disp]
  generalize (s.scan flips).store.settings = settings at hbudget ⊢
  have hzero : ∀ k, s.disp.shortfall.get k ≤ settings.reliefThreshold := fun k => by
    rw [(h6 hport k).1]; exact Nat.zero_le _
  exact ⟨⟨hbudget, h2, h3, hzero⟩, hbudget, nofun, h7⟩

theorem State.Fresh.dispatchSound (hf : s.Fresh) : s.DispatchSound := by
  obtain ⟨nv, failed, straps, cabinet, hold, n, q, rfl⟩ := hf
  refine ⟨Nat.zero_le _, Nat.zero_le _, le_refl _, fun k => ?_, factorySettings_budget, fun _ k => ?_, nofun⟩ <;>
    simp [State.resetWith, Dispatcher.reset]

theorem kept_dispatchingSound : Kept State.DispatchingSound where
  quiet := Quiet.dispatchingSound
  store m hp := by
    obtain ⟨h1, h2, h3, h4⟩ := (State.dispatchSound_iff _).mp hp.2
    obtain ⟨e1, -, e3⟩ := m.frame
    refine ⟨hp.1, (State.dispatchSound_iff _).mpr ⟨?_, ?_, fun hscan => h3 (e3 hscan), h4.moved m⟩⟩ <;> rw [e1] <;> assumption
  line _ hp := hp
  modes p hm hp := modes_of_setModeTo Quiet.dispatchingSound (fun _ _ _ hp => hp) p hm hp
  adopt {s body started} hop hp := by
    obtain ⟨⟨h1, h2, h3, -⟩, -, h6, h7⟩ := (State.dispatchSound_iff _).mp hp.2
    refine ⟨hp.1, (State.dispatchSound_iff _).mpr ⟨⟨h1, h2, h3, fun k => ?_⟩, h7 body started hop, fun hscan k => ?_, h7⟩⟩
    · simp only [State.adopt, PerSix.get_map]
      exact Nat.min_le_right _ _
    · simp only [State.adopt, PerSix.get_map, (h6 hscan k).1]
      exact ⟨Nat.zero_min _, (h6 hscan k).2⟩
  scan flips hport hp := ⟨hp.1.handOver flips, hp.2.handOver hport flips⟩
  reset _ _ _ _ := ⟨(State.fresh_resetWith ..).headsSound, (State.fresh_resetWith ..).dispatchSound⟩

/-- Settles O56: every move keeps the dispatcher's bounds. -/
theorem dispatcherStaysWithinItsBounds : Obligations.DispatcherStaysWithinItsBounds :=
  kept_dispatchingSound.step (fun _ hp => hp) fun hb hp => ⟨hp.1.beginCycle hb, hp.2.of_disp rfl rfl rfl id fun _ => id⟩

end Sys2Proof.Machine
end

section
/-! PROOFS. What one move does to the heads: it closes one cycle, or each head goes on by a step of its own. -/

namespace Sys2Proof.Machine

variable {s t : State} {h k : HeadId} {c c' : Context} {hd hd' : Head}

/-- A head that goes on: as it was but for bookkeeping, into HEATING, a run of the loop, a segment on, or back to IDLE. -/
inductive HeadMove (hd hd' : Head) : Prop
  | none (ctx : hd.ctx = none) (ctx' : hd'.ctx = none) (state : hd'.state = hd.state)
  | kept (c c' : Context) (ctx : hd.ctx = some c) (ctx' : hd'.ctx = some c') (kept : c.Kept c') (state : hd'.state = hd.state)
  | heat (c : Context) (r : Recipe) (m : Nat) (ctx : hd.ctx = some c) (ctx' : hd'.ctx = some (c.startHeating r))
      (looks : hd.state = .lookup) (state : hd'.state = .heating) (fits : r.Fits m)
  | run (c : Context) (l : LoopState) (ctx : hd.ctx = some c) (ctx' : hd'.ctx = some { c with loop := l })
      (heats : hd.state = .heating) (state : hd'.state = .heating)
  | advance (c c' : Context) (r : Recipe) (g : Segment) (ctx : hd.ctx = some c) (ctx' : hd'.ctx = some c')
      (heats : hd.state = .heating) (state : hd'.state = .heating ∨ hd'.state = .hold) (recipe : c.recipe = some r)
      (next : r.segments[c.segIndex + 1]? = some g) (advanced : c.Advanced c')
  | forget (ended : hd.state = .done ∨ hd.state = .faulted) (ctx' : hd'.ctx = .none) (state : hd'.state = .idle)

theorem HeadMove.refl (hd : Head) : HeadMove hd hd := by
  cases hc : hd.ctx with
  | none => exact .none hc hc rfl
  | some c => exact .kept c c hc hc ⟨rfl, rfl, rfl, rfl, rfl, rfl, rfl, rfl, id⟩ rfl

theorem HeadMove.of_eq (e : hd' = hd) : HeadMove hd hd' := e ▸ .refl hd

theorem HeadMove.of_map {f : Context → Context} (ctx : hd'.ctx = hd.ctx.map f) (state : hd'.state = hd.state)
    (kept : ∀ c, hd.ctx = some c → c.Kept (f c)) : HeadMove hd hd' := by
  cases hc : hd.ctx with
  | none => exact .none hc (by rw [ctx, hc]; rfl) state
  | some c => exact .kept c (f c) hc (by rw [ctx, hc]; rfl) (kept c hc) state

/-- What a move that is not the end of a cycle does to the heads and to the trace unit. -/
structure GoesOn (s t : State) : Prop where
  heads : ∀ k, HeadMove (s.heads.get k) (t.heads.get k)
  trace : t.trace = s.trace ∨ TraceMove s.trace t.trace

theorem GoesOn.of_heads (heads : t.heads = s.heads) (trace : t.trace = s.trace ∨ TraceMove s.trace t.trace) : GoesOn s t :=
  ⟨fun k => .of_eq (by rw [heads]), trace⟩

theorem GoesOn.of_head (others : ∀ k, k ≠ h → t.heads.get k = s.heads.get k)
    (same : HeadMove (s.heads.get h) (t.heads.get h)) (trace : t.trace = s.trace) : GoesOn s t := by
  refine ⟨fun k => ?_, .inl trace⟩
  by_cases hk : k = h
  · rw [hk]; exact same
  · exact .of_eq (others k hk)

/-- The close of an active cycle, as `Quiet.close` has it. -/
structure Closes (s t : State) (h : HeadId) (reason : Option Reason) (c c' : Context) : Prop where
  active : s.isActive h = true
  ctx : (s.heads.get h).ctx = some c
  ended : c.Over reason c'
  state : t = (s.leaveCycle h).closeCycle h reason c'

/-- A move closes a cycle, or every head goes on. -/
theorem Quiet.cases (q : Quiet s t) : (∃ h reason c c', Closes s t h reason c c') ∨ GoesOn s t := by
  cases q with
  | close h reason c c' active ctx ended => exact .inl ⟨h, reason, c, c', active, ctx, ended, rfl⟩
  | tick =>
    refine .inr ⟨fun k => .of_map (f := fun c => { c with cycleTimer := runDown c.cycleTimer }) (by simp [State.tick]) (by simp [State.tick]) fun c _ => ?_,
      .inl rfl⟩
    exact ⟨rfl, rfl, rfl, rfl, rfl, rfl, rfl, rfl, fun hn => by simp [runDown, hn]⟩
  | trace t m => exact .inr (.of_heads rfl (.inr m))
  | applyFields k => exact .inr (.of_heads (by simp) (.inl (by simp)))
  | context k f kept =>
    exact .inr (.of_head (h := k) (fun j hj => State.modCtx_heads_other s f hj)
      (.of_map (f := f) (by simp) (by simp) kept) rfl)
  | notice k =>
    exact .inr (.of_head (h := k) (fun j hj => State.modHead_heads_other s _ hj)
      (.of_map (f := id) (by simp) (by simp) fun c _ => ⟨rfl, rfl, rfl, rfl, rfl, rfl, rfl, rfl, id⟩) rfl)
  | heat k r c looks ctx port fits =>
    exact .inr (.of_head (h := k) (fun j hj => State.modHead_heads_other s _ hj)
      (.heat c r _ ctx (by simp [State.beginHeating, ctx]) looks (by simp [State.beginHeating]) fits) rfl)
  | run k c r g v sp heats runs =>
    rw [State.runLoop_of_ctx (State.running_ctx runs)]
    exact .inr (.of_head (h := k) (fun j hj => PerSix.get_set_other _ _ hj)
      (.run c _ (State.running_ctx runs) (by rw [PerSix.get_set_same]) heats (by simpa using heats)) rfl)
  | advance k c c' r g g2 v sp heats runs next advanced loop =>
    obtain ⟨hc, hrec, -⟩ := (State.running_iff ..).mp runs
    rw [State.advance_eq]
    refine .inr (.of_head (h := k) (fun j hj => PerSix.get_set_other _ _ hj)
      (.advance c _ r g2 hc (by rw [PerSix.get_set_same]) heats (.inl (by simpa using heats)) hrec next ?_) rfl)
    exact ⟨advanced.cycle, advanced.dry, advanced.recipe, advanced.segIndex, advanced.summaries, advanced.result⟩
  | hold k c c' r g g2 heats runs next advanced =>
    obtain ⟨hc, hrec, -⟩ := (State.running_iff ..).mp runs
    refine .inr (.of_head (h := k) (fun j hj => ?_)
      (.advance c c' r g2 hc (by simp) heats (.inr (by simp)) hrec next advanced) rfl)
    rw [State.modHead_heads_other _ _ hj, State.cut_heads_other _ _ hj]
  | cutNone k heats none =>
    exact .inr (.of_head (h := k) (fun j hj => State.cut_heads_other s k hj) (.none none (by simp [none]) (by simp)) rfl)
  | forget k ended =>
    exact .inr (.of_head (h := k) (fun j hj => State.modHead_heads_other s _ hj)
      (.forget ended (by simp [State.forgetCycle]) (by simp [State.forgetCycle])) rfl)
  | expire =>
    exact .inr ⟨fun k => .of_map (f := s.expiryContext k) (by simp) (by simp) fun c _ => Context.kept_expiry s k c,
      .inl (by simp)⟩
  | _ => exact .inr (.of_heads rfl (.inl rfl))

/-! ### Contexts stay sound -/

theorem HeadMove.soundIn (m : HeadMove hd hd') (hp : ∀ c, hd.ctx = some c → c.soundIn hd.state) :
    ∀ c, hd'.ctx = some c → c.soundIn hd'.state := by
  intro d hd
  cases m with
  | none _ ctx' => rw [ctx'] at hd; cases hd
  | forget _ ctx' => rw [ctx'] at hd; cases hd
  | kept c c' ctx ctx' kept state =>
    obtain rfl := Option.some.inj (ctx' ▸ hd)
    rw [state]
    exact Context.soundIn_congr (hp c ctx) kept.recipe kept.segIndex kept.summaries kept.result kept.reason kept.cycleTimer
  | heat c r m ctx ctx' looks state fits =>
    obtain rfl := Option.some.inj (ctx' ▸ hd)
    rw [state]
    exact (Context.startHeating_sound (looks ▸ hp c ctx) fits rfl).1
  | run c l ctx ctx' heats state =>
    obtain rfl := Option.some.inj (ctx' ▸ hd)
    rw [state]
    exact heats ▸ hp c ctx
  | advance c c' r g ctx ctx' heats state recipe next advanced =>
    obtain rfl := Option.some.inj (ctx' ▸ hd)
    obtain ⟨h1, h2⟩ := advanced.soundIn (heats ▸ hp c ctx) recipe next
    rcases state with e | e <;> rw [e] <;> assumption

theorem Closes.heads {reason : Option Reason} (hc : Closes s t h reason c c') :
    t.heads.get h = { state := endState (cycleResult reason c'.flags), ctx := some c', notice := true } ∧
      ∀ k, k ≠ h → t.heads.get k = s.heads.get k := by
  rw [hc.state, State.closeCycle_heads]
  refine ⟨PerSix.get_set_same .., fun k hk => ?_⟩
  rw [PerSix.get_set_other _ _ hk, State.leaveCycle_heads_other s h hk]

theorem Quiet.cyclesSound (q : Quiet s t) (hp : s.CyclesSound) : t.CyclesSound := by
  rcases q.cases with ⟨h, reason, c, c', hc⟩ | hg
  · obtain ⟨hsame, hothers⟩ := hc.heads
    intro k d hd
    by_cases hk : k = h
    · subst hk
      rw [hsame] at hd ⊢
      obtain rfl := Option.some.inj hd
      exact hc.ended.soundIn (hp k c hc.ctx) ((State.isActive_iff ..).mp hc.active)
    · rw [hothers k hk] at hd ⊢
      exact hp k d hd
  · exact fun k => (hg.heads k).soundIn (hp k)

theorem State.Fresh.cyclesSound (hf : s.Fresh) : s.CyclesSound := by
  intro k c hc
  rw [hf.head] at hc
  cases hc

theorem State.CyclesSound.handOver (hp : s.CyclesSound) (flips : List SlotFlip) : (s.scan flips).handOver.CyclesSound := by
  have heads : ∀ u : State, u.handOver.heads = u.heads := fun _ => rfl
  intro k
  rw [heads, State.scan_heads]
  exact hp k

theorem State.CyclesSound.beginCycle {tr : TraceUnit} {buf : BufferId} (hb : s.Begins h tr buf c) (hp : s.CyclesSound) :
    (s.beginCycle h tr buf c).CyclesSound := by
  intro k d hd
  by_cases hk : k = h
  · subst hk
    simp only [State.beginCycle, PerSix.get_modify_same, Option.some.injEq] at hd ⊢
    subst hd
    exact ⟨by simp [hb.summaries], hb.recipe, hb.summaries, hb.segIndex, hb.result⟩
  · simp only [State.beginCycle, PerSix.get_modify_other _ _ hk] at hd ⊢
    exact hp k d hd

/-! ### Activity, dryness and numbers go on -/

/-- A head that goes on is active as before, on a cycle of the same number and as dry as it was. -/
theorem GoesOn.active (hg : GoesOn s t) (k : HeadId) : t.isActive k = s.isActive k := by
  have key : t.isActive k = true ↔ s.isActive k = true := by
    rw [State.isActive_iff, State.isActive_iff]
    cases hg.heads k with
    | none _ _ state => rw [state]
    | kept _ _ _ _ _ state => rw [state]
    | heat _ _ _ _ _ looks state => simp [looks, state]
    | run _ _ _ _ heats state => simp [heats, state]
    | advance _ _ _ _ _ _ heats state => rcases state with e | e <;> simp [heats, e]
    | forget ended _ state => rcases ended with e | e <;> simp [e, state]
  exact Bool.eq_iff_iff.mpr key

theorem GoesOn.ctx (hg : GoesOn s t) (ha : s.isActive k = true) (hc : (s.heads.get k).ctx = some c) :
    ∃ c', (t.heads.get k).ctx = some c' ∧ c'.cycle = c.cycle ∧ c'.dry = c.dry := by
  cases hg.heads k with
  | none ctx => rw [ctx] at hc; cases hc
  | kept d d' ctx ctx' kept =>
    obtain rfl := Option.some.inj (ctx ▸ hc)
    exact ⟨d', ctx', kept.cycle, kept.dry⟩
  | heat d r m ctx ctx' =>
    obtain rfl := Option.some.inj (ctx ▸ hc)
    exact ⟨_, ctx', rfl, rfl⟩
  | run d l ctx ctx' =>
    obtain rfl := Option.some.inj (ctx ▸ hc)
    exact ⟨_, ctx', rfl, rfl⟩
  | advance d d' r g ctx ctx' heats state recipe next advanced =>
    obtain rfl := Option.some.inj (ctx ▸ hc)
    exact ⟨d', ctx', advanced.cycle, advanced.dry⟩
  | forget ended =>
    have := (State.isActive_iff ..).mp ha
    rcases ended with e | e <;> simp [e] at this

/-- The head of a closed cycle is no longer active; the others are as they were. -/
theorem Closes.isActive {reason : Option Reason} (hc : Closes s t h reason c c') (k : HeadId) :
    t.isActive k = (s.isActive k && decide (k ≠ h)) := by
  obtain ⟨hsame, hothers⟩ := hc.heads
  by_cases hk : k = h
  · subst hk
    have hne : ¬t.isActive k = true := by
      rw [State.isActive_iff, hsame]
      rcases endState_cases (cycleResult reason c'.flags) with e | e <;> simp [e]
    simp [Bool.eq_false_iff.mpr hne]
  · have : t.isActive k = s.isActive k := by
      rw [Bool.eq_iff_iff, State.isActive_iff, State.isActive_iff, hothers k hk]
    simp [this, hk]

end Sys2Proof.Machine
end

section
/-! PROOFS. The trace buffers (O59): each operation of the trace unit keeps both buffers sound. -/

namespace Sys2Proof.Machine

variable {s t : State} {h k : HeadId} {u : TraceUnit} {i j : BufferId} {x : TraceBuffer}

/-! ### Holders of a buffer -/

/-- Whether a reservation is in a buffer, as a number. -/
def heldIn (o : Option Reservation) (i : BufferId) : Nat := if o.any (fun r => r.buffer == i) then 1 else 0

theorem heldIn_some (r : Reservation) : heldIn (some r) i = if r.buffer = i then 1 else 0 := by
  simp [heldIn]

theorem TraceUnit.holders_eq (u : TraceUnit) (i : BufferId) : u.holders i = ∑ h, heldIn (u.reservation.get h) i := by
  simp only [TraceUnit.holders, sixInOrder, heldIn, Fin.sum_univ_six, List.filter_cons, List.filter_nil]
  split <;> split <;> split <;> split <;> split <;> split <;> rfl

/-- A head's reservation changes: its buffer loses a holder, the new one gains one. -/
theorem TraceUnit.holders_set {u' : TraceUnit} {v : Option Reservation} (hu : u'.reservation = u.reservation.set h v)
    (i : BufferId) : u'.holders i + heldIn (u.reservation.get h) i = u.holders i + heldIn v i := by
  rw [TraceUnit.holders_eq, TraceUnit.holders_eq, hu, Fintype.sum_eq_add_sum_compl h,
    Fintype.sum_eq_add_sum_compl h (fun k => heldIn (u.reservation.get k) i), PerSix.get_set_same]
  have e : ∀ k ∈ ({h}ᶜ : Finset HeadId), heldIn ((u.reservation.set h v).get k) i = heldIn (u.reservation.get k) i := by
    intro k hk
    rw [PerSix.get_set_other _ _ (by simpa using hk)]
  rw [Finset.sum_congr rfl e]
  omega

/-! ### Operations on a buffer -/

theorem BufferId.other_ne (i : BufferId) : i.other ≠ i := by cases i <;> decide
theorem BufferId.eq_or_other (i j : BufferId) : j = i ∨ j = i.other := by cases i <;> cases j <;> decide
@[simp] theorem BufferId.other_other (i : BufferId) : i.other.other = i := by cases i <;> rfl

section set
variable (u : TraceUnit) (i : BufferId) (x : TraceBuffer)
@[simp] theorem TraceUnit.get_set_same : (u.set i x).get i = x := by cases i <;> rfl
@[simp] theorem TraceUnit.get_set_of_other : (u.set i.other x).get i = u.get i := by cases i <;> rfl
@[simp] theorem TraceUnit.set_reservation : (u.set i x).reservation = u.reservation := by cases i <;> rfl
end set

/-- What `TraceUnit.BufferSound` asks of a buffer, with the number of its holders and the state of the other. -/
def TraceBuffer.SoundWith (x : TraceBuffer) (holders : Nat) (other : BufferState) : Prop :=
  x.used + x.reserved ≤ 4096 ∧ x.used = (x.records.map List.length).sum ∧ x.count = x.records.length ∧
    x.reserved = 48 * holders ∧ (∀ w ∈ x.records, 16 ≤ w.length ∧ w.length ≤ 48) ∧
    (x.state = .empty → x.count = 0 ∧ x.reserved = 0 ∧ other = .filling) ∧
    (x.state = .full → 1 ≤ x.count ∧ x.reserved = 0) ∧ (x.state = .closing → 0 < x.reserved) ∧
    (x.state = .filling → other ≠ .filling)

theorem TraceUnit.bufferSound_iff (u : TraceUnit) (i : BufferId) :
    u.BufferSound i ↔ (u.get i).SoundWith (u.holders i) (u.get i.other).state := Iff.rfl

/-- Both buffers sound. -/
def TraceUnit.Sound (u : TraceUnit) : Prop := ∀ i, u.BufferSound i

theorem TraceUnit.sound_of (i : BufferId) (h1 : (u.get i).SoundWith (u.holders i) (u.get i.other).state)
    (h2 : (u.get i.other).SoundWith (u.holders i.other) (u.get i).state) : u.Sound := by
  intro j
  rcases i.eq_or_other j with rfl | rfl
  · exact h1
  · rw [TraceUnit.bufferSound_iff, BufferId.other_other]; exact h2

theorem TraceUnit.Sound.both (hu : u.Sound) (i : BufferId) :
    (u.get i).SoundWith (u.holders i) (u.get i.other).state ∧
      (u.get i.other).SoundWith (u.holders i.other) (u.get i).state :=
  ⟨hu i, by have := hu i.other; rwa [TraceUnit.bufferSound_iff, BufferId.other_other] at this⟩

theorem TraceUnit.holders_congr {u' : TraceUnit} (hu : u'.reservation = u.reservation) (i : BufferId) :
    u'.holders i = u.holders i := by unfold TraceUnit.holders; rw [hu]

theorem TraceUnit.filling_state (hf : u.filling = some i) : (u.get i).state = .filling := by
  unfold TraceUnit.filling at hf
  split at hf
  · cases hf; assumption
  · split at hf
    · cases hf; assumption
    · cases hf

/-- A buffer with nothing used and nothing reserved has all its space free. -/
theorem TraceBuffer.SoundWith.count_pos {n : Nat} {o : BufferState} (hx : x.SoundWith n o)
    (used : x.count ≠ 0 ∨ x.reserved ≠ 0 ∨ x.free < 48) (hr : x.reserved = 0) : 1 ≤ x.count := by
  obtain ⟨-, hused, hcount, -⟩ := hx
  by_contra hc
  have hnil : x.records = [] := List.eq_nil_of_length_eq_zero (by omega)
  have hfree : x.free = 4096 := by simp [TraceBuffer.free, hused, hnil, hr, Config.bufferWords]
  omega

/-- The FILLING buffer closed, and the other made FILLING when it was EMPTY (R144, R154). -/
theorem TraceUnit.Sound.closeFilling (hu : u.Sound) (filling : (u.get i).state = .filling)
    (used : (u.get i).count ≠ 0 ∨ (u.get i).reserved ≠ 0 ∨ (u.get i).free < 48) : (u.closeFilling i).Sound := by
  obtain ⟨hx, hy⟩ := hu.both i
  have hpos := hx.count_pos used
  obtain ⟨a1, a2, a3, a4, a5, -, -, -, a9⟩ := hx
  obtain ⟨b1, b2, b3, b4, b5, b6, b7, b8, -⟩ := hy
  have hstate : (u.get i).closed.state ≠ .filling ∧ (u.get i).closed.state ≠ .empty := by
    simp only [TraceBuffer.closed]; split <;> simp
  have hclosed : ∀ {n o}, u.holders i = n → (u.get i).closed.SoundWith n o := by
    rintro n o rfl
    refine ⟨a1, a2, a3, a4, a5, fun e => absurd e hstate.2, fun e => ?_, fun e => ?_, fun e => absurd e hstate.1⟩ <;>
      simp only [TraceBuffer.closed] at e ⊢ <;> split at e
    · cases e
    · next hr => exact ⟨hpos (by omega), by omega⟩
    · assumption
    · cases e
  have hnot := a9 filling
  by_cases hempty : (u.get i.other).state = .empty
  · obtain ⟨c1, c2, -⟩ := b6 hempty
    rw [TraceUnit.closeFilling_of_other_empty hempty]
    refine TraceUnit.sound_of i ?_ ?_
    · rw [TraceUnit.get_set_of_other, TraceUnit.get_set_same]
      exact hclosed (TraceUnit.holders_congr (by simp) i).symm
    · rw [TraceUnit.get_set_same, TraceUnit.holders_congr (u := u) (by simp), TraceUnit.get_set_of_other,
        TraceUnit.get_set_same]
      exact ⟨b1, b2, b3, b4, b5, nofun, nofun, nofun, fun _ => hstate.1⟩
  · rw [TraceUnit.closeFilling_of_other_not_empty hempty]
    refine TraceUnit.sound_of i ?_ ?_
    · rw [TraceUnit.get_set_same]
      exact hclosed (TraceUnit.holders_congr (by simp) i).symm
    · rw [TraceUnit.get_other_set, TraceUnit.get_set_same, TraceUnit.holders_congr (u := u) (by simp)]
      exact ⟨b1, b2, b3, b4, b5, fun e => absurd e hempty, b7, b8, fun e => absurd e hnot⟩

/-- A FULL buffer released (R153). -/
theorem TraceUnit.Sound.release (hu : u.Sound) (full : (u.get i).state = .full) : (u.release i).Sound := by
  obtain ⟨hx, hy⟩ := hu.both i
  obtain ⟨-, -, -, a4, -, -, a7, -⟩ := hx
  obtain ⟨b1, b2, b3, b4, b5, b6, b7, b8, -⟩ := hy
  have hholders : u.holders i = 0 := by have := (a7 full).2; omega
  have hnotEmpty : (u.get i.other).state ≠ .empty := fun e => by have := (b6 e).2.2; rw [full] at this; cases this
  unfold TraceUnit.release
  refine TraceUnit.sound_of i ?_ ?_
  · rw [TraceUnit.get_set_same, TraceUnit.get_other_set, TraceUnit.holders_congr (u := u) (by simp), hholders]
    refine ⟨Nat.zero_le _, rfl, rfl, rfl, nofun, fun e => ⟨rfl, rfl, ?_⟩, fun e => ?_, fun e => ?_, fun e => ?_⟩ <;>
      simp only [TraceBuffer.blank] at e <;> split at e <;> simp_all
  · rw [TraceUnit.get_other_set, TraceUnit.get_set_same, TraceUnit.holders_congr (u := u) (by simp)]
    refine ⟨b1, b2, b3, b4, b5, fun e => absurd e hnotEmpty, b7, b8, fun e => ?_⟩
    simp [TraceBuffer.blank, e]

theorem TraceMove.sound {u' : TraceUnit} (m : TraceMove u u') (hu : u.Sound) : u'.Sound := by
  cases m with
  | closes i filling used => exact hu.closeFilling (TraceUnit.filling_state filling) used
  | releases i full => exact hu.release full

theorem TraceMove.reservation {u' : TraceUnit} (m : TraceMove u u') : u'.reservation = u.reservation := by
  cases m with
  | closes i =>
    by_cases hempty : (u.get i.other).state = .empty
    · rw [TraceUnit.closeFilling_of_other_empty hempty]; simp
    · rw [TraceUnit.closeFilling_of_other_not_empty hempty]; simp
  | releases i => simp [TraceUnit.release]

/-! ### Reservations (R144, R145) -/

/-- Condition 9 met: the buffer is FILLING and has room for a reservation (R144). -/
theorem TraceUnit.judgeStart_some (hu : u.Sound) {u' : TraceUnit} {n : BufferId} (hj : u.judgeStart = (u', some n)) :
    u'.Sound ∧ u'.reservation = u.reservation ∧ (u'.get n).state = .filling ∧ 48 ≤ (u'.get n).free := by
  unfold TraceUnit.judgeStart at hj
  split at hj
  · cases hj
  · next i hi =>
    have filling := TraceUnit.filling_state hi
    split at hj
    · next hfree =>
      cases hj
      exact ⟨hu, rfl, filling, hfree⟩
    · next hfree =>
      have used : (u.get i).count ≠ 0 ∨ (u.get i).reserved ≠ 0 ∨ (u.get i).free < 48 :=
        .inr (.inr (Nat.lt_of_not_le hfree))
      obtain ⟨rfl, hb⟩ := Prod.mk.inj hj
      have hstate := TraceUnit.filling_state hb
      refine ⟨hu.closeFilling filling used, (TraceMove.closes i hi used).reservation, hstate, ?_⟩
      have hclosed : (u.get i).closed.state ≠ .filling := by
        simp only [TraceBuffer.closed]; split <;> simp
      obtain ⟨hx, hy⟩ := hu.both i
      have hnot : (u.get i.other).state ≠ .filling := hx.2.2.2.2.2.2.2.2 filling
      obtain ⟨-, b2, b3, -, -, b6, -⟩ := hy
      by_cases hempty : (u.get i.other).state = .empty
      · rw [TraceUnit.closeFilling_of_other_empty hempty] at hstate ⊢
        rcases i.eq_or_other n with rfl | rfl
        · rw [TraceUnit.get_set_of_other, TraceUnit.get_set_same] at hstate
          exact absurd hstate hclosed
        · obtain ⟨c1, c2, -⟩ := b6 hempty
          have hnil : (u.get i.other).records = [] := List.eq_nil_of_length_eq_zero (by omega)
          rw [TraceUnit.get_set_same]
          simp [TraceBuffer.free, b2, hnil, c2, Config.bufferWords]
      · rw [TraceUnit.closeFilling_of_other_not_empty hempty] at hstate
        rcases i.eq_or_other n with rfl | rfl
        · rw [TraceUnit.get_set_same] at hstate
          exact absurd hstate hclosed
        · rw [TraceUnit.get_other_set] at hstate
          exact absurd hstate hnot

/-- A reservation taken by a head that had none (R145). -/
theorem TraceUnit.Sound.reserve (hu : u.Sound) (none : u.reservation.get h = none) (filling : (u.get i).state = .filling)
    (room : 48 ≤ (u.get i).free) (cycle : Word32) : (u.reserve h i cycle).Sound := by
  obtain ⟨⟨a1, a2, a3, a4, a5, -, -, -, a9⟩, hy⟩ := hu.both i
  have hset : (u.reserve h i cycle).reservation = u.reservation.set h (some { buffer := i, cycle := cycle }) := by
    simp [TraceUnit.reserve, TraceUnit.modify]
  have hget : (u.reserve h i cycle).get i = { u.get i with reserved := (u.get i).reserved + 48 } := by
    cases i <;> rfl
  have hother : (u.reserve h i cycle).get i.other = u.get i.other := by cases i <;> rfl
  have h1 := TraceUnit.holders_set hset i
  have h2 := TraceUnit.holders_set hset i.other
  rw [none, heldIn_some] at h1 h2
  simp only [if_true, if_neg i.other_ne.symm, heldIn, Option.any_none, if_neg Bool.false_ne_true] at h1 h2
  have hfree : (u.get i).used + (u.get i).reserved + 48 ≤ 4096 := by
    simp only [TraceBuffer.free, Config.bufferWords] at room
    omega
  refine TraceUnit.sound_of i ?_ ?_
  · rw [hget, hother]
    refine ⟨by simp only; omega, a2, a3, by simp only; omega, a5, fun e => ?_, fun e => ?_, fun e => ?_, a9⟩ <;>
      (simp only at e; rw [filling] at e; cases e)
  · rw [hget, hother, show (u.reserve h i cycle).holders i.other = u.holders i.other by omega]
    exact hy

/-! ### Records (R147) -/

theorem TraceUnit.append_reservation (u : TraceUnit) (h : HeadId) (cycle : Word32) (record : List Word16) :
    (u.append h cycle record).reservation = u.reservation.set h none := by
  apply PerSix.ext_get
  intro k
  by_cases hk : k = h
  · rw [hk, TraceUnit.append_reservation_same, PerSix.get_set_same]
  · rw [TraceUnit.append_reservation_other h u cycle record hk, PerSix.get_set_other _ _ hk]

theorem TraceUnit.append_none (none : u.reservation.get h = none) (cycle : Word32) (record : List Word16) :
    u.append h cycle record = u := by simp [TraceUnit.append, none]

/-- A record of 16 to 48 words appended into a reservation, which it consumes (R147). -/
theorem TraceUnit.Sound.append (hu : u.Sound) (h : HeadId) (cycle : Word32) {record : List Word16}
    (hlen : 16 ≤ record.length ∧ record.length ≤ 48) : (u.append h cycle record).Sound := by
  cases hv : u.reservation.get h with
  | none => rw [TraceUnit.append_none hv]; exact hu
  | some v =>
    obtain ⟨i, n⟩ := v
    obtain ⟨⟨a1, a2, a3, a4, a5, a6, a7, a8, a9⟩, ⟨b1, b2, b3, b4, b5, b6, b7, b8, b9⟩⟩ := hu.both i
    have hget : (u.append h cycle record).get i = (u.get i).append cycle record := by
      cases i <;> simp [TraceUnit.append, hv, TraceUnit.modify, TraceUnit.set, TraceUnit.get]
    have hother : (u.append h cycle record).get i.other = u.get i.other := by
      cases i <;> simp [TraceUnit.append, hv, TraceUnit.modify, TraceUnit.set, TraceUnit.get, BufferId.other]
    have h1 := TraceUnit.holders_set (u.append_reservation h cycle record) i
    have h2 := TraceUnit.holders_set (u.append_reservation h cycle record) i.other
    rw [hv, heldIn_some] at h1 h2
    simp only [if_true, if_neg i.other_ne.symm, heldIn, Option.any_none, if_neg Bool.false_ne_true] at h1 h2
    have hheld : 48 ≤ (u.get i).reserved := by omega
    have hnotEmpty : (u.get i).state ≠ .empty := fun e => by have := (a6 e).2.1; omega
    have hnotFull : (u.get i).state ≠ .full := fun e => by have := (a7 e).2; omega
    refine TraceUnit.sound_of i ?_ ?_
    · rw [hget, hother]
      refine ⟨?_, ?_, ?_, ?_, ?_, fun e => ?_, fun e => ?_, fun e => ?_, fun e => ?_⟩
      · simp only [TraceBuffer.append, Config.reservationWords]; omega
      · simp [TraceBuffer.append, a2]
      · simp [TraceBuffer.append, a3]
      · simp only [TraceBuffer.append, Config.reservationWords]; omega
      · simp only [TraceBuffer.append, List.mem_append, List.mem_singleton]
        rintro w (hw | rfl)
        · exact a5 w hw
        · exact hlen
      · simp only [TraceBuffer.append] at e
        split at e
        · cases e
        · exact absurd e hnotEmpty
      · simp only [TraceBuffer.append] at e ⊢
        split at e
        · next hclosing => exact ⟨by omega, hclosing.2⟩
        · exact absurd e hnotFull
      · simp only [TraceBuffer.append] at e ⊢
        split at e
        · cases e
        · next hclosing =>
          have : ¬(u.get i).reserved - Config.reservationWords = 0 := fun h0 => hclosing ⟨e, h0⟩
          omega
      · simp only [TraceBuffer.append] at e
        split at e
        · cases e
        · exact a9 e
    · rw [hget, hother, show (u.append h cycle record).holders i.other = u.holders i.other by omega]
      refine ⟨b1, b2, b3, b4, b5, fun e => ⟨(b6 e).1, (b6 e).2.1, ?_⟩, b7, b8, fun e => ?_⟩
      · simp [TraceBuffer.append, (b6 e).2.2]
      · have hne := b9 e
        simp only [TraceBuffer.append]
        split
        · simp
        · exact hne

/-! ### The invariant -/

/-- A reservation for each head with an active cycle, of that cycle (R145). -/
def State.Reserved (s : State) : Prop :=
  ∀ h, ((s.trace.reservation.get h).isSome = true ↔ s.isActive h = true) ∧
    ∀ r, s.trace.reservation.get h = some r → ∃ c, (s.heads.get h).ctx = some c ∧ c.cycle = r.cycle

theorem State.traceSound_iff (s : State) : s.TraceSound ↔ s.trace.Sound ∧ s.Reserved := by
  constructor
  · rintro ⟨ha, hb, hr⟩
    exact ⟨fun i => by cases i <;> assumption, hr⟩
  · exact fun ⟨hs, hr⟩ => ⟨hs .a, hs .b, hr⟩

theorem GoesOn.reserved (hg : GoesOn s t) (hp : s.Reserved) : t.Reserved := by
  have hres : t.trace.reservation = s.trace.reservation := by
    rcases hg.trace with e | m
    · rw [e]
    · exact m.reservation
  intro k
  obtain ⟨h1, h2⟩ := hp k
  rw [hres, hg.active]
  refine ⟨h1, fun r hr => ?_⟩
  obtain ⟨c, hc, hcycle⟩ := h2 r hr
  obtain ⟨c', hc', e, -⟩ := hg.ctx (h1.mp (by rw [hr]; rfl)) hc
  exact ⟨c', hc', e.trans hcycle⟩

theorem Closes.trace {reason : Option Reason} {c c' : Context} (hc : Closes s t h reason c c') :
    t.trace = s.trace.append h c'.cycle (traceRecord h c') := by
  rw [hc.state, State.closeCycle_trace, State.leaveCycle_trace]

theorem Closes.reserved {reason : Option Reason} {c c' : Context} (hc : Closes s t h reason c c') (hp : s.Reserved) :
    t.Reserved := by
  obtain ⟨-, hothers⟩ := hc.heads
  intro k
  rw [hc.trace, TraceUnit.append_reservation, hc.isActive]
  by_cases hk : k = h
  · subst hk; simp
  · rw [PerSix.get_set_other _ _ hk, hothers k hk]
    simpa [hk] using hp k

theorem Quiet.traceSound (q : Quiet s t) (hc : s.CyclesSound) (hp : s.TraceSound) : t.TraceSound := by
  obtain ⟨hbuf, hres⟩ := (State.traceSound_iff s).mp hp
  rw [State.traceSound_iff]
  rcases q.cases with ⟨h, reason, c, c', hclose⟩ | hg
  · refine ⟨?_, hclose.reserved hres⟩
    rw [hclose.trace]
    refine hbuf.append h _ ?_
    have hlen := (hclose.ended.soundIn (hc h c hclose.ctx) ((State.isActive_iff ..).mp hclose.active)).1
    rw [traceRecord_length]
    omega
  · refine ⟨?_, hg.reserved hres⟩
    rcases hg.trace with e | m
    · rw [e]; exact hbuf
    · exact m.sound hbuf

/-- The invariant of O59. -/
def State.TracingSound (s : State) : Prop := s.HeadsSound ∧ s.CyclesSound ∧ s.TraceSound

theorem Quiet.tracingSound (q : Quiet s t) (hp : s.TracingSound) : t.TracingSound :=
  ⟨q.headsSound hp.1, q.cyclesSound hp.2.1, q.traceSound hp.2.1 hp.2.2⟩

theorem State.TraceSound.of_eq (hp : s.TraceSound) (heads : t.heads = s.heads) (trace : t.trace = s.trace) : t.TraceSound := by
  have hg : GoesOn s t := .of_heads heads (.inl trace)
  obtain ⟨hbuf, hres⟩ := (State.traceSound_iff s).mp hp
  exact (State.traceSound_iff t).mpr ⟨by rw [trace]; exact hbuf, hg.reserved hres⟩

theorem TraceUnit.sound_reset : TraceUnit.reset.Sound := by
  have hheld : ∀ i, TraceUnit.reset.holders i = 0 := fun i => by cases i <;> rfl
  refine TraceUnit.sound_of .a ?_ ?_ <;> rw [hheld]
  · exact ⟨Nat.zero_le _, rfl, rfl, rfl, nofun, nofun, nofun, nofun, nofun⟩
  · exact ⟨Nat.zero_le _, rfl, rfl, rfl, nofun, fun _ => ⟨rfl, rfl, rfl⟩, nofun, nofun, nofun⟩

theorem State.Fresh.traceSound (hf : s.Fresh) : s.TraceSound := by
  have hinactive := hf.inactive
  obtain ⟨nv, failed, straps, cabinet, hold, n, q, rfl⟩ := hf
  refine (State.traceSound_iff _).mpr ⟨TraceUnit.sound_reset, fun k => ?_⟩
  rw [hinactive]
  simp [State.resetWith, TraceUnit.reset]

theorem kept_tracingSound : Kept State.TracingSound where
  quiet := Quiet.tracingSound
  store _ hp := hp
  line _ hp := hp
  modes p hm hp := modes_of_setModeTo Quiet.tracingSound (fun _ _ _ hp => hp) p hm hp
  adopt _ hp := hp
  scan flips _ hp := by
    have heads : ∀ u : State, u.handOver.heads = u.heads := fun _ => rfl
    have trace : ∀ u : State, u.handOver.trace = u.trace := fun _ => rfl
    exact ⟨hp.1.handOver flips, hp.2.1.handOver flips,
      hp.2.2.of_eq (by rw [heads, State.scan_heads]) (by rw [trace, State.scan_trace])⟩
  reset _ _ _ _ :=
    ⟨(State.fresh_resetWith ..).headsSound, (State.fresh_resetWith ..).cyclesSound, (State.fresh_resetWith ..).traceSound⟩

/-- A cycle that begins has its reservation (R144 to R146). -/
theorem State.TraceSound.beginCycle {tr : TraceUnit} {buf : BufferId} {c : Context} (hb : s.Begins h tr buf c)
    (hp : s.TraceSound) : (s.beginCycle h tr buf c).TraceSound := by
  obtain ⟨hbuf, hres⟩ := (State.traceSound_iff s).mp hp
  obtain ⟨hsound, hresv, filling, room⟩ := TraceUnit.judgeStart_some hbuf hb.judged
  have hinactive : s.isActive h = false := by
    rw [Bool.eq_false_iff, ne_eq, State.isActive_iff]; simp [hb.idle]
  have hnone : s.trace.reservation.get h = none := by simpa [hinactive] using (hres h).1
  have hset : (tr.reserve h buf c.cycle).reservation = s.trace.reservation.set h (some { buffer := buf, cycle := c.cycle }) := by
    rw [← hresv]; simp [TraceUnit.reserve, TraceUnit.modify]
  refine (State.traceSound_iff _).mpr ⟨hsound.reserve (by rw [hresv]; exact hnone) filling room _, fun k => ?_⟩
  have htrace : (s.beginCycle h tr buf c).trace = tr.reserve h buf c.cycle := rfl
  rw [htrace, hset]
  by_cases hk : k = h
  · subst hk
    simp [State.isActive_iff, State.beginCycle]
  · have hheads : (s.beginCycle h tr buf c).heads.get k = s.heads.get k := PerSix.get_modify_other _ _ hk
    rw [PerSix.get_set_other _ _ hk, hheads, State.isActive_iff, hheads, ← State.isActive_iff]
    exact hres k

/-- Settles O59: every operation of the trace unit keeps both buffers sound and each active cycle its reservation. -/
theorem traceBuffersStaySound : Obligations.TraceBuffersStaySound :=
  kept_tracingSound.step (fun _ hp => hp) fun hb hp => ⟨hp.1.beginCycle hb, hp.2.1.beginCycle hb, hp.2.2.beginCycle hb⟩

end Sys2Proof.Machine
end

section
/-! PROOFS. Cycle numbers (O60): no move but the begin of a cycle adds a number to those in the buffers and on active heads. -/

namespace Sys2Proof.Machine

variable {s t : State} {h k : HeadId} {u : TraceUnit} {c c' : Context}

/-! ### The numbers of a state -/

/-- The number of a head's active cycle. -/
def State.numberOf (s : State) (h : HeadId) : List Nat :=
  if s.isActive h then ((s.heads.get h).ctx.map fun c => c.cycle.toNat).toList else []

/-- The numbers of the records in both buffers. -/
def TraceUnit.numbers (u : TraceUnit) : List Nat := (u.a.records ++ u.b.records).map recordCycle

theorem filterMap_filter_eq_flatMap {α β : Type} (p : α → Bool) (f : α → Option β) (l : List α) :
    (l.filter p).filterMap f = l.flatMap fun a => if p a then (f a).toList else [] := by
  induction l with
  | nil => rfl
  | cons a l ih =>
    rw [List.flatMap_cons, ← ih, List.filter_cons]
    split
    · cases hf : f a <;> simp [hf]
    · rfl

theorem State.cycleNumbers_eq (s : State) : s.cycleNumbers = s.trace.numbers ++ sixInOrder.flatMap s.numberOf := by
  rw [State.cycleNumbers, filterMap_filter_eq_flatMap]
  rfl

/-- The six heads, one of them first. -/
theorem sixInOrder_perm_cons : ∀ h, sixInOrder.Perm (h :: sixInOrder.erase h) := fun h =>
  List.perm_cons_erase (by revert h; decide)

theorem flatMap_sixInOrder {f g : HeadId → List Nat} (hf : ∀ k, k ≠ h → f k = g k) :
    (sixInOrder.flatMap f).Perm (f h ++ (sixInOrder.erase h).flatMap g) := by
  refine ((sixInOrder_perm_cons h).flatMap_right f).trans ?_
  rw [List.flatMap_cons]
  have hne : ∀ k ∈ sixInOrder.erase h, f k = g k := fun k hk =>
    hf k fun e => (show sixInOrder.Nodup by decide).not_mem_erase (e ▸ hk)
  rw [List.flatMap_congr hne]

/-- The number a record carries is its cycle's (R183). -/
theorem recordCycle_traceRecord (h : HeadId) (c : Context) : recordCycle (traceRecord h c) = c.cycle.toNat :=
  traceRecord_double h c 2 c.cycle rfl

/-! ### What the moves do to the numbers -/

theorem TraceMove.numbers {u' : TraceUnit} (m : TraceMove u u') : u'.numbers.Sublist u.numbers := by
  refine List.Sublist.map _ ?_
  cases m with
  | closes i filling used =>
    by_cases hempty : (u.get i.other).state = .empty
    · rw [TraceUnit.closeFilling_of_other_empty hempty]; cases i <;> exact List.Sublist.refl _
    · rw [TraceUnit.closeFilling_of_other_not_empty hempty]; cases i <;> exact List.Sublist.refl _
  | releases i =>
    cases i
    · exact List.sublist_append_right _ _
    · exact List.Sublist.append (List.Sublist.refl _) (List.nil_sublist _)

/-- An append adds the record's number at most. -/
theorem TraceUnit.append_numbers (u : TraceUnit) (h : HeadId) (cycle : Word32) (record : List Word16) :
    (u.append h cycle record).numbers.Subperm (u.numbers ++ [recordCycle record]) := by
  cases hv : u.reservation.get h with
  | none => rw [TraceUnit.append_none hv]; exact (List.sublist_append_left _ _).subperm
  | some v =>
    obtain ⟨i, n⟩ := v
    refine List.Perm.subperm ?_
    cases i
    · have e : (u.append h cycle record).numbers = (u.a.records ++ [record] ++ u.b.records).map recordCycle := by
        simp [TraceUnit.append, hv, TraceUnit.numbers, TraceUnit.modify, TraceUnit.set, TraceUnit.get, TraceBuffer.append]
      rw [e, TraceUnit.numbers, ← List.map_singleton, ← List.map_append, List.append_assoc, List.append_assoc]
      exact ((List.perm_append_comm (l₁ := [record])).append_left u.a.records).map _
    · have e : (u.append h cycle record).numbers = (u.a.records ++ (u.b.records ++ [record])).map recordCycle := by
        simp [TraceUnit.append, hv, TraceUnit.numbers, TraceUnit.modify, TraceUnit.set, TraceUnit.get, TraceBuffer.append]
      rw [e, TraceUnit.numbers, ← List.map_singleton, ← List.map_append, List.append_assoc]

theorem GoesOn.numberOf (hg : GoesOn s t) (k : HeadId) : t.numberOf k = s.numberOf k := by
  unfold State.numberOf
  rw [hg.active]
  split
  · next ha =>
    cases hc : (s.heads.get k).ctx with
    | some c =>
      obtain ⟨c', hc', e, -⟩ := hg.ctx ha hc
      rw [hc', Option.map_some, Option.map_some, e]
    | none =>
      have hc' : (t.heads.get k).ctx = none := by
        cases hg.heads k with
        | none _ ctx' => exact ctx'
        | forget _ ctx' => exact ctx'
        | kept _ _ ctx | heat _ _ _ ctx | run _ _ ctx | advance _ _ _ _ ctx => rw [ctx] at hc; cases hc
      rw [hc']
  · rfl

theorem GoesOn.numbers (hg : GoesOn s t) : t.cycleNumbers.Subperm s.cycleNumbers := by
  rw [State.cycleNumbers_eq, State.cycleNumbers_eq, List.flatMap_congr fun k _ => hg.numberOf k]
  refine (List.Sublist.append_right ?_ _).subperm
  rcases hg.trace with e | m
  · rw [e]
  · exact m.numbers

theorem Closes.numbers {reason : Option Reason} (hc : Closes s t h reason c c') : t.cycleNumbers.Subperm s.cycleNumbers := by
  obtain ⟨-, hothers⟩ := hc.heads
  have hsame : t.numberOf h = [] := by simp [State.numberOf, hc.isActive]
  have hother : ∀ k, k ≠ h → t.numberOf k = s.numberOf k := fun k hk => by
    simp [State.numberOf, hc.isActive, hk, hothers k hk]
  have hs : s.numberOf h = [c.cycle.toNat] := by simp [State.numberOf, hc.active, hc.ctx]
  rw [State.cycleNumbers_eq, State.cycleNumbers_eq, hc.trace]
  have h1 := flatMap_sixInOrder hother
  have h2 := flatMap_sixInOrder (h := h) (f := s.numberOf) fun k _ => rfl
  rw [hsame, List.nil_append] at h1
  rw [hs] at h2
  have hrec := s.trace.append_numbers h c'.cycle (traceRecord h c')
  rw [recordCycle_traceRecord, hc.ended.cycle] at hrec
  have key := (List.subperm_append_right ((sixInOrder.erase h).flatMap s.numberOf)).mpr hrec
  rw [hc.ended.cycle]
  refine ((h1.append_left _).subperm.trans key).trans (List.Perm.subperm ?_)
  rw [List.append_assoc]
  exact (h2.symm).append_left _

theorem Quiet.numbers (q : Quiet s t) : t.cycleNumbers.Subperm s.cycleNumbers := by
  rcases q.cases with ⟨h, reason, c, c', hc⟩ | hg
  · exact hc.numbers
  · exact hg.numbers

theorem Quiet.cycleCounter (q : Quiet s t) : t.disp.cycleCounter = s.disp.cycleCounter := by
  cases q with
  | applyFields k => simp
  | run k c r g v sp heats runs => rw [State.runLoop_of_ctx (State.running_ctx runs)]
  | advance k c c' r g g2 v sp => rw [State.advance_eq]
  | close k reason c c' =>
    rw [State.closeCycle_disp, State.leaveCycle_disp]
    split <;> rfl
  | expire => rw [State.expire_disp]; rfl
  | _ => rfl

theorem State.NumbersSound.of_subperm (hp : s.NumbersSound) (numbers : t.cycleNumbers.Subperm s.cycleNumbers)
    (counter : t.disp.cycleCounter = s.disp.cycleCounter) : t.NumbersSound := by
  obtain ⟨hnd, hle⟩ := hp
  obtain ⟨l, hperm, hsub⟩ := numbers
  exact ⟨hperm.nodup_iff.mp (hnd.sublist hsub), fun n hn => by
    rw [counter]; exact hle n (hsub.subset (hperm.mem_iff.mpr hn))⟩

theorem Quiet.numbersSound (q : Quiet s t) (hp : s.NumbersSound) : t.NumbersSound :=
  hp.of_subperm q.numbers q.cycleCounter

theorem State.Fresh.numbersSound (hf : s.Fresh) : s.NumbersSound := by
  have hnil : s.cycleNumbers = [] := by
    obtain ⟨nv, failed, straps, cabinet, hold, n, q, rfl⟩ := hf
    rfl
  unfold State.NumbersSound
  rw [hnil]
  exact ⟨List.nodup_nil, nofun⟩

theorem kept_numbersSound : Kept State.NumbersSound where
  quiet := Quiet.numbersSound
  store _ hp := hp
  line _ hp := hp
  modes p hm hp := modes_of_setModeTo Quiet.numbersSound (fun _ _ _ hp => hp) p hm hp
  adopt _ hp := hp
  scan {s} flips _ hp := by
    have heads : ∀ u : State, u.handOver.heads = u.heads := fun _ => rfl
    have trace : ∀ u : State, u.handOver.trace = u.trace := fun _ => rfl
    have counter : ∀ u : State, u.handOver.disp.cycleCounter = u.disp.cycleCounter := fun _ => rfl
    refine hp.of_subperm (GoesOn.numbers (.of_heads ?_ (.inl ?_))) ?_
    · rw [heads, State.scan_heads]
    · rw [trace, State.scan_trace]
    · rw [counter, State.scan_disp]
  reset _ _ _ _ := (State.fresh_resetWith ..).numbersSound

/-! ### The begin of a cycle (R46, R88) -/

/-- The judgement of condition 9 leaves the records (R144). -/
theorem TraceUnit.judgeStart_numbers {o : Option BufferId} {u' : TraceUnit} (hj : u.judgeStart = (u', o)) :
    u'.numbers.Sublist u.numbers := by
  unfold TraceUnit.judgeStart at hj
  split at hj
  · cases hj; exact List.Sublist.refl _
  · next i hi =>
    split at hj
    · cases hj; exact List.Sublist.refl _
    · next hfree =>
      obtain ⟨rfl, -⟩ := Prod.mk.inj hj
      exact (TraceMove.closes i hi (.inr (.inr (Nat.lt_of_not_le hfree)))).numbers

/-- A cycle that begins adds its number. -/
theorem State.Begins.numbers {tr : TraceUnit} {buf : BufferId} (hb : s.Begins h tr buf c) :
    (s.beginCycle h tr buf c).cycleNumbers.Subperm (c.cycle.toNat :: s.cycleNumbers) := by
  have hsame : (s.beginCycle h tr buf c).numberOf h = [c.cycle.toNat] := by
    have ha : (s.beginCycle h tr buf c).isActive h = true := by simp [State.isActive_iff, State.beginCycle]
    rw [State.numberOf, ha, if_pos rfl]
    simp [State.beginCycle]
  have hheads : ∀ k, k ≠ h → (s.beginCycle h tr buf c).heads.get k = s.heads.get k := fun k hk =>
    PerSix.get_modify_other _ _ hk
  have hother : ∀ k, k ≠ h → (s.beginCycle h tr buf c).numberOf k = s.numberOf k := fun k hk => by
    have ha : (s.beginCycle h tr buf c).isActive k = s.isActive k := by
      rw [Bool.eq_iff_iff, State.isActive_iff, State.isActive_iff, hheads k hk]
    simp [State.numberOf, ha, hheads k hk]
  have hs : s.numberOf h = [] := by
    have ha : s.isActive h = false := by rw [Bool.eq_false_iff, ne_eq, State.isActive_iff]; simp [hb.idle]
    simp [State.numberOf, ha]
  have h1 := flatMap_sixInOrder hother
  have h2 := flatMap_sixInOrder (h := h) (f := s.numberOf) fun k _ => rfl
  rw [hsame] at h1
  rw [hs, List.nil_append] at h2
  have htrace : (s.beginCycle h tr buf c).trace.numbers = tr.numbers := by
    simp only [State.beginCycle, TraceUnit.reserve]
    cases buf <;> rfl
  rw [State.cycleNumbers_eq, State.cycleNumbers_eq, htrace]
  refine ((h1.append_left _).subperm.trans ?_)
  refine List.Subperm.trans (List.Perm.subperm List.perm_middle) ?_
  rw [List.subperm_cons]
  exact ((TraceUnit.judgeStart_numbers hb.judged).append_right _).subperm.trans (h2.symm.append_left _).subperm

/-- The number given next is above all given, but for the wrap (R88). -/
theorem nextCycle_toNat {n : Word32} (hn : n ≠ 4294967295) : (nextCycle n).toNat = n.toNat + 1 := by
  unfold nextCycle
  split
  · next h0 => exact absurd (by bv_omega) hn
  · next h0 => bv_omega

theorem State.NumbersSound.beginCycle {tr : TraceUnit} {buf : BufferId} (hb : s.Begins h tr buf c) (hp : s.NumbersSound)
    (wraps : s.disp.cycleCounter ≠ 4294967295) : (s.beginCycle h tr buf c).NumbersSound := by
  obtain ⟨hnd, hle⟩ := hp
  have hnew : c.cycle.toNat = s.disp.cycleCounter.toNat + 1 := by rw [hb.cycle, nextCycle_toNat wraps]
  have hcounter : (s.beginCycle h tr buf c).disp.cycleCounter = c.cycle := rfl
  obtain ⟨l, hperm, hsub⟩ := hb.numbers
  have hnd' : (c.cycle.toNat :: s.cycleNumbers).Nodup :=
    List.nodup_cons.mpr ⟨fun hin => by have := hle _ hin; omega, hnd⟩
  refine ⟨hperm.nodup_iff.mp (hnd'.sublist hsub), fun n hn => ?_⟩
  rw [hcounter]
  rcases List.mem_cons.mp (hsub.subset (hperm.mem_iff.mpr hn)) with rfl | hin
  · exact le_refl _
  · have := hle n hin
    omega

theorem Quiets.numbersSound (q : Quiets s t) (hp : s.NumbersSound) : t.NumbersSound := kept_numbersSound.quiets q hp

theorem Quiets.cycleCounter (q : Quiets s t) : t.disp.cycleCounter = s.disp.cycleCounter := by
  induction q with
  | refl => rfl
  | tail _ q ih => rw [q.cycleCounter, ih]

/-- Settles O60: a number is new when it is given, and goes with its cycle into its record. -/
theorem cycleNumbersStayUnique : Obligations.CycleNumbersStayUnique := by
  intro s t hp hs hwrap
  unfold step at hs
  split at hs
  · cases hs; exact hp
  · next i rest _ =>
    by_cases hl : ∃ l, i = .start l
    · obtain ⟨l, rfl⟩ := hl
      rcases execStart_cases hs with q | ⟨u, h, tr, buf, c, q1, hb, q2⟩
      · exact q.numbersSound hp
      · have hu := q1.numbersSound hp
        have e1 := q1.cycleCounter
        have e2 := q2.cycleCounter
        refine q2.numbersSound (hu.beginCycle hb fun hmax => ?_)
        refine hwrap (e1 ▸ hmax) ?_
        have hcounter : (u.beginCycle h tr buf c).disp.cycleCounter = nextCycle u.disp.cycleCounter := hb.cycle
        rw [e2, hcounter, hmax]
        decide
    · exact kept_numbersSound.exec (fun l e => hl ⟨l, e⟩) hs hp

end Sys2Proof.Machine
end

section
/-! PROOFS. The store's slots and the code index (O58, first part): the table of slots and what the operations in hand stand on. -/

namespace Sys2Proof.Machine

variable {s t : State} {st st' : Store} {slot code n : Nat}

/-! ### The table of slots (R7, R9) -/

/-- The slots of the store and the index that stands for the VALID ones. -/
structure Store.Table (st : Store) : Prop where
  ordered : st.IndexOrdered
  memory : st.nv.length = 55
  statuses : st.slotStatus.length = 48
  revisions : st.lastRevision.length = 48
  stands : ∀ slot, st.IndexStandsFor slot

theorem Store.Table.congr (hp : st.Table) (index : st'.index = st.index) (status : st'.slotStatus = st.slotStatus)
    (nv : st'.nv.length = st.nv.length) (revisions : st'.lastRevision.length = st.lastRevision.length) : st'.Table := by
  obtain ⟨h1, h2, h3, h4, h5⟩ := hp
  refine ⟨?_, nv.trans h2, by rw [status]; exact h3, revisions.trans h4, fun slot => ?_⟩
  · unfold Store.IndexOrdered; rw [index]; exact h1
  · unfold Store.IndexStandsFor; rw [index, status]; exact h5 slot

/-- A slot made anything but VALID, its entry gone. -/
theorem Store.Table.drop (hp : st.Table) {v : SlotStatus} (hv : v ≠ .valid) (slot : Nat) :
    ((st.setStatus slot v).dropIndex slot).Table where
  ordered := Store.IndexOrdered.dropIndex (st := st.setStatus slot v) hp.ordered slot
  memory := hp.memory
  statuses := by simpa [Store.dropIndex] using hp.statuses
  revisions := hp.revisions
  stands k := Store.indexStandsFor_drop hv k (hp.stands k)

/-- A slot made VALID, its code entered. -/
theorem Store.Table.enter (hp : st.Table) (hs : slot < 48) (hc : ∀ e ∈ st.index, e.code = code → e.slot = slot) :
    ((st.setStatus slot .valid).enterIndex code slot).Table where
  ordered := Store.IndexOrdered.enterIndex (st := st.setStatus slot .valid) hp.ordered hc
  memory := hp.memory
  statuses := by simpa using hp.statuses
  revisions := hp.revisions
  stands k := Store.indexStandsFor_enter (by rw [hp.statuses]; exact hs) k (hp.stands k)

/-- A slot with an entry is one of the 48. -/
theorem Store.Table.slot_lt (hp : st.Table) {e : IndexEntry} (he : e ∈ st.index) : e.slot < 48 := by
  have hv := (hp.stands e.slot).mpr ⟨e, he, rfl⟩
  obtain ⟨hlt, -⟩ := List.getElem?_eq_some_iff.mp hv
  rwa [hp.statuses] at hlt

theorem Store.flip_nv_length (st : Store) (slot : Nat) (flips : List CellFlip) :
    (st.flip slot flips).nv.length = st.nv.length := by simp [Store.flip]

/-- A read of a recipe slot leaves the table, or makes the slot DAMAGED. -/
theorem Store.Table.readRecipe (hp : st.Table) (slot : Nat) (flips : List CellFlip) :
    (st.readRecipe slot flips).1.Table ∧ ∀ e ∈ (st.readRecipe slot flips).1.index, e ∈ st.index := by
  have hread : ((st.flip slot flips).countRead slot (st.readRecipe slot flips).2.1
      (st.readRecipe slot flips).2.2.isNone).Table :=
    hp.congr (by simp [Store.flip]) (by simp [Store.flip]) (by simp [Store.flip]) (by simp [Store.flip])
  rw [Store.readRecipe_store]
  simp only
  split
  · exact ⟨hread.drop (by decide) slot, fun e he => by
      have := (Store.mem_dropIndex _).mp he
      simpa [Store.flip] using this.1⟩
  · exact ⟨hread, fun e he => by simpa [Store.flip] using he⟩

/-! ### What the operations in hand stand on -/

/-- What the table has to give an operation in the supervisor slot (R4, R7). -/
def SupervisorOp.Stands (st : Store) : SupervisorOp → Prop
  | .recipeWrite slot body => slot < 48 ∧ ∀ e ∈ st.index, e.code = u16At body 0 → e.slot = slot
  | .recipeErase slot => slot < 48
  | .recipeRead slot => slot < 48
  | _ => True

/-- The table, the slot a lookup reads, and what the supervisor operation stands on. -/
structure Store.SlotsSound (st : Store) : Prop where
  table : st.Table
  lookup : ∀ e slot, st.port = .lookup e slot → slot < 48
  op : ∀ op started, st.supervisor = some { op := op, started := started } → op.Stands st

theorem SupervisorOp.Stands.shrinks {op : SupervisorOp} (hop : op.Stands st) (hsub : ∀ e ∈ st'.index, e ∈ st.index) :
    op.Stands st' := by
  cases op with
  | recipeWrite slot body => exact ⟨hop.1, fun e he => hop.2 e (hsub e he)⟩
  | recipeErase slot => exact hop
  | recipeRead slot => exact hop
  | calibrationWrite => trivial
  | settingsWrite => trivial

/-- An admitted operation stands on the table it was admitted by (R4, R15, R19). -/
theorem SupervisorOp.Admitted.stands {op : SupervisorOp} (hp : st.Table) (hop : op.Admitted st) : op.Stands st := by
  cases op with
  | recipeWrite slot body =>
    refine ⟨hop.1, fun e he hcode => ?_⟩
    rcases hop.2 with hnone | hsome
    · exact absurd hcode ((Store.slotOf_eq_none st).mp hnone e he)
    · have hmem := (Store.slotOf_eq_some st hp.ordered.1).mpr (hcode ▸ he : { code := u16At body 0, slot := e.slot } ∈ st.index)
      exact Option.some.inj (hmem.symm.trans hsome)
  | recipeErase slot => exact hop
  | recipeRead slot => exact hop
  | calibrationWrite => trivial
  | settingsWrite => trivial

theorem Store.storeRecord_table (hp : st.Table) (slot : Nat) (record : List Byte) (w : WriteResult) :
    (st.storeRecord slot record w).Table :=
  hp.congr (by simp [Store.storeRecord]) (by simp [Store.storeRecord]) (by simp [Store.storeRecord])
    (by simp [Store.storeRecord])

theorem Store.storeRecord_index (st : Store) (slot : Nat) (record : List Byte) (w : WriteResult) :
    (st.storeRecord slot record w).index = st.index := by simp [Store.storeRecord]

/-- A recipe write's end leaves the table sound (R14, R9). -/
theorem Store.Table.completeRecipeWrite {body : List Byte} (hp : st.Table)
    (hop : SupervisorOp.Stands st (.recipeWrite slot body)) (w : WriteResult) :
    (st.completeRecipeWrite slot body w).Table := by
  have h1 : ((st.storeRecord slot (storedRecipe (st.nextRevision slot) body) w).setRevision slot (st.nextRevision slot)).Table :=
    (Store.storeRecord_table hp slot _ w).congr rfl rfl rfl (by simp)
  simp only [Store.completeRecipeWrite]
  refine Store.Table.congr (st := if writeOk (storedRecipe (st.nextRevision slot) body) w then _ else _) ?_ rfl rfl rfl rfl
  split
  · refine h1.enter hop.1 fun e he => hop.2 e ?_
    rwa [Store.setRevision_index, Store.storeRecord_index] at he
  · exact h1.drop (by decide) slot

/-- A move of the store keeps the table; a running operation keeps what it stands on. -/
theorem StoreMove.table (m : StoreMove s st) (hp : s.store.SlotsSound) :
    st.Table ∧ ((∀ e ∈ st.index, e ∈ s.store.index) ∨ st.supervisor = none) := by
  obtain ⟨htable, -, hop⟩ := hp
  have same : ∀ {st : Store}, st.index = s.store.index → st.slotStatus = s.store.slotStatus → st.nv = s.store.nv →
      st.lastRevision = s.store.lastRevision → st.Table ∧ ((∀ e ∈ st.index, e ∈ s.store.index) ∨ st.supervisor = none) := by
    intro st e1 e2 e3 e4
    exact ⟨htable.congr e1 e2 (by rw [e3]) (by rw [e4]), .inl fun e he => e1 ▸ he⟩
  cases m with
  | queue | defer | lookup | accept | occupy | erasedAtStart | readAtStart => exact same rfl rfl rfl rfl
  | lookedUp e slot flips =>
    obtain ⟨h1, h2⟩ := htable.readRecipe slot flips
    exact ⟨h1.congr rfl rfl rfl rfl, .inl h2⟩
  | read slot flips =>
    obtain ⟨h1, h2⟩ := htable.readRecipe slot flips
    exact ⟨h1.congr rfl rfl rfl rfl, .inr rfl⟩
  | written slot body w port runs => exact ⟨htable.completeRecipeWrite (hop _ _ runs) w, .inr rfl⟩
  | erased slot =>
    have h1 : (s.store.setCells slot none).Table := htable.congr rfl rfl (by simp) rfl
    exact ⟨(h1.drop (v := .empty) (by decide) slot).congr rfl rfl rfl (by simp [Store.completeErase, Store.finishOp]), .inr rfl⟩
  | calibrated h body w =>
    exact ⟨(Store.storeRecord_table htable (calibrationSlotOf h) body w).congr rfl rfl rfl rfl, .inr rfl⟩
  | settled body w =>
    exact ⟨(Store.storeRecord_table htable Config.settingsSlot body w).congr rfl rfl rfl rfl, .inr rfl⟩

theorem StoreMove.slotsSound (m : StoreMove s st) (hp : s.store.SlotsSound) : st.SlotsSound := by
  obtain ⟨h1, h2⟩ := m.table hp
  refine ⟨h1, fun e slot hport => ?_, fun op started hsup => ?_⟩
  · cases m with
    | queue | defer | accept => exact hp.lookup e slot hport
    | lookup e' slot' idle found =>
      cases hport
      exact hp.table.slot_lt ((Store.slotOf_eq_some _ hp.table.ordered.1).mp found)
    | lookedUp | occupy | erasedAtStart | readAtStart | read | written | erased | calibrated | settled => cases hport
  · rcases h2 with hsub | hnone
    · rcases m.supervisor hsup with ⟨b, e⟩ | ⟨hadm, -⟩
      · exact (hp.op op b e).shrinks hsub
      · exact (hadm.stands hp.table).shrinks hsub
    · rw [hnone] at hsup; cases hsup

/-- Whether the scan has the port is no business of the store's moves. -/
theorem StoreMove.port_scan (m : StoreMove s st) : st.port = .scan ↔ s.store.port = .scan := by
  refine ⟨m.frame.2.2, fun hscan => ?_⟩
  cases m with
  | queue | defer | accept => exact hscan
  | lookup e slot idle | occupy op idle | erasedAtStart slot idle | readAtStart slot idle => rw [idle] at hscan; cases hscan
  | lookedUp e slot flips port | read slot flips port | written slot body w port | erased slot port
  | calibrated h body w port | settled body w port => rw [port] at hscan; cases hscan

/-! ### The scan and reset -/

theorem Store.flipSlots_nv_length (st : Store) (flips : List SlotFlip) : (st.flipSlots flips).nv.length = st.nv.length := by
  unfold Store.flipSlots
  induction flips generalizing st with
  | nil => rfl
  | cons f fs ih => rw [List.foldl_cons, ih, Store.flip_nv_length]

/-- The memory, the recipe slots and the index as the scan of the recipe slots left them. -/
def Store.KeepsTable (st st' : Store) : Prop :=
  st'.nv = st.nv ∧ st'.slotStatus = st.slotStatus ∧ st'.lastRevision = st.lastRevision ∧ st'.index = st.index

theorem Store.keepsTable_countCalibrations (st : Store) (l : List HeadId) :
    st.KeepsTable (l.foldl Store.countCalibration st) := by
  induction l generalizing st with
  | nil => exact ⟨rfl, rfl, rfl, rfl⟩
  | cons h hs ih =>
    obtain ⟨h1, h2, h3, h4⟩ := ih (st.countCalibration h)
    have e : st.KeepsTable (st.countCalibration h) := by
      unfold Store.countCalibration
      split
      · exact ⟨rfl, rfl, rfl, rfl⟩
      · exact ⟨by simp, by simp, by simp, by simp⟩
    exact ⟨h1.trans e.1, h2.trans e.2.1, h3.trans e.2.2.1, h4.trans e.2.2.2⟩

theorem Store.keepsTable_scanSettings (st : Store) : st.KeepsTable st.scanSettings := by
  simp only [Store.scanSettings]
  split
  · exact ⟨rfl, rfl, rfl, rfl⟩
  · split <;> exact ⟨by simp, by simp, by simp, by simp⟩

theorem State.scan_keepsTable (s : State) (flips : List SlotFlip) :
    ((s.store.flipSlots flips).scanTo 48).KeepsTable (s.scan flips).store := by
  obtain ⟨h1, h2, h3, h4⟩ := ((s.store.flipSlots flips).scanTo 48).keepsTable_countCalibrations sixInOrder
  obtain ⟨k1, k2, k3, k4⟩ :=
    Store.keepsTable_scanSettings (sixInOrder.foldl Store.countCalibration ((s.store.flipSlots flips).scanTo 48))
  rw [State.scan_store]
  exact ⟨k1.trans h1, k2.trans h2, k3.trans h3, k4.trans h4⟩

theorem Store.flipSlots_frame (st : Store) (flips : List SlotFlip) :
    (st.flipSlots flips).slotStatus = st.slotStatus ∧ (st.flipSlots flips).lastRevision = st.lastRevision := by
  unfold Store.flipSlots
  induction flips generalizing st with
  | nil => exact ⟨rfl, rfl⟩
  | cons f fs ih => exact ih _

/-- The scan builds a sound table (R22). -/
theorem State.scan_table (s : State) (flips : List SlotFlip) (hp : s.store.Table) : (s.scan flips).store.Table := by
  obtain ⟨e1, e2⟩ := s.store.flipSlots_frame flips
  have hs : (s.store.flipSlots flips).slotStatus.length = 48 := by rw [e1]; exact hp.statuses
  have hr : (s.store.flipSlots flips).lastRevision.length = 48 := by rw [e2]; exact hp.revisions
  have hscan := Store.scanned_scanTo (n := 48) (s.store.flipSlots flips) hs.ge hr.ge
  obtain ⟨k1, k2, k3, k4⟩ := s.scan_keepsTable flips
  have key : ((s.store.flipSlots flips).scanTo 48).Table := by
    refine ⟨hscan.ordered, ?_, hscan.statusLength.trans hs, hscan.revisionLength.trans hr, fun slot => ?_⟩
    · rw [hscan.nv, Store.flipSlots_nv_length]; exact hp.memory
    · by_cases hslot : slot < 48
      · exact hscan.stands slot hslot
      · refine ⟨fun h => ?_, fun ⟨e, he, heq⟩ => absurd (hscan.below e he) (by omega)⟩
        obtain ⟨hlt, -⟩ := List.getElem?_eq_some_iff.mp h
        rw [hscan.statusLength, hs] at hlt
        exact absurd hlt hslot
  exact key.congr k4 k2 (by rw [k1]) (by rw [k3])

theorem State.memoryAfterReset_length (s : State) (left : AbandonedWrite) :
    (s.memoryAfterReset left).length = s.store.nv.length := by
  simp only [State.memoryAfterReset]
  split
  · exact List.length_set
  · exact List.length_set
  · exact List.length_set
  · split
    · exact List.length_set
    · rfl
  · rfl
  · rfl

theorem Store.slotsSound_reset {nv : List (Option (List NvCell))} (hlen : nv.length = 55) (failed : Bool) :
    (Store.reset nv failed).SlotsSound where
  table := by
    refine ⟨⟨.nil, .nil⟩, hlen, List.length_replicate, List.length_replicate, fun slot => ⟨fun h => ?_, nofun⟩⟩
    obtain ⟨hlt, h⟩ := List.getElem?_eq_some_iff.mp h
    simp [Store.reset] at h
  lookup := nofun
  op := nofun

end Sys2Proof.Machine
end

section
/-! PROOFS. Modes and the cycles they let run (O58, second part). -/

namespace Sys2Proof.Machine

variable {s t : State} {h k : HeadId}

/-! ### The invariant taken apart -/

/-- The cycles of a mode (R169, 9.5). -/
def Mode.admits (m : Mode) (dry : Bool) : Prop :=
  ((m = .production ∨ m = .draining) ∧ dry = false) ∨ (m = .service ∧ dry = true)

/-- Every active cycle is one the mode admits. -/
def State.Admitted (s : State) : Prop := ∀ h, s.isActive h = true → s.sup.mode.admits (s.isDry h)

/-- DRAINING has an active cycle; PRODUCTION and DRAINING have no restart flag (R170, R171). -/
def State.ModeSettled (s : State) : Prop :=
  (s.sup.mode = .draining → s.anyActive = true) ∧
    (s.sup.mode = .production ∨ s.sup.mode = .draining → s.sup.restart = false)

/-- STARTING lasts as long as the scan, during which no operation is held (R171). -/
def State.ScanSettled (s : State) : Prop :=
  (s.store.port = .scan ↔ s.sup.mode = .starting) ∧ (s.store.port = .scan → s.store.supervisor = none)

/-- The properties of O58 beside `State.HeadsSound`. -/
structure State.ModesAndSlots (s : State) : Prop where
  admitted : s.Admitted
  settled : s.ModeSettled
  scan : s.ScanSettled
  slots : s.store.SlotsSound

theorem State.modesAndSlots_iff (s : State) : s.ModesAndSlots ↔ s.ModesSound ∧ s.IndexSound := by
  constructor
  · rintro ⟨h1, ⟨h2, h3⟩, ⟨h4, h5⟩, ⟨⟨⟨i1, i2⟩, i3, i4, i5, i6⟩, h7, h8⟩⟩
    exact ⟨⟨h1, h2, h3, h4⟩, i1, i2, i3, i4, i5, h7,
      fun slot started hop => hop.elim (h8 (.recipeErase slot) started) (h8 (.recipeRead slot) started), i6,
      fun hscan => ⟨h4.mp hscan, h5 hscan⟩, fun slot body started hop => h8 (.recipeWrite slot body) started hop⟩
  · rintro ⟨⟨h1, h2, h3, h4⟩, i1, i2, i3, i4, i5, h7, h8, i6, h9, h10⟩
    refine ⟨h1, ⟨h2, h3⟩, ⟨h4, fun hscan => (h9 hscan).2⟩, ⟨⟨i1, i2⟩, i3, i4, i5, i6⟩, h7, fun op started hop => ?_⟩
    cases op with
    | recipeWrite slot body => exact h10 slot body started hop
    | recipeErase slot => exact h8 slot started (.inl hop)
    | recipeRead slot => exact h8 slot started (.inr hop)
    | calibrationWrite => trivial
    | settingsWrite => trivial

/-! ### Activity -/

theorem mem_sixInOrder : ∀ h, h ∈ sixInOrder := by decide

theorem State.anyActive_iff (s : State) : s.anyActive = true ↔ ∃ h, s.isActive h = true := by
  unfold State.anyActive
  rw [List.any_eq_true]
  exact ⟨fun ⟨h, _, ha⟩ => ⟨h, ha⟩, fun ⟨h, ha⟩ => ⟨h, mem_sixInOrder h, ha⟩⟩

theorem State.anyActive_congr (he : ∀ h, t.isActive h = s.isActive h) : t.anyActive = s.anyActive :=
  congrArg sixInOrder.any (funext he)

theorem State.isDry_of_ctx {c : Context} (hc : (s.heads.get h).ctx = some c) : s.isDry h = c.dry := by
  rw [State.isDry_eq, hc]; rfl

/-- A head that goes on active goes on as dry as it was. -/
theorem GoesOn.isDry (hg : GoesOn s t) (hs : s.HeadsSound) (ha : s.isActive k = true) : t.isDry k = s.isDry k := by
  have hne : (s.heads.get k).state ≠ .idle := by
    rcases (State.isActive_iff ..).mp ha with e | e | e <;> simp [e]
  obtain ⟨c, hc⟩ := Option.ne_none_iff_exists'.mp (hs.ctx_ne_none hne)
  obtain ⟨c', hc', -, hdry⟩ := hg.ctx ha hc
  rw [State.isDry_of_ctx hc, State.isDry_of_ctx hc', hdry]

/-- Moves make no head active, and leave an active one as dry as it was. -/
theorem Quiet.active (q : Quiet s t) (hs : s.HeadsSound) (ha : t.isActive k = true) :
    s.isActive k = true ∧ t.isDry k = s.isDry k := by
  rcases q.cases with ⟨h, reason, c, c', hc⟩ | hg
  · rw [hc.isActive, Bool.and_eq_true, decide_eq_true_eq] at ha
    exact ⟨ha.1, by rw [State.isDry_eq, State.isDry_eq, hc.heads.2 k ha.2]⟩
  · rw [hg.active] at ha
    exact ⟨ha, hg.isDry hs ha⟩

theorem Quiets.active (q : Quiets s t) (hs : s.HeadsSound) (ha : t.isActive k = true) :
    s.isActive k = true ∧ t.isDry k = s.isDry k := by
  induction q generalizing k with
  | refl => exact ⟨ha, rfl⟩
  | tail q1 q ih =>
    obtain ⟨h1, h2⟩ := q.active (kept_headsSound.quiets q1 hs) ha
    obtain ⟨h3, h4⟩ := ih h1
    exact ⟨h3, h2.trans h4⟩

/-! ### The moves -/

/-- Where the mode is after a move: as before, or STANDBY with DRAINING done (R170). -/
theorem Closes.sup {reason : Option Reason} {c c' : Context} (hc : Closes s t h reason c c') :
    t.sup = if s.sup.mode = .draining ∧ t.anyActive = false then { s.sup with mode := .standby } else s.sup := by
  have hany : ∀ u : State, u.watchDrain.anyActive = u.anyActive := fun u =>
    State.anyActive_congr fun k => by
      rw [Bool.eq_iff_iff, State.isActive_iff, State.isActive_iff, State.watchDrain_heads]
  rw [hc.state]
  unfold State.closeCycle
  rw [State.watchDrain_sup, hany]
  rw [State.leaveCycle_sup]

theorem Closes.port {reason : Option Reason} {c c' : Context} (hc : Closes s t h reason c c') :
    t.store.port = s.store.port ∧ t.store.supervisor = s.store.supervisor ∧ (s.store.SlotsSound → t.store.SlotsSound) := by
  obtain ⟨q, hq⟩ := s.leaveCycle_store h
  rw [hc.state, State.closeCycle_store, hq]
  exact ⟨rfl, rfl, fun hp => StoreMove.slotsSound (s := s) (.queue q) hp⟩

/-- What a move other than the end of a cycle leaves of the mode and the store. -/
theorem Quiet.sup_store (q : Quiet s t) (hp : s.ScanSettled) (hslots : s.store.SlotsSound) :
    (∃ h reason c c', Closes s t h reason c c') ∨
      (t.sup.mode = s.sup.mode ∧ (t.sup.restart = s.sup.restart ∨ t.sup.restart = false) ∧ t.ScanSettled ∧
        t.store.SlotsSound) := by
  have same : ∀ {t : State}, t.sup = s.sup → t.store = s.store →
      (t.sup.mode = s.sup.mode ∧ (t.sup.restart = s.sup.restart ∨ t.sup.restart = false) ∧ t.ScanSettled ∧
        t.store.SlotsSound) := by
    intro t e1 e2
    unfold State.ScanSettled
    rw [e1, e2]
    exact ⟨rfl, .inl rfl, hp, hslots⟩
  cases q with
  | close h reason c c' active ctx ended => exact .inl ⟨h, reason, c, c', active, ctx, ended, rfl⟩
  | sup u mode restart => exact .inr ⟨mode, restart, by unfold State.ScanSettled; rw [mode]; exact hp, hslots⟩
  | store st m =>
    refine .inr ⟨rfl, .inl rfl, ⟨m.port_scan.trans hp.1, fun hscan => ?_⟩, m.slotsSound hslots⟩
    have hs := m.port_scan.mp hscan
    cases hop : st.supervisor with
    | none => rfl
    | some held =>
      obtain ⟨op, started⟩ := held
      rcases m.supervisor hop with ⟨b, e⟩ | ⟨-, hm⟩
      · rw [hp.2 hs] at e; cases e
      · exact absurd (hp.1.mp hs) hm
  | applyFields k =>
    obtain ⟨h1, h2, h3⟩ := hslots
    refine .inr ⟨by simp, .inl (by simp), ?_, ?_⟩
    · unfold State.ScanSettled
      rw [State.applyFields_sup, State.applyFields_store]
      exact hp
    · rw [State.applyFields_store]
      refine ⟨h1.congr rfl rfl rfl rfl, h2, fun op started hop => (h3 op started hop).shrinks fun e he => he⟩
  | run k c r g v sp heats runs =>
    rw [State.runLoop_of_ctx (State.running_ctx runs)]
    exact .inr (same rfl rfl)
  | advance k c c' r g g2 v sp =>
    rw [State.advance_eq]
    exact .inr (same rfl rfl)
  | expire => exact .inr (same (by simp) (by simp))
  | _ => exact .inr (same rfl rfl)

theorem Quiet.modesAndSlots (q : Quiet s t) (hs : s.HeadsSound) (hp : s.ModesAndSlots) : t.ModesAndSlots := by
  obtain ⟨hadm, ⟨hdrain, hrestart⟩, hscan, hslots⟩ := hp
  rcases q.sup_store hscan hslots with ⟨h, reason, c, c', hc⟩ | ⟨hmode, hflag, hscan', hslots'⟩
  · obtain ⟨hport, hsup, hkeep⟩ := hc.port
    have hactive := fun k => q.active (k := k) hs
    have hsupEq := hc.sup
    split at hsupEq
    · next hd =>
      have hnone : ∀ k, ¬t.isActive k = true := fun k ha =>
        absurd ((State.anyActive_iff t).mpr ⟨k, ha⟩) (by simp [hd.2])
      refine ⟨fun k ha => absurd ha (hnone k), ?_, ⟨?_, fun hs => hsup ▸ hscan.2 (hport ▸ hs)⟩, hkeep hslots⟩
      · rw [State.ModeSettled, hsupEq]; exact ⟨nofun, by simp⟩
      · rw [hport, hscan.1, hsupEq, hd.1]; simp
    · next hd =>
      refine ⟨fun k ha => ?_, ⟨fun hm => ?_, ?_⟩, ⟨?_, fun hs => hsup ▸ hscan.2 (hport ▸ hs)⟩, hkeep hslots⟩
      · rw [hsupEq, (hactive k ha).2]; exact hadm k (hactive k ha).1
      · rw [hsupEq] at hm
        by_contra hany
        exact hd ⟨hm, by simpa using hany⟩
      · rw [hsupEq]; exact hrestart
      · rw [hport, hsupEq]; exact hscan.1
  · refine ⟨fun k ha => ?_, ⟨fun hm => ?_, fun hm => ?_⟩, hscan', hslots'⟩
    · obtain ⟨h1, h2⟩ := q.active hs ha
      rw [hmode, h2]; exact hadm k h1
    · rcases q.cases with ⟨h, reason, c, c', hc⟩ | hg
      · have hsupEq := hc.sup
        by_contra hany
        rw [if_pos ⟨hmode ▸ hm, by simpa using hany⟩] at hsupEq
        rw [hsupEq] at hm
        cases hm
      · rw [State.anyActive_congr hg.active]; exact hdrain (hmode ▸ hm)
    · rcases hflag with e | e
      · rw [e]; exact hrestart (hmode ▸ hm)
      · exact e

/-! ### SET_MODE and CLEAR (R169, R174) -/

/-- The end of a cycle leaves its head inactive. -/
theorem State.endCycle_inactive (hs : s.HeadsSound) (reason : Reason) :
    (s.endCycle h (some reason)).isActive h = false := by
  by_cases ha : s.isActive h = true
  · have hne : (s.heads.get h).state ≠ .idle := by
      rcases (State.isActive_iff ..).mp ha with e | e | e <;> simp [e]
    obtain ⟨c, hc⟩ := Option.ne_none_iff_exists'.mp (hs.ctx_ne_none hne)
    obtain ⟨⟨c', hhead, -⟩, -⟩ := State.endCycle_cycleOver s h reason ha hc
    rw [Bool.eq_false_iff, ne_eq, State.isActive_iff, hhead]
    simp [endState]
  · rw [State.endCycle_of_inactive s h _ (by simpa using ha)]
    simpa using ha

/-- An action on all heads in a free order that ends what is active at each leaves none active. -/
theorem State.forHeads_inactive {f : HeadId → State → State} {I : State → Prop} (moves : ∀ h t, Quiets t (f h t))
    (keeps : ∀ {t u}, Quiets t u → I t → I u) (heads : ∀ {t}, I t → t.HeadsSound)
    (ends : ∀ h t, I t → (f h t).isActive h = false) (hs : I s) (k : HeadId) : (s.forHeads f).isActive k = false := by
  have key : ∀ (l : List HeadId) (t : State), I t → ∀ k ∈ l, (l.foldl (fun t h => f h t) t).isActive k = false := by
    intro l
    induction l with
    | nil => exact fun _ _ _ hk => absurd hk (List.not_mem_nil)
    | cons x xs ih =>
      intro t ht k hk
      have ht' : I (f x t) := keeps (moves x t) ht
      rw [List.foldl_cons]
      rcases List.mem_cons.mp hk with rfl | hk
      · have hrest : Quiets (f k t) (xs.foldl (fun t h => f h t) (f k t)) := by
          clear ih hk ht'
          generalize f k t = u
          induction xs generalizing u with
          | nil => exact .refl
          | cons y ys ih => exact (moves y u).trans (ih (f y u))
        rw [Bool.eq_false_iff]
        intro ha
        exact absurd (hrest.active (heads ht') ha).1 (by simp [ends k t ht])
      · exact ih _ ht' k hk
  exact key _ _ (keeps (quiets_drawFree s) hs) k (State.headOrder_mem s k).1

/-- With no head active, a mode that is not of the scan, and not left by draining alone. -/
theorem State.ModesAndSlots.of_inactive (inactive : ∀ k, t.isActive k = false) (hm : t.sup.mode = .standby)
    (hport : t.store.port ≠ .scan) (slots : t.store.SlotsSound) : t.ModesAndSlots where
  admitted k ha := by rw [inactive k] at ha; cases ha
  settled := by rw [State.ModeSettled, hm]; exact ⟨nofun, by simp⟩
  scan := by rw [State.ScanSettled, hm]; exact ⟨⟨fun e => absurd e hport, nofun⟩, fun e => absurd e hport⟩
  slots := slots

/-- Moves outside STARTING keep the port from the scan, and the slots sound. -/
theorem Quiets.slots (q : Quiets s t) (hport : s.store.port ≠ .scan) (hp : s.store.SlotsSound) :
    t.store.port ≠ .scan ∧ t.store.SlotsSound := by
  induction q with
  | refl => exact ⟨hport, hp⟩
  | @tail u v _ q ih =>
    obtain ⟨h1, h2⟩ := ih
    cases q with
    | store st m => exact ⟨fun e => h1 (m.port_scan.mp e), m.slotsSound h2⟩
    | close h reason c c' active ctx ended =>
      obtain ⟨e1, -, e3⟩ := (Closes.mk active ctx ended rfl : Closes u _ h reason c c').port
      exact ⟨by rw [e1]; exact h1, e3 h2⟩
    | applyFields k =>
      obtain ⟨a1, a2, a3⟩ := h2
      rw [State.applyFields_store]
      exact ⟨h1, a1.congr rfl rfl rfl rfl, a2, fun op started hop => (a3 op started hop).shrinks fun e he => he⟩
    | run k c r g v sp heats runs =>
      rw [State.runLoop_of_ctx (State.running_ctx runs)]
      exact ⟨h1, h2⟩
    | advance k c c' r g g2 v sp =>
      rw [State.advance_eq]
      exact ⟨h1, h2⟩
    | expire => rw [State.expire_store]; exact ⟨h1, h2⟩
    | _ => exact ⟨h1, h2⟩

/-- A change of the mode to one that admits the cycles there are. -/
theorem State.ModesAndSlots.setModeTo {m : Mode} (hp : s.ModesAndSlots) (hs : s.sup.mode ≠ .starting) (hm : m ≠ .starting)
    (admits : ∀ k, s.isActive k = true → m.admits (s.isDry k)) (drains : m = .draining → s.anyActive = true)
    (restart : m = .production ∨ m = .draining → s.sup.restart = false) : (s.setModeTo m).ModesAndSlots := by
  obtain ⟨-, -, ⟨h1, h2⟩, h3⟩ := hp
  exact ⟨admits, ⟨drains, restart⟩, ⟨⟨fun e => absurd (h1.mp e) hs, fun e => absurd e hm⟩, h2⟩, h3⟩

/-- In STANDBY no head is active. -/
theorem State.Admitted.inactive (hp : s.Admitted) (hm : s.sup.mode = .standby) (k : HeadId) : s.isActive k = false := by
  rw [Bool.eq_false_iff]
  intro ha
  have := hp k ha
  rw [hm] at this
  simp [Mode.admits] at this

/-- In PRODUCTION and DRAINING cycles are driven, in SERVICE dry. -/
theorem State.Admitted.dry (hp : s.Admitted) (ha : s.isActive k = true) :
    (s.sup.mode = .service → s.isDry k = true) ∧
      (s.sup.mode = .production ∨ s.sup.mode = .draining → s.isDry k = false) := by
  rcases hp k ha with ⟨h1, h2⟩ | ⟨h1, h2⟩
  · exact ⟨fun e => by simp [e] at h1, fun _ => h2⟩
  · exact ⟨fun _ => h2, fun e => by simp [h1] at e⟩

/-- The invariant of O58. -/
def State.ModesKept (s : State) : Prop := s.HeadsSound ∧ s.ModesAndSlots

theorem Quiet.modesKept (q : Quiet s t) (hp : s.ModesKept) : t.ModesKept := ⟨q.headsSound hp.1, q.modesAndSlots hp.1 hp.2⟩

theorem Quiets.headsSound (q : Quiets s t) (hp : s.HeadsSound) : t.HeadsSound := kept_headsSound.quiets q hp

theorem quiets_endDry (h : HeadId) (t : State) : Quiets t (State.endDry h t) := by
  unfold State.endDry
  split
  · exact quiets_endCycle ..
  · exact .refl

theorem Quiets.standby (q : Quiets s t) (hs : s.sup.mode = .standby) : t.sup.mode = .standby := by
  induction q with
  | refl => exact hs
  | tail _ q ih =>
    rcases q.mode with e | ⟨e, -⟩
    · rw [e, ih]
    · rw [ih] at e; cases e

/-- SERVICE to STANDBY ends every cycle, all of them dry (R65, R169). -/
theorem State.ModesKept.endService (hp : s.ModesKept) (hm : s.sup.mode = .service) :
    ((s.setModeTo .standby).forHeads State.endDry).ModesKept := by
  obtain ⟨hs, hadm, -, hscan, hslots⟩ := hp
  have q : Quiets (s.setModeTo .standby) ((s.setModeTo .standby).forHeads State.endDry) := Quiets.forHeads quiets_endDry _
  have hport : s.store.port ≠ .scan := fun e => by have := hscan.1.mp e; rw [hm] at this; cases this
  have hs' : (s.setModeTo .standby).HeadsSound := hs
  obtain ⟨h1, h2⟩ := q.slots hport hslots
  refine ⟨q.headsSound hs', .of_inactive (fun k => ?_) (q.standby rfl) h1 h2⟩
  refine State.forHeads_inactive (I := fun t => t.HeadsSound ∧ ∀ k, t.isActive k = true → t.isDry k = true) quiets_endDry
    (fun q ht => ⟨q.headsSound ht.1, fun k ha => ?_⟩) (fun ht => ht.1) (fun h t ht => ?_) ⟨hs', fun k ha => ?_⟩ k
  · obtain ⟨h3, h4⟩ := q.active ht.1 ha
    rw [h4]; exact ht.2 k h3
  · unfold State.endDry
    split
    · exact State.endCycle_inactive ht.1 .mode
    · next hd =>
      rw [Bool.eq_false_iff]
      exact fun ha => hd (ht.2 h ha)
  · exact (hadm.dry (s := s) ha).1 hm

/-- CLEAR ends every cycle (R174). -/
theorem State.ModesKept.clear (hp : s.ModesKept) (hm : s.sup.mode ≠ .starting) : s.clear.ModesKept := by
  obtain ⟨hs, -, -, hscan, hslots⟩ := hp
  have q0 : Quiets s { s with links := s.links.map StationLink.clear } :=
    .one (.links _ fun l => by rw [PerSix.get_map]; exact .clear)
  have moves : ∀ h t, Quiets t (State.clearHead h t) := fun h t => quiets_endCycle ..
  have q : Quiets s (State.forHeads { s with links := s.links.map StationLink.clear } State.clearHead) :=
    q0.trans (Quiets.forHeads moves _)
  obtain ⟨h1, h2⟩ := q.slots (fun e => hm (hscan.1.mp e)) hslots
  have hsound := q.headsSound hs
  refine ⟨hsound, .of_inactive (fun k => ?_) rfl h1 h2⟩
  exact State.forHeads_inactive (I := State.HeadsSound) moves (fun q ht => q.headsSound ht) (fun ht => ht)
    (fun h t ht => State.endCycle_inactive ht .cleared) (q0.headsSound hs) k

/-- SET_MODE leaves the modes and their cycles sound (Table 9.3). -/
theorem State.ModesKept.setMode (hp : s.ModesKept) (hs : s.sup.mode ≠ .starting) (p : List Byte) :
    (performSetMode p s).1.ModesKept := by
  have hheads := hp.1
  have hmodes := hp.2
  have hadm := hmodes.admitted
  have kept : ∀ {m : Mode}, (s.setModeTo m).ModesAndSlots → (s.setModeTo m).ModesKept := fun h => ⟨hheads, h⟩
  unfold performSetMode
  split
  · unfold State.toStandby
    split
    · exact hp
    · next hm =>
      simp only [modeSuccess]
      have hdry := fun k ha => (hadm.dry (k := k) ha).2 (.inl hm)
      split
      · next hany =>
        exact kept (hmodes.setModeTo hs (by decide) (fun k ha => .inl ⟨.inr rfl, hdry k ha⟩) (fun _ => hany)
          fun _ => hmodes.settled.2 (.inl hm))
      · next hany =>
        refine kept (hmodes.setModeTo hs (by decide) (fun k ha => ?_) nofun (by simp))
        exact absurd ((State.anyActive_iff s).mpr ⟨k, ha⟩) hany
    · exact hp
    · next hm => exact State.ModesKept.endService ⟨hheads, hmodes⟩ hm
    · exact hp
  · unfold State.toProduction
    split
    · next hm =>
      split
      · exact hp
      · next hflag =>
        exact kept (hmodes.setModeTo hs (by decide) (fun k ha => by rw [hadm.inactive hm k] at ha; cases ha) nofun
          fun _ => by simpa using hflag)
    · exact hp
    · next hm =>
      exact kept (hmodes.setModeTo hs (by decide) (fun k ha => .inl ⟨.inl rfl, (hadm.dry ha).2 (.inr hm)⟩) nofun
        fun _ => hmodes.settled.2 (.inr hm))
    · exact hp
    · exact hp
  · unfold State.toService
    split
    · next hm =>
      exact kept (hmodes.setModeTo hs (by decide) (fun k ha => by rw [hadm.inactive hm k] at ha; cases ha) nofun (by simp))
    · exact hp
    · exact hp
    · exact hp
    · exact hp
  · exact hp

/-! ### Every step -/

theorem State.ModesKept.handOver (hp : s.ModesKept) (hport : s.store.port = .scan) (flips : List SlotFlip) :
    (s.scan flips).handOver.ModesKept := by
  obtain ⟨hs, hadm, -, hscan, hslots⟩ := hp
  have mode : ∀ u : State, u.handOver.sup.mode = .standby := fun _ => rfl
  have port : ∀ u : State, u.handOver.store.port = .idle := fun _ => rfl
  have heads : ∀ u : State, u.handOver.heads = u.heads := fun _ => rfl
  have supervisor : ∀ u : State, u.handOver.store.supervisor = u.store.supervisor := fun _ => rfl
  have table : ∀ u : State, u.store.Table → u.handOver.store.Table := fun u hu => hu.congr rfl rfl rfl rfl
  refine ⟨hs.handOver flips, .of_inactive (fun k => ?_) (mode _) (by rw [port]; exact nofun) ⟨?_, ?_, ?_⟩⟩
  · rw [Bool.eq_false_iff, ne_eq, State.isActive_iff, heads, State.scan_heads, ← State.isActive_iff]
    intro ha
    have := hadm k ha
    rw [hscan.1.mp hport] at this
    simp [Mode.admits] at this
  · exact table _ (s.scan_table flips hslots.table)
  · rw [port]; exact nofun
  · rw [supervisor, State.scan_supervisor, hscan.2 hport]; exact nofun

theorem State.Fresh.modesAndSlots (hf : s.Fresh) (hlen : s.store.nv.length = 55) : s.ModesAndSlots := by
  have hinactive := hf.inactive
  obtain ⟨nv, failed, straps, cabinet, hold, n, q, rfl⟩ := hf
  exact ⟨fun k ha => (by rw [hinactive] at ha; cases ha), ⟨nofun, by simp [State.resetWith, Supervision.reset]⟩,
    ⟨by simp [State.resetWith, Store.reset, Supervision.reset], fun _ => rfl⟩, Store.slotsSound_reset hlen _⟩

theorem kept_modesKept : Kept State.ModesKept where
  quiet := Quiet.modesKept
  store {s st} m hp := by
    obtain ⟨hs, hadm, hset, hscan, hslots⟩ := hp
    refine ⟨hs, hadm, hset, ⟨m.port_scan.trans hscan.1, fun e => ?_⟩, m.slotsSound hslots⟩
    have hport := m.port_scan.mp e
    cases hop : st.supervisor with
    | none => rfl
    | some held =>
      obtain ⟨op, started⟩ := held
      rcases m.supervisor hop with ⟨b, e⟩ | ⟨-, hm⟩
      · rw [hscan.2 hport] at e; cases e
      · exact absurd (hscan.1.mp hport) hm
  line _ hp := ⟨hp.1, hp.2.admitted, hp.2.settled, hp.2.scan, hp.2.slots⟩
  modes p hm hp := ⟨hp.setMode hm p, hp.clear hm⟩
  adopt _ hp := by
    obtain ⟨hs, hadm, hset, hscan, h1, h2, h3⟩ := hp
    exact ⟨hs, hadm, hset, hscan, h1.congr rfl rfl rfl rfl, h2, fun op started hop => (h3 op started hop).shrinks fun e he => he⟩
  scan flips hport hp := hp.handOver hport flips
  reset {s} left straps cabinet hp := ⟨(State.fresh_resetWith ..).headsSound, (State.fresh_resetWith ..).modesAndSlots
    ((s.memoryAfterReset_length left).trans hp.2.slots.table.memory)⟩

theorem State.ModesAndSlots.beginCycle {tr : TraceUnit} {buf : BufferId} {c : Context} (hb : s.Begins h tr buf c)
    (hp : s.ModesAndSlots) : (s.beginCycle h tr buf c).ModesAndSlots := by
  obtain ⟨hadm, hset, hscan, hslots⟩ := hp
  refine ⟨fun k ha => ?_, ⟨fun _ => ?_, hset.2⟩, hscan, hslots⟩
  · have hmode : (s.beginCycle h tr buf c).sup.mode = s.sup.mode := rfl
    by_cases hk : k = h
    · subst hk
      have hdry : (s.beginCycle k tr buf c).isDry k = c.dry := State.isDry_of_ctx (by simp [State.beginCycle])
      rw [hmode, hdry]
      rcases hb.mode with ⟨e1, e2⟩ | ⟨e1, e2⟩
      · exact .inl ⟨.inl e1, e2⟩
      · exact .inr ⟨e1, e2⟩
    · have hheads : (s.beginCycle h tr buf c).heads.get k = s.heads.get k := PerSix.get_modify_other _ _ hk
      rw [State.isActive_iff, hheads, ← State.isActive_iff] at ha
      rw [hmode, State.isDry_eq, hheads, ← State.isDry_eq]
      exact hadm k ha
  · exact (State.anyActive_iff _).mpr ⟨h, by simp [State.isActive_iff, State.beginCycle]⟩

/-- Settles O58: every move keeps the table of slots, and the mode admits the cycles that go on. -/
theorem modesAndIndexStaySound : Obligations.ModesAndIndexStaySound := by
  have key := kept_modesKept.step (fun _ hp => ⟨hp.1, hp.2.admitted, hp.2.settled, hp.2.scan, hp.2.slots⟩) fun hb hp => ⟨hp.1.beginCycle hb, hp.2.beginCycle hb⟩
  intro s t hp hs
  obtain ⟨h1, h2⟩ := key s t ⟨hp.1, (State.modesAndSlots_iff s).mpr hp.2⟩ hs
  exact ⟨h1, (State.modesAndSlots_iff t).mp h2⟩

end Sys2Proof.Machine
end

section
/-! PROOFS. The station links (O57, first part): FIFO, transmit queue and inter-character timer under every change of a link. -/

namespace Sys2Proof.Machine

variable {s t : State} {h : HeadId} {k k' : StationLink}

/-- What `State.LinksSound` asks of one link. -/
structure StationLink.Sound (k : StationLink) : Prop where
  fifo : k.fifoCount ≤ 64
  queue : k.txQueue.length ≤ 8
  timer : k.opened = none ↔ k.interTimer = none
  discards : k.discard = true → k.opened = none

theorem State.linksSound_iff (s : State) : s.LinksSound ↔ ∀ l, (s.links.get l).Sound :=
  ⟨fun hp l => ⟨(hp l).1, (hp l).2.1, (hp l).2.2.1, (hp l).2.2.2⟩,
    fun hp l => ⟨(hp l).fifo, (hp l).queue, (hp l).timer, (hp l).discards⟩⟩

/-- A change that leaves the FIFO, the transmit queue, the timer and discard. -/
theorem StationLink.Sound.congr (hk : k.Sound) (closed : k'.closed = k.closed) (opened : k'.opened = k.opened)
    (timer : k'.interTimer = k.interTimer) (discard : k'.discard = k.discard) (queue : k'.txQueue.length ≤ 8) : k'.Sound := by
  obtain ⟨h1, h2, h3, h4⟩ := hk
  refine ⟨?_, queue, by rw [opened, timer]; exact h3, by rw [opened, discard]; exact h4⟩
  unfold StationLink.fifoCount at h1 ⊢
  rw [closed, opened]
  exact h1

theorem StationLink.Sound.closeUnit (hk : k.Sound) : k.closeUnit.Sound := by
  obtain ⟨h1, h2, h3, h4⟩ := hk
  refine ⟨by rw [StationLink.closeUnit_fifoCount]; exact h1, ?_, ?_, fun _ => StationLink.closeUnit_opened k⟩ <;>
    unfold StationLink.closeUnit <;> split
  · exact h2
  · exact h2
  · next hn => exact h3
  · simp

theorem StationLink.Sound.judgeStored (hk : k.Sound) (n : Nat) : (k.judgeStored n).Sound := by
  unfold StationLink.judgeStored
  split
  · exact hk.congr rfl rfl rfl rfl hk.queue
  · exact hk

theorem StationLink.Sound.judgeTaken (hk : k.Sound) (n : Nat) : (k.judgeTaken n).Sound := by
  unfold StationLink.judgeTaken
  split
  · exact hk.congr rfl rfl rfl rfl hk.queue
  · exact hk

theorem StationLink.not_fifoFull (hf : k.fifoFull = false) : k.fifoCount + 1 ≤ 64 := by
  exact Nat.lt_of_not_le (of_decide_eq_false hf)

/-- A lead that finds room (R124 case 4). -/
theorem StationLink.Sound.storeLead (hk : k.Sound) (room : k.fifoFull = false) (discard : k.discard = false) (set : Settings)
    (c : Character) : (k.storeLead set c).Sound := by
  have hroom := StationLink.not_fifoFull room
  have hcount : k.fifoCount = (k.closeUnit.closed.map List.length).sum := by
    rw [← StationLink.closeUnit_fifoCount]
    simp [StationLink.fifoCount]
  have hd : k.closeUnit.discard = false := by rw [← discard]; unfold StationLink.closeUnit; split <;> rfl
  have h1 : StationLink.Sound { k.closeUnit with opened := some [fifoCharOf c], interTimer := some (gapTimer set) } := by
    refine ⟨?_, hk.closeUnit.queue, by simp, fun e => by simp [hd] at e⟩
    simp only [StationLink.fifoCount, List.length_singleton]
    omega
  exact h1.judgeStored _

/-- A character that joins the unit in reception (R124 case 5). -/
theorem StationLink.Sound.storeOther {u : List FifoChar} (hk : k.Sound) (room : k.fifoFull = false)
    (discard : k.discard = false) (opened : k.opened = some u) (set : Settings) (c : Character) :
    (k.storeOther set u c).Sound := by
  have hroom := StationLink.not_fifoFull room
  have hcount : k.fifoCount = (k.closed.map List.length).sum + u.length := by
    rw [StationLink.fifoCount, opened]
  have h1 : StationLink.Sound { k with opened := some (u ++ [fifoCharOf c]), interTimer := some (gapTimer set) } := by
    refine ⟨?_, hk.queue, by simp, fun e => by rw [discard] at e; cases e⟩
    simp only [StationLink.fifoCount, List.length_append, List.length_singleton]
    omega
  unfold StationLink.storeOther
  refine StationLink.Sound.judgeStored ?_ _
  split
  · exact h1.closeUnit
  · exact h1

/-- An overrun tags and closes, so that nothing is in reception in discard (R128). -/
theorem StationLink.Sound.overrun (hk : k.Sound) : k.overrun.Sound := by
  have tagged : ∀ u, (tagLast u).length = u.length := fun u => List.length_modify ..
  have h1 : (match k.opened with
      | some u => { k with opened := some (tagLast u) }
      | none => { k with closed := k.closed.modify (k.closed.length - 1) tagLast } : StationLink).Sound := by
    obtain ⟨a1, a2, a3, a4⟩ := hk
    split
    · next u hu =>
      refine ⟨?_, a2, ?_, fun e => by rw [a4 e] at hu; cases hu⟩
      · simpa [StationLink.fifoCount, hu, tagged] using a1
      · simpa [hu] using a3
    · next hn =>
      refine ⟨?_, a2, a3, a4⟩
      have hsum : ((k.closed.modify (k.closed.length - 1) tagLast).map List.length) = k.closed.map List.length := by
        refine List.ext_getElem? fun i => ?_
        rw [List.getElem?_map, List.getElem?_map, List.getElem?_modify]
        cases k.closed[i]? with
        | none => rfl
        | some u => simp only [Option.map_eq_map, Option.map_some]; split <;> simp [tagged]
      simpa [StationLink.fifoCount, hsum] using a1
  unfold StationLink.overrun
  obtain ⟨b1, b2, b3, -⟩ := h1.closeUnit
  exact ⟨b1, b2, b3, fun _ => StationLink.closeUnit_opened _⟩

theorem StationLink.Sound.receive (hk : k.Sound) (set : Settings) (c : Character) : (k.receive set c).Sound := by
  unfold StationLink.receive
  split
  · next hd =>
    split
    · next hroom =>
      rw [Bool.and_eq_true, Bool.not_eq_true'] at hroom
      exact StationLink.Sound.storeLead (k := { k with discard := false })
        ⟨hk.fifo, hk.queue, hk.timer, fun e => by cases e⟩ hroom.2 rfl set c
    · exact hk
  · next hd =>
    have hd : k.discard = false := by simpa using hd
    split
    · exact hk.overrun
    · next hf =>
      have hf : k.fifoFull = false := by simpa using hf
      split
      · exact hk.storeLead hf hd set c
      · split
        · next u hu => exact hk.storeOther hf hd hu set c
        · exact hk

theorem StationLink.Sound.kick (hk : k.Sound) : k.kick.Sound := by
  unfold StationLink.kick
  split
  · exact hk.congr rfl rfl rfl rfl hk.queue
  · exact hk

theorem StationLink.fifoCount_drop (k : StationLink) : { k with closed := k.closed.drop 1 }.fifoCount ≤ k.fifoCount := by
  unfold StationLink.fifoCount
  cases k.closed with
  | nil => exact le_refl _
  | cons u us => simp only [List.drop_succ_cons, List.drop_zero, List.map_cons, List.sum_cons]; omega

/-- Every change of a link keeps it sound. -/
theorem LinkMove.sound (m : LinkMove k k') (hk : k.Sound) : k'.Sound := by
  obtain ⟨h1, h2, h3, h4⟩ := hk
  have hk : k.Sound := ⟨h1, h2, h3, h4⟩
  cases m with
  | same => exact hk
  | spoiled b => exact hk.congr rfl rfl rfl rfl h2
  | receive set c => exact hk.receive set c
  | closeUnit => exact hk.closeUnit
  | gap =>
    obtain ⟨b1, b2, b3, b4⟩ := hk.closeUnit
    exact ⟨b1, b2, by simp, b4⟩
  | take low =>
    exact StationLink.Sound.judgeTaken ⟨(StationLink.fifoCount_drop k).trans h1, h2, h3, h4⟩ low
  | place f room =>
    refine StationLink.Sound.kick (k := { k with txQueue := k.txQueue ++ [f] }) (hk.congr rfl rfl rfl rfl ?_)
    simp only [List.length_append, List.length_singleton]
    omega
  | sent =>
    refine StationLink.Sound.kick (hk.congr rfl rfl rfl rfl ?_)
    simp only [List.length_drop]
    omega
  | hold asserted position =>
    unfold StationLink.setHold
    simp only
    split
    · exact hk.congr rfl rfl rfl rfl h2
    · split
      · exact hk.congr rfl rfl rfl rfl h2
      · exact StationLink.Sound.kick (hk.congr rfl rfl rfl rfl h2)
  | clear => exact ⟨Nat.zero_le _, Nat.zero_le _, by simp [StationLink.clear], fun _ => rfl⟩
  | rejudge high low =>
    unfold StationLink.rejudgeHold
    split
    · exact hk.congr rfl rfl rfl rfl h2
    · split
      · exact hk.congr rfl rfl rfl rfl h2
      · exact hk

end Sys2Proof.Machine
end

section
/-! PROOFS. The line link (O57, second part): who drives the line, and what reply is owed, through every command. -/

namespace Sys2Proof.Machine

variable {s t : State} {h : HeadId} {l : LinkId} {k : LineLink} {reading : Prop}

/-! ### The link -/

/-- What `State.LineSound` asks of the link, `reading` telling whether a recipe read is held (R163). -/
structure LineLink.Sound (k : LineLink) (reading : Prop) : Prop where
  drives : k.txEnable = true ↔ k.reply = .sending
  clean : k.txEnable = true → k.spoiled = false
  listens : k.strap = 0 → k.reply = .none
  forming : k.reply = .forming ↔ reading
  waits : k.reply = .waiting → k.turnaround ≠ none
  frame : k.replyFrame = none ↔ k.reply = .none ∨ k.reply = .forming
  receives : k.rx = none ↔ k.frameTimer = none

theorem State.lineSound_iff (s : State) : s.LineSound ↔ s.line.Sound s.store.Reading :=
  ⟨fun ⟨h1, h2, h3, h4, h5, h6, h7⟩ => ⟨h1, h2, h3, h4, h5, h6, h7⟩,
    fun ⟨h1, h2, h3, h4, h5, h6, h7⟩ => ⟨h1, h2, h3, h4, h5, h6, h7⟩⟩

theorem LineLink.Sound.iff {q : Prop} (hk : k.Sound reading) (h : q ↔ reading) : k.Sound q :=
  ⟨hk.drives, hk.clean, hk.listens, hk.forming.trans h.symm, hk.waits, hk.frame, hk.receives⟩

/-- A reply is sent: the line is driven, and the receiver takes nothing (R159, R163). -/
theorem LineLink.sound_send {r : LineReply} (hr : k.replyFrame = some r) (hs : k.strap ≠ 0) (hread : ¬reading)
    (hrx : k.rx = none ↔ k.frameTimer = none) : k.send.Sound reading :=
  ⟨by simp [LineLink.send], fun _ => rfl, fun e => absurd e hs, ⟨nofun, fun e => absurd e hread⟩, nofun,
    by simp [LineLink.send, hr], hrx⟩

/-- A FORMING reply is formed (R163). -/
theorem LineLink.Sound.form (hk : k.Sound True) (r : LineReply) : (k.form r).Sound False := by
  have hforming := hk.forming.mpr trivial
  have hs : k.strap ≠ 0 := fun e => by rw [hk.listens e] at hforming; cases hforming
  have hquiet : k.txEnable = false := by
    rw [Bool.eq_false_iff]; exact fun e => by rw [hk.drives.mp e] at hforming; cases hforming
  unfold LineLink.form
  split
  · next t ht =>
    exact ⟨by simp [hquiet], fun e => by simp [hquiet] at e, fun e => absurd e hs, ⟨nofun, nofun⟩,
      fun _ => by simp [ht], by simp, hk.receives⟩
  · exact LineLink.sound_send rfl hs not_false hk.receives

/-- A command is taken on a link that owes nothing (R163). -/
theorem LineLink.Sound.owe (hk : k.Sound reading) (hr : k.reply = .none) (hs : k.strap ≠ 0) (t : Option CharTimer) :
    LineLink.Sound { k with reply := .forming, turnaround := t } True := by
  have hquiet : k.txEnable = false := by
    rw [Bool.eq_false_iff]; exact fun e => by rw [hk.drives.mp e] at hr; cases hr
  refine ⟨by simp [hquiet], fun e => by simp [hquiet] at e, fun e => absurd e hs, by simp, nofun, ?_, hk.receives⟩
  have := hk.frame.mpr (.inl hr)
  simp [this]

theorem LineLink.Sound.receive (hk : k.Sound reading) {x : Option (List Byte)} {t : Option CharTimer}
    (hx : x = none ↔ t = none) : LineLink.Sound { k with rx := x, frameTimer := t } reading :=
  ⟨hk.drives, hk.clean, hk.listens, hk.forming, hk.waits, hk.frame, hx⟩

theorem LineLink.Sound.dropFrame (hk : k.Sound reading) : k.dropFrame.Sound reading := hk.receive ⟨fun _ => rfl, fun _ => rfl⟩

theorem LineLink.Sound.spoiled (hk : k.Sound reading) {b : Bool} (hb : k.txEnable = true → b = false) :
    LineLink.Sound { k with spoiled := b } reading :=
  ⟨hk.drives, hb, hk.listens, hk.forming, hk.waits, hk.frame, hk.receives⟩

theorem LineLink.Sound.turnaroundUp (hk : k.Sound reading) : k.turnaroundUp.Sound reading := by
  unfold LineLink.turnaroundUp
  split
  · next hw =>
    obtain ⟨r, hr⟩ : ∃ r, k.replyFrame = some r :=
      Option.ne_none_iff_exists'.mp fun e => by have := hk.frame.mp e; simp [hw] at this
    have hs : k.strap ≠ 0 := fun e => by rw [hk.listens e] at hw; cases hw
    have hread : ¬reading := fun e => by rw [hk.forming.mpr e] at hw; cases hw
    exact LineLink.sound_send hr hs hread hk.receives
  · next hw => exact ⟨hk.drives, hk.clean, hk.listens, hk.forming, fun e => absurd e hw, hk.frame, hk.receives⟩

/-- The end of a reply (R163). -/
theorem LineLink.Sound.replySent (hk : k.Sound reading) (hr : k.reply = .sending) :
    LineLink.Sound { k with reply := .none, replyFrame := none, txEnable := false } reading := by
  have hread : ¬reading := fun e => by rw [hk.forming.mpr e] at hr; cases hr
  exact ⟨by simp, nofun, fun _ => rfl, ⟨nofun, fun e => absurd e hread⟩, nofun, by simp, hk.receives⟩

/-! ### What leaves the line and the reply it owes -/

/-- The line as it was, and a recipe read held or not as before. -/
def State.SameLine (s t : State) : Prop := t.line = s.line ∧ (t.store.Reading ↔ s.store.Reading)

theorem State.SameLine.lineSound (hst : s.SameLine t) (hp : s.LineSound) : t.LineSound := by
  obtain ⟨h1, h2⟩ := hst
  obtain ⟨a1, a2, a3, a4, a5, a6, a7⟩ := (State.lineSound_iff s).mp hp
  rw [State.lineSound_iff, h1]
  exact ⟨a1, a2, a3, a4.trans h2.symm, a5, a6, a7⟩

theorem State.LineSound.same (hp : s.LineSound) (line : t.line = s.line) (reading : t.store.Reading ↔ s.store.Reading) :
    t.LineSound := State.SameLine.lineSound ⟨line, reading⟩ hp

theorem Quiet.sameLine (q : Quiet s t) : s.SameLine t := by
  cases q with
  | store st m reading => exact ⟨rfl, reading⟩
  | applyFields k => exact ⟨by simp, by simp [Store.Reading]⟩
  | run k c r g v sp heats runs => rw [State.runLoop_of_ctx (State.running_ctx runs)]; exact ⟨rfl, Iff.rfl⟩
  | advance k c c' r g g2 v sp => rw [State.advance_eq]; exact ⟨rfl, Iff.rfl⟩
  | close k reason c c' =>
    obtain ⟨q, hq⟩ := s.leaveCycle_store k
    exact ⟨by simp, by simp [Store.Reading, hq]⟩
  | expire => exact ⟨by simp, by simp⟩
  | _ => exact ⟨rfl, Iff.rfl⟩

theorem Quiets.sameLine (q : Quiets s t) : s.SameLine t := by
  induction q with
  | refl => exact ⟨rfl, Iff.rfl⟩
  | tail _ q ih =>
    obtain ⟨h1, h2⟩ := q.sameLine
    exact ⟨h1.trans ih.1, h2.trans ih.2⟩

theorem Quiets.lineSound (q : Quiets s t) (hp : s.LineSound) : t.LineSound := q.sameLine.lineSound hp

/-! ### Commands performed and answered -/

/-- A reply formed while a command is FORMING and no recipe read is held. -/
theorem State.lineSound_formReply (hp : s.line.Sound True) (hr : ¬s.store.Reading) (r : LineReply) :
    (s.formReply r).LineSound := by
  unfold State.formReply
  rw [if_pos (hp.forming.mpr trivial), State.lineSound_iff]
  exact (hp.form r).iff (iff_false_intro hr)

/-- The end of a recipe read is the reply it owes (R19). -/
theorem State.lineSound_readDone {st : Store} (hp : s.LineSound) (hr : s.store.Reading) (hst : st.supervisor = none)
    (r : LineReply) : (State.formReply { s with store := st } r).LineSound := by
  refine State.lineSound_formReply (s := { s with store := st }) ?_ (by simp [Store.Reading, hst]) r
  exact ((State.lineSound_iff s).mp hp).iff (by simpa using hr)

/-- A recipe read starts, or completes at its start (R19). -/
theorem State.lineSound_startRead {slot : Nat} (hp : s.LineSound)
    (waits : s.store.supervisor = some { op := .recipeRead slot, started := false }) :
    (s.startSupervisor (.recipeRead slot)).LineSound := by
  have hr : s.store.Reading := ⟨slot, false, waits⟩
  unfold State.startSupervisor
  simp only
  split
  · exact State.lineSound_readDone hp hr rfl _
  · exact State.lineSound_readDone hp hr rfl _
  · exact hp.same rfl ⟨fun _ => hr, fun _ => ⟨slot, true, rfl⟩⟩

theorem State.lineSound_startSupervisor {op : SupervisorOp} (hp : s.LineSound) (idle : s.store.port = .idle)
    (waits : s.store.supervisor = some { op := op, started := false }) : (s.startSupervisor op).LineSound := by
  by_cases hop : ∃ slot, op = .recipeRead slot
  · obtain ⟨slot, rfl⟩ := hop
    exact State.lineSound_startRead hp waits
  · exact (quiets_startSupervisor idle waits fun slot e => hop ⟨slot, e⟩).lineSound hp

/-- SET_MODE and CLEAR leave the line. -/
theorem sameLine_modes (p : List Byte) (hs : s.sup.mode ≠ .starting) :
    s.SameLine (performSetMode p s).1 ∧ s.SameLine (performClear p s).1 := by
  refine modes_of_setModeTo (P := fun t => s.SameLine t) (fun q hp => ?_) (fun _ _ _ hp => hp) p hs ⟨rfl, Iff.rfl⟩
  obtain ⟨h1, h2⟩ := q.sameLine
  exact ⟨h1.trans hp.1, h2.trans hp.2⟩

theorem setMode_not_forming (p : List Byte) (s : State) : (performSetMode p s).2 ≠ .forming := by
  unfold performSetMode
  split
  · unfold State.toStandby; split <;> simp [modeSuccess, State.refuseMode]
  · unfold State.toProduction
    split
    · split <;> simp [modeSuccess, State.refuseMode]
    all_goals simp [modeSuccess, State.refuseMode]
  · unfold State.toService; split <;> simp [modeSuccess, State.refuseMode]
  · simp [invalid]

/-- Every command but READ_RECIPE leaves the line and comes to a reply at once. -/
theorem perform_sameLine {c : CommandKind} (p : List Byte) (hc : c ≠ .readRecipe)
    (started : s.sup.mode ≠ .starting ∨ c.inStarting = true) :
    s.SameLine (c.perform p s).1 ∧ (c.perform p s).2 ≠ .forming := by
  by_cases h1 : c = .setMode
  · subst h1
    exact ⟨(sameLine_modes p (started.resolve_right (by decide))).1, setMode_not_forming p s⟩
  by_cases h2 : c = .clear
  · subst h2
    exact ⟨(sameLine_modes p (started.resolve_right (by decide))).2, by simp [CommandKind.perform, performClear, modeSuccess]⟩
  obtain ⟨q, hout⟩ := quiets_perform p ⟨h1, h2, hc⟩ started
  exact ⟨q.sameLine, hout⟩

/-- What is concluded at once forms the reply. -/
theorem lineSound_conclude {kind : Byte} {r : State × CommandOutcome} (hp : r.1.line.Sound True) (hr : ¬r.1.store.Reading)
    (hout : r.2 ≠ .forming) : (concludeCommand kind r).LineSound := by
  unfold concludeCommand
  split
  · exact State.lineSound_formReply hp hr _
  · exact State.lineSound_formReply hp hr _
  · next e => exact absurd e hout

/-- READ_RECIPE taken: refused at once, or its read holds the slot while the reply is FORMING (R19). -/
theorem lineSound_readRecipe (p : List Byte) (kind : Byte) (hp : s.line.Sound True) (hr : ¬s.store.Reading) :
    (concludeCommand kind (performReadRecipe p s)).LineSound := by
  unfold performReadRecipe
  simp only
  split
  · exact lineSound_conclude (r := s.refuseBusy) hp hr (by simp [State.refuseBusy])
  · split
    · exact lineSound_conclude (r := (s, invalid 255)) hp hr (by simp [invalid])
    · have held : (s.modStore fun st => { st with
          supervisor := some { op := .recipeRead (byteAt p 0), started := false } }).LineSound :=
        (State.lineSound_iff _).mpr (hp.iff (iff_true_intro ⟨_, false, rfl⟩))
      have e : concludeCommand kind (s.acceptOp (.recipeRead (byteAt p 0)), .forming) =
        s.acceptOp (.recipeRead (byteAt p 0)) := rfl
      rw [e, State.acceptOp_eq]
      simp only
      split
      · exact State.lineSound_startRead held rfl
      · exact held

/-- A command taken on a link that owes nothing. -/
theorem lineSound_takeCommand (c : CommandKind) (p : List Byte) (hp : s.LineSound) (hreply : s.line.reply = .none)
    (hs : s.line.strap ≠ 0) : (takeCommand c c.perform p s).LineSound := by
  have hk := (State.lineSound_iff s).mp hp
  have hr : ¬s.store.Reading := fun e => by rw [hk.forming.mpr e] at hreply; cases hreply
  have howe : s.owe.line.Sound True := hk.owe hreply hs _
  unfold takeCommand
  split
  · exact lineSound_conclude (r := (s.owe, _)) howe hr (by simp)
  · next hg =>
    by_cases hc : c = .readRecipe
    · subst hc
      exact lineSound_readRecipe (s := s.owe) p _ howe hr
    · obtain ⟨⟨e1, e2⟩, hout⟩ := perform_sameLine (s := s.owe) p hc (started_of_gate hg)
      exact lineSound_conclude (by rw [e1]; exact howe) (fun e => hr (e2.mp e)) hout

theorem State.lineSound_line {k : LineLink} (hk : k.Sound s.store.Reading) : State.LineSound { s with line := k } :=
  (State.lineSound_iff _).mpr hk

theorem State.lineSound_dropFrame (hp : s.LineSound) : (s.modLine LineLink.dropFrame).LineSound :=
  State.lineSound_line ((State.lineSound_iff s).mp hp).dropFrame

theorem State.lineSound_routeFrame (hp : s.LineSound) (address : Nat) (kind : Byte) (p : List Byte) :
    (s.routeFrame address kind p).LineSound := by
  unfold State.routeFrame
  split
  · exact (quiets_snoop ..).lineSound hp
  · split
    · next hs =>
      unfold State.commandFrame
      split
      · next hreply =>
        split
        · exact lineSound_takeCommand _ p hp hreply hs.1
        · have hk := (State.lineSound_iff s).mp hp
          have hr : ¬s.store.Reading := fun e => by rw [hk.forming.mpr e] at hreply; cases hreply
          exact lineSound_conclude (r := (s.owe, _)) (hk.owe hreply hs.1 _) hr (by simp)
      · exact hp
    · exact hp

theorem State.lineSound_loseFrame (hp : s.LineSound) : (s.modLine LineLink.loseFrame).LineSound :=
  State.lineSound_line (LineLink.Sound.spoiled ((State.lineSound_iff s).mp hp).dropFrame fun _ => rfl)

theorem State.lineSound_wholeFrame (hp : s.LineSound) (address : Nat) (kind : Byte) (p : List Byte) :
    (s.wholeFrame address kind p).LineSound := by
  unfold State.wholeFrame
  split
  · exact hp
  · split
    · exact State.lineSound_loseFrame hp
    · exact State.lineSound_routeFrame (State.lineSound_dropFrame hp) _ _ _

theorem State.lineSound_supervisorFrame (hp : s.LineSound) (c : CommandKind) (p : List Byte) :
    (s.supervisorFrame c c.perform p).LineSound := by
  unfold State.supervisorFrame
  split
  · exact hp
  · split
    · exact State.lineSound_loseFrame hp
    · simp only
      split
      · exact State.lineSound_dropFrame hp
      · next hs =>
        split
        · next hreply => exact lineSound_takeCommand c p (State.lineSound_dropFrame hp) hreply hs
        · exact State.lineSound_dropFrame hp

theorem State.lineSound_lineCharacter (hp : s.LineSound) (c : Character) : (s.lineCharacter c).LineSound := by
  have h1 : (s.modLine fun k => { k with spoiled := false }).LineSound :=
    State.lineSound_line (((State.lineSound_iff s).mp hp).spoiled fun _ => rfl)
  have receive : ∀ (cs : List Byte) (t : CharTimer), (State.modLine (s.modLine fun k => { k with spoiled := false })
      fun k => { k with rx := some cs, frameTimer := some t }).LineSound := fun cs t =>
    State.lineSound_line (((State.lineSound_iff _).mp h1).receive (by simp))
  unfold State.lineCharacter State.takeLineCharacter
  split
  · exact State.lineSound_dropFrame h1
  · split
    · exact receive _ _
    · split
      · unfold State.storeLine
        split
        · exact State.lineSound_dropFrame h1
        · split
          · unfold State.completeLine
            split
            · exact State.lineSound_routeFrame (State.lineSound_dropFrame h1) _ _ _
            · exact State.lineSound_dropFrame h1
          · exact receive _ _
      · exact h1

/-! ### The store's completions -/

/-- A change of the store that holds no recipe read before or after. -/
theorem State.lineSound_store {st : Store} (hp : s.LineSound) (before : ¬s.store.Reading) (after : ¬st.Reading) :
    State.LineSound { s with store := st } :=
  hp.same rfl (iff_of_false after before)

theorem lineSound_settingsWriteComplete {w : SettingsCompletion} (hs : execSettingsWriteComplete w s = .next t)
    (hp : s.LineSound) : t.LineSound := by
  by_cases ho : ∃ body, s.runningOp = some (.settingsWrite body)
  · obtain ⟨body, ho⟩ := ho
    obtain ⟨-, hsup⟩ := State.runningOp_eq ho
    have hbefore : ¬s.store.Reading := by simp [Store.Reading, hsup]
    rw [execSettingsWriteComplete_eq ho] at hs
    obtain rfl := Host.Outcome.next.inj hs
    have hafter : ∀ st : Store, ¬(st.settleSettings body w.held).Reading := fun st => by
      simp [Store.Reading, Store.settleSettings, Store.finishOp]
    split
    · rw [State.putInForce_eq]
      have hk := (State.lineSound_iff s).mp hp
      have hspoil : (s.line.spoil w.onLine).Sound s.store.Reading := hk.spoiled fun e => by simp [e, hk.clean e]
      refine State.forHeadsInOrder_keeps _ State.LineSound _ (fun h u hu => ?_)
        ((State.lineSound_iff _).mpr (hspoil.iff (iff_of_false (hafter _) hbefore)))
      unfold State.settleFields
      split
      · next hidle => exact (Quiets.one (.applyFields h hidle)).lineSound hu
      · exact hu.same rfl Iff.rfl
    · exact State.lineSound_store hp hbefore (hafter _)
  · unfold execSettingsWriteComplete at hs
    split at hs
    · next body hb => exact absurd ⟨body, hb⟩ ho
    · cases hs; exact hp

theorem lineSound_recipeReadComplete {flips : List CellFlip} (hs : execRecipeReadComplete flips s = .next t)
    (hp : s.LineSound) : t.LineSound := by
  unfold execRecipeReadComplete at hs
  split at hs
  · next slot ho =>
    cases hs
    obtain ⟨-, hsup⟩ := State.runningOp_eq ho
    exact State.lineSound_readDone hp ⟨slot, true, hsup⟩ rfl _
  · cases hs; exact hp

theorem lineSound_storePortStart (hs : execStorePortStart s = .next t) (hp : s.LineSound) : t.LineSound := by
  unfold execStorePortStart at hs
  split at hs
  · next hidle =>
    split at hs
    · next e rest hq =>
      cases hs
      have hq : (s.modStore fun st => { st with queue := rest }).LineSound := hp.same rfl Iff.rfl
      exact (quiets_startLookup (s := s.modStore fun st => { st with queue := rest }) e hidle).lineSound hq
    · split at hs
      · next op hw => cases hs; exact State.lineSound_startSupervisor hp hidle hw
      · cases hs; exact hp
      · cases hs; exact hp
  · cases hs; exact hp

theorem lineSound_startUpScanComplete {flips : List SlotFlip} (hs : execStartUpScanComplete flips s = .next t)
    (hp : s.LineSound) : t.LineSound := by
  unfold execStartUpScanComplete at hs
  split at hs
  · obtain rfl := Host.Outcome.next.inj hs
    have line : ∀ u : State, u.handOver.line = u.line := fun _ => rfl
    have supervisor : ∀ u : State, u.handOver.store.supervisor = u.store.supervisor := fun _ => rfl
    refine hp.same (by rw [line, State.scan_line]) ?_
    unfold Store.Reading
    rw [supervisor, State.scan_supervisor]
  · cases hs; exact hp

/-! ### Every command, and every step -/

theorem State.Fresh.lineSound (hf : s.Fresh) : s.LineSound := by
  obtain ⟨nv, failed, straps, cabinet, hold, n, q, rfl⟩ := hf
  exact ⟨by simp [State.resetWith, LineLink.reset], nofun, fun _ => rfl,
    by simp [State.resetWith, LineLink.reset, Store.reset], nofun, by simp [State.resetWith, LineLink.reset],
    by simp [State.resetWith, LineLink.reset]⟩

theorem lineSound_exec {i : Instr} (hns : ∀ l, i ≠ .start l) (hs : exec i s = .next t) (hp : s.LineSound) :
    t.LineSound := by
  have frame : ∀ c p, exec (CommandKind.instr c p) s = .next t → t.LineSound := fun c p hs => by
    rw [exec_instr] at hs; exact Host.Outcome.next.inj hs ▸ State.lineSound_supervisorFrame hp c p
  have hk := (State.lineSound_iff s).mp hp
  cases i with
  | start l => exact absurd rfl (hns l)
  | reset straps cabinet left =>
    obtain rfl := Host.Outcome.next.inj hs
    exact (State.fresh_resetWith ..).lineSound
  | startUpScanComplete flips => exact lineSound_startUpScanComplete hs hp
  | settingsWriteComplete w => exact lineSound_settingsWriteComplete hs hp
  | recipeReadComplete flips => exact lineSound_recipeReadComplete hs hp
  | storePortStart => exact lineSound_storePortStart hs hp
  | frameTimerExpiry =>
    simp only [exec, execFrameTimerExpiry] at hs
    split at hs
    · cases hs; exact hp
    · cases hs; exact State.lineSound_dropFrame hp
  | index serial => cases hs; exact State.lineSound_wholeFrame hp _ _ _
  | turnaroundExpiry =>
    simp only [exec, execTurnaroundExpiry] at hs
    split at hs
    · cases hs; exact hp
    · cases hs; exact State.lineSound_line hk.turnaroundUp
  | replySent =>
    simp only [exec, execReplySent] at hs
    split at hs
    · next hr => cases hs; exact State.lineSound_line (hk.replySent hr)
    · cases hs; exact hp
  | status p => exact frame .status p hs
  | setBudget p => exact frame .setBudget p hs
  | setMode p => exact frame .setMode p hs
  | ackRestart p => exact frame .ackRestart p hs
  | headEnable p => exact frame .headEnable p hs
  | clear p => exact frame .clear p hs
  | readHead p => exact frame .readHead p hs
  | readRecipe p => exact frame .readRecipe p hs
  | listCodes p => exact frame .listCodes p hs
  | readCal p => exact frame .readCal p hs
  | readSettings p => exact frame .readSettings p hs
  | writeRecipe p => exact frame .writeRecipe p hs
  | eraseRecipe p => exact frame .eraseRecipe p hs
  | writeCal p => exact frame .writeCal p hs
  | writeSettings p => exact frame .writeSettings p hs
  | traceInfo p => exact frame .traceInfo p hs
  | readTrace p => exact frame .readTrace p hs
  | releaseTrace p => exact frame .releaseTrace p hs
  | flushTrace p => exact frame .flushTrace p hs
  | loadReplay p => exact frame .loadReplay p hs
  | lineCharacter c =>
    simp only [exec, execLineCharacter] at hs
    split at hs
    · cases hs; exact State.lineSound_lineCharacter hp _
    · cases hs; exact hp
  | unknownKind kind p => cases hs; exact State.lineSound_wholeFrame hp _ _ _
  | _ => exact (quiets_exec (by rfl) hs).lineSound hp

theorem lineSound_step : StepKeeps State.LineSound := by
  intro s t hp hs
  unfold step at hs
  split at hs
  · cases hs; exact hp
  · next i rest _ =>
    have hp' : State.LineSound { s with pending := rest } := hp
    by_cases hl : ∃ l, i = .start l
    · obtain ⟨l, rfl⟩ := hl
      rcases execStart_cases hs with q | ⟨u, h, tr, buf, c, q1, hb, q2⟩
      · exact q.lineSound hp'
      · exact q2.lineSound ((q1.lineSound hp').same rfl Iff.rfl)
    · exact lineSound_exec (fun l e => hl ⟨l, e⟩) hs hp'

/-! ### The station links -/

theorem Quiet.linksSound (q : Quiet s t) (hp : s.LinksSound) : t.LinksSound := by
  cases q with
  | links p m => exact (State.linksSound_iff _).mpr fun l => (m l).sound ((State.linksSound_iff s).mp hp l)
  | applyFields k => unfold State.LinksSound; rw [State.applyFields_links]; exact hp
  | run k c r g v sp heats runs => rw [State.runLoop_of_ctx (State.running_ctx runs)]; exact hp
  | advance k c c' r g g2 v sp => rw [State.advance_eq]; exact hp
  | close k reason c c' =>
    unfold State.LinksSound
    rw [State.closeCycle_links, State.leaveCycle_links]
    exact hp
  | expire => unfold State.LinksSound; rw [State.expire_links]; exact hp
  | _ => exact hp

theorem State.Fresh.linksSound (hf : s.Fresh) : s.LinksSound := by
  obtain ⟨nv, failed, straps, cabinet, hold, n, q, rfl⟩ := hf
  refine (State.linksSound_iff _).mpr fun l => ?_
  simp only [State.resetWith, PerSix.get_map]
  exact ⟨Nat.zero_le _, Nat.zero_le _, by simp [StationLink.reset], nofun⟩

theorem kept_linksSound : Kept State.LinksSound where
  quiet := Quiet.linksSound
  store _ hp := hp
  line _ hp := hp
  modes p hm hp := modes_of_setModeTo Quiet.linksSound (fun _ _ _ hp => hp) p hm hp
  adopt _ hp := hp
  scan {s} flips _ hp := by
    have links : ∀ u : State, u.handOver.links = u.links.map (StationLink.startRunning u.store.settings) := fun _ => rfl
    refine (State.linksSound_iff _).mpr fun l => ?_
    rw [links, PerSix.get_map, State.scan_links]
    have hk := (State.linksSound_iff s).mp hp l
    exact (LinkMove.rejudge _ _).sound (hk.congr rfl rfl rfl rfl hk.queue)
  reset _ _ _ _ := (State.fresh_resetWith ..).linksSound

/-- Settles O57: every change of a link keeps it sound, and every command the line. -/
theorem linksStaySound : Obligations.LinksStaySound := by
  have links : StepKeeps State.LinksSound := kept_linksSound.step (fun _ hp => hp) fun _ hp => hp
  exact fun s t hp hs => ⟨links s t hp.1 hs, lineSound_step s t hp.2 hs⟩

end Sys2Proof.Machine
end

section
/-! PROOFS. The step, the queue, the reset state, the cut and the tick (O1, O2, O26, O30, O52). -/

namespace Sys2Proof.Machine

variable {s t : State}

/-! ### The step and the queue (O1, O2) -/

/-- Settles O1. -/
theorem stepRunsTheFrontCommand : Obligations.StepRunsTheFrontCommand := by
  refine ⟨fun c rest s hq => ?_, fun s hq => ?_⟩ <;> simp only [step, hq]

theorem Quiet.pending (q : Quiet s t) : t.pending = s.pending := by
  cases q with
  | applyFields k => unfold State.applyFields; simp only; split <;> rfl
  | run k c r g v sp heats runs => rw [State.runLoop_of_ctx (State.running_ctx runs)]
  | advance k c c' r g g2 v sp => rw [State.advance_eq]
  | close k reason c c' =>
    unfold State.closeCycle State.leaveCycle
    rw [State.watchDrain_pending]
    split <;> rfl
  | expire => rw [State.expire_eq]; rfl
  | _ => rfl

/-- Every change a command is made of leaves the queue (log entries 2, 25). -/
theorem kept_pending (q : List Instr) : Kept fun s => s.pending = q where
  quiet m hp := m.pending.trans hp
  store _ hp := hp
  line _ hp := hp
  modes p hm hp := modes_of_setModeTo (P := fun s => s.pending = q) (fun m hp => m.pending.trans hp) (fun _ _ _ hp => hp) p hm hp
  adopt _ hp := hp
  scan {s} flips _ hp := by
    have pending : ∀ u : State, u.handOver.pending = u.pending := fun _ => rfl
    rw [pending, State.scan_frame]
    exact hp
  reset _ _ _ hp := hp

theorem exec_pending {i : Instr} (hs : exec i s = .next t) : t.pending = s.pending := by
  by_cases hl : ∃ l, i = .start l
  · obtain ⟨l, rfl⟩ := hl
    rcases execStart_cases hs with q | ⟨u, h, tr, buf, c, q1, -, q2⟩
    · exact (kept_pending _).quiets q rfl
    · have h1 : u.pending = s.pending := (kept_pending _).quiets q1 rfl
      exact (kept_pending s.pending).quiets q2 h1
  · exact (kept_pending _).exec (fun l e => hl ⟨l, e⟩) hs rfl

/-- No command stops the HD6: each branch of each command's meaning answers a next state. -/
theorem exec_next (i : Instr) (s : State) : ∃ t, exec i s = .next t := by
  have answered : ∀ t : State, ∃ t', (.next t : Host.Outcome State Fault Refusal) = .next t' := fun t => ⟨t, rfl⟩
  cases i
  all_goals
    simp only [exec, execStartUpScanComplete, execRecipeWriteComplete, execRecipeEraseComplete,
      execCalibrationWriteComplete, execSettingsWriteComplete, execRecipeReadComplete, execLookupComplete,
      execStorePortStart, execCycleTimeExpiry, execReplayStep, execSensorTimerExpiry, execDispatchExpiry, execWindowStart,
      execOnPartEnd, execDriveFrameSent, execDriveStatusTimeout, execCabinetInputChange, execStationCharacter,
      execInterCharacterTimerExpiry, execStart, execAbort, execRelease, execQuery, execLinkError, execFinished,
      execTransmitFrameSent, execFrameTimerExpiry, execTurnaroundExpiry, execReplySent, execLineCharacter,
      execSensorCharacter, execDriveStatusCharacter]
    repeat' split
    all_goals exact answered _

/-- Settles O2. -/
theorem everyCommandAnswersAndLeavesTheQueue : Obligations.EveryCommandAnswersAndLeavesTheQueue := by
  intro c s
  obtain ⟨t, ht⟩ := exec_next c s
  exact ⟨t, ht, exec_pending ht⟩

/-! ### Cut and tick (O26, O30) -/

/-- Settles O26. -/
theorem cutAccruesAndRemovesPower : Obligations.CutAccruesAndRemovesPower := by
  intro s h c hc f d amount v u
  have hamount : s.cutEnergy h = amount := by
    simp only [amount, State.cutEnergy, State.fields, elapsed, f, d]
    cases (s.store.inForce.get h).driveType <;> cases (s.drives.get h).windowStart <;> rfl
  have hv : (s.fields h).driveType.zero = v := by
    simp only [v, f, State.fields]
    cases (s.store.inForce.get h).driveType <;> rfl
  have hheads : u.heads = s.heads.set h { s.heads.get h with ctx := some (c.accrue (s.cutEnergy h)) } := by
    have he : u.heads = s.heads.set h { s.heads.get h with
        ctx := (s.heads.get h).ctx.map fun c => c.accrue (s.cutEnergy h) } := rfl
    rw [he, hc]; rfl
  have hdrives : u.drives = s.drives.set h (d.cut f.driveType) := rfl
  refine ⟨by rw [hheads, hamount]; rfl, rfl, ?_, rfl, rfl, rfl, rfl, rfl, rfl, rfl⟩
  rw [hdrives]
  simp only [DriveUnit.cut, DriveUnit.command, ← hv, State.fields, f]
  cases d.inProgress <;> rfl

/-- Settles O30. -/
theorem timestampTickCountsAMillisecond : Obligations.TimestampTickCountsAMillisecond := by
  intro s
  refine ⟨s.tick, rfl, rfl, BitVec.toNat_add _ _, fun h => PerSix.get_map _ _ h, fun h => PerSix.get_map _ _ h, fun h => ?_,
    rfl, rfl, rfl, rfl, rfl, rfl⟩
  have hh : s.tick.heads.get h = { s.heads.get h with
      ctx := (s.heads.get h).ctx.map fun c => { c with cycleTimer := runDown c.cycleTimer } } := PerSix.get_map _ _ h
  rw [hh]
  exact ⟨rfl, rfl, rfl⟩

/-- Settles O3. -/
theorem resetPutsEveryBlockInItsResetState : Obligations.ResetPutsEveryBlockInItsResetState := by
  intro straps cabinet left s
  refine ⟨_, rfl, rfl, rfl, fun h => PerSix.get_const _ h, fun h => ?_, fun h => PerSix.get_const _ h, rfl, fun l => ?_, rfl,
    rfl, rfl, fun i => ?_, rfl, rfl, rfl, rfl, rfl, rfl, rfl, rfl, rfl, rfl, rfl⟩
  · have hf : (PerSix.const FrontEnd.reset).get h = FrontEnd.reset := PerSix.get_const _ h
    simp only [State.resetWith, hf]
    exact ⟨rfl, rfl, rfl, rfl, rfl, rfl, rfl, rfl, rfl⟩
  · simp only [State.resetWith, PerSix.get_map]
    rfl
  · cases i <;> exact ⟨rfl, rfl, rfl, rfl, rfl, rfl⟩

/-! ### The reset state (O52) -/

/-- Settles O52. -/
theorem resetStateIsSound : Obligations.ResetStateIsSound := by
  have fresh : State.reset.Fresh := State.fresh_resetWith ..
  obtain ⟨hpower, hframes⟩ := (State.drivesSafe_iff _).mp fresh.drivesSafe
  obtain ⟨hcycles, hloops, hceilings⟩ := (State.coursesSound_iff _).mp fresh.coursesSound
  obtain ⟨hmodes, hindex⟩ := (State.modesAndSlots_iff _).mp (fresh.modesAndSlots List.length_replicate)
  exact ⟨fresh.headsSound, hpower, hframes, hcycles, hloops, hceilings, fresh.frontsSound, fresh.dispatchSound,
    fresh.linksSound, fresh.lineSound, hmodes, hindex, fresh.traceSound, fresh.numbersSound⟩

end Sys2Proof.Machine
end

section
/-! PROOFS. A dispatch expiry, from the form `State.expire_eq` gives it (O28). -/

namespace Sys2Proof.Machine

variable (s : State)

theorem serveClassOf_eq (e : RequestEntry) (counter threshold : Nat) :
    serveClassOf e counter threshold =
      if counter = threshold ∧ 0 < e.request then .class2 else if e.cls = .class1 then .class1 else .class0 := by
  unfold serveClassOf
  cases e.cls <;> rfl

theorem serveClassOf_relief (e : RequestEntry) (counter threshold : Nat) :
    serveClassOf e counter threshold = .class2 ↔ counter = threshold ∧ 0 < e.request := by
  rw [serveClassOf_eq]
  split
  · next h => simp [h]
  · next h => split <;> simp [h]

/-- The participants in the words of R94. -/
theorem State.participants_eq : s.participants = PerSix.ofFn fun h => (s.disp.request.get h).map fun e =>
    { request := e.request
      cls := if s.disp.shortfall.get h = s.store.settings.reliefThreshold ∧ 0 < e.request then .class2
        else if e.cls = .class1 then .class1 else .class0 } := by
  unfold State.participants
  simp only [serveClassOf_eq]

theorem budgetFor_eq (setting : Nat) (cabinet : CabinetState) :
    budgetFor setting cabinet = if cabinet = .ready then setting else 0 := by
  cases cabinet <;> rfl

theorem State.expiryDisp_shortfall (h : HeadId) {e : RequestEntry} (he : s.disp.request.get h = some e) :
    s.expiryDisp.shortfall.get h =
      nextShortfall
        { request := e.request, cls := serveClassOf e (s.disp.shortfall.get h) s.store.settings.reliefThreshold }
        (s.division.grants.get h) (s.disp.shortfall.get h) s.store.settings.reliefThreshold := by
  simp only [State.expiryDisp, Dispatcher.writeGrants, PerSix.get_ofFn, State.participants_get, he, Option.map_some]
  rfl

/-- A head that takes no part in an expiry is left alone. -/
theorem State.expire_absent (h : HeadId) (hr : s.disp.request.get h = none) :
    s.expire.heads.get h = s.heads.get h ∧ s.expire.drives.get h = s.drives.get h ∧
      s.expire.disp.grant.get h = s.disp.grant.get h ∧ s.expire.disp.shortfall.get h = s.disp.shortfall.get h := by
  have hp : s.participants.get h = none := by rw [State.participants_get, hr]; rfl
  refine ⟨?_, ?_, ?_, ?_⟩
  · have hc : s.expiryContext h = id := by funext c; simp only [State.expiryContext, hp]; rfl
    rw [State.expire_heads, hc, Option.map_id]
    rfl
  · rw [State.expire_drives, State.expiryDrive, hp]; rfl
  · rw [State.expire_disp]
    simp only [State.expiryDisp, Dispatcher.writeGrants, PerSix.get_ofFn, hp]
    rfl
  · rw [State.expire_disp]
    simp only [State.expiryDisp, Dispatcher.writeGrants, PerSix.get_ofFn, hp]
    rfl

/-- A window starts with its latch and the gate a driven cycle takes from it (R110, R111). -/
theorem DriveUnit.startWindow_eq (u : DriveUnit) (start : Word32) (d : Nat) (dry : Bool) :
    u.startWindow start d dry = { u.command (.gate (decide (0 < d ∧ dry = false))) with
      windowStart := some start, onTime := d, onRunning := decide (0 < d) } := by
  unfold DriveUnit.startWindow
  cases dry <;> simp

variable {e : RequestEntry} {h : HeadId} (he : s.disp.request.get h = some e)
include he

theorem State.participants_present : s.participants.get h = some
    { request := e.request, cls := serveClassOf e (s.disp.shortfall.get h) s.store.settings.reliefThreshold } := by
  rw [State.participants_get, he]; rfl

/-- The grant entry and the counter of a participant after an expiry (R94, R99). -/
theorem State.expire_entries :
    let relief := s.disp.shortfall.get h = s.store.settings.reliefThreshold ∧ 0 < e.request
    let grant := s.division.grants.get h
    s.expire.disp.grant.get h = { grant := grant, served := e.request } ∧
      (relief → s.expire.disp.shortfall.get h = 0) ∧
      (¬relief → grant < e.request →
        s.expire.disp.shortfall.get h = min (s.disp.shortfall.get h + 1) s.store.settings.reliefThreshold) ∧
      (¬relief → ¬grant < e.request → s.expire.disp.shortfall.get h = 0) := by
  intro relief grant
  rw [State.expire_disp, State.expiryDisp_grant, State.participants_present s he, State.expiryDisp_shortfall s h he]
  simp only [nextShortfall, serveClassOf_relief]
  refine ⟨rfl, fun hr => if_pos hr, fun hr hg => ?_, fun hr hg => ?_⟩
  · rw [if_neg hr, if_neg (by omega), if_pos hg]
  · rw [if_neg hr, if_neg (show ¬s.division.grants.get h < e.request from hg), ite_self]

/-- The cycle of a participant after an expiry (R100, R101). -/
theorem State.expire_context {c : Context} (hc : (s.heads.get h).ctx = some c) :
    let amount := if (s.store.inForce.get h).driveType = .level
      then (s.disp.grant.get h).grant * (s.disp.nextExpiry - s.disp.lastExpiry).toNat else 0
    ∃ c', (s.expire.heads.get h).ctx = some c' ∧ c' = { c with
        totalEnergy := c.totalEnergy + amount, segEnergy := c.segEnergy + amount, flags := c'.flags } ∧
      (c'.flags.starved = true ↔ c.flags.starved = true ∨ s.division.grants.get h < e.request) ∧
      (c'.flags.relieved = true ↔
        c.flags.relieved = true ∨ s.disp.shortfall.get h = s.store.settings.reliefThreshold ∧ 0 < e.request) ∧
      c'.flags = { c.flags with starved := c'.flags.starved, relieved := c'.flags.relieved } := by
  intro amount
  refine ⟨s.expiryContext h c, by rw [State.expire_heads, hc]; rfl, ?_⟩
  simp only [State.expiryContext, State.participants_present s he]
  refine ⟨rfl, ?_, ?_, trivial⟩
  · simp
  · simp [serveClassOf_relief]

/-- The drive of a participant after an expiry (R103, R109, R110). -/
theorem State.expire_drive :
    let f := s.store.inForce.get h
    let grant := s.division.grants.get h
    (f.driveType = .level →
        s.expire.drives.get h = (s.drives.get h).command (.level (if s.isDry h = true then 0 else grant))) ∧
      (f.driveType = .burst → (s.drives.get h).windowStart ≠ none → s.expire.drives.get h = s.drives.get h) ∧
      (f.driveType = .burst → (s.drives.get h).windowStart = none →
        let d := grant * f.burstWindow / f.maxPower
        s.expire.drives.get h = { (s.drives.get h).command (.gate (decide (0 < d ∧ s.isDry h = false))) with
          windowStart := some s.disp.nextExpiry, onTime := d, onRunning := decide (0 < d) }) := by
  intro f grant
  simp only [State.expire_drives, State.expiryDrive, State.participants_present s he, Option.isSome_some, if_true,
    State.fields]
  refine ⟨fun hf => by rw [hf], fun hf hw => ?_, fun hf hw => ?_⟩
  · rw [hf]
    cases hs : (s.drives.get h).windowStart with
    | none => exact absurd hs hw
    | some w => rfl
  · rw [hf, hw]
    exact DriveUnit.startWindow_eq _ _ _ _

omit he in
/-- Settles O28. -/
theorem dispatchExpiryServesItsParticipants : Obligations.DispatchExpiryServesItsParticipants := by
  intro s hdue threshold relief ps budget v length
  have hb : budgetFor s.disp.budgetSetting s.cabinet = budget := budgetFor_eq _ _
  have hv : s.division = v := by rw [State.division, State.participants_eq, hb]
  refine ⟨s.expire, by simp only [exec, execDispatchExpiry, hdue, if_true], ?_⟩
  simp only [State.expire_store, State.expire_fronts, State.expire_cabinet, State.expire_links, State.expire_line,
    State.expire_sup, State.expire_trace]
  refine ⟨?_, ?_, ?_, ?_, ?_, ?_, ?_, ?_, ?_, ?_, trivial, trivial, trivial, trivial, trivial, trivial, trivial,
    s.expire_absent, fun h e he => ?_⟩
  case refine_4 => rw [State.expire_disp, ← hb]; rfl
  case refine_5 => rw [State.expire_disp, ← hv]; rfl
  case refine_6 => rw [State.expire_disp, ← hv]; rfl
  case refine_11 =>
    rw [← hv]
    obtain ⟨hgrant, hrelief, hshort, hfull⟩ := s.expire_entries he
    refine ⟨hgrant, hrelief, hshort, hfull, ?_, ?_, fun c hc => s.expire_context he hc, s.expire_drive he⟩ <;>
      rw [State.expire_heads]
  all_goals rw [State.expire_disp]; rfl

end Sys2Proof.Machine
end

section
/-! PROOFS. Burst windows, the command line of a drive, and drive status (O31, O32). -/

namespace Sys2Proof.Machine

variable (s : State) (h : HeadId)

/-! ### Burst windows and command frames (O31) -/

theorem latchOf_le {grant maxPower : Nat} (window : Nat) (hg : grant ≤ maxPower) : latchOf grant window maxPower ≤ window :=
  Nat.div_le_of_le_mul (Nat.mul_le_mul_right window hg)

/-- A later window, written out (R111). -/
theorem State.nextWindow_eq (start : Word32) :
    let f := s.store.inForce.get h
    let u := s.drives.get h
    let d := latchOf (s.disp.grant.get h).grant f.burstWindow f.maxPower
    s.nextWindow h start =
      { (if u.onRunning = true then s.modCtx h fun c => c.accrue (f.maxPower * u.onTime) else s) with
        drives := s.drives.set h { u.command (.gate (decide (0 < d ∧ s.isDry h = false))) with
          windowStart := some (later start f.burstWindow), onTime := d, onRunning := decide (0 < d) } } := by
  intro f u d
  rw [← DriveUnit.startWindow_eq]
  unfold State.nextWindow
  simp only [State.fields]
  split <;> rfl

/-- The end of an on part is due inside the window alone (R111). -/
theorem State.onPartDue_iff {start : Word32} (hw : (s.drives.get h).windowStart = some start) :
    s.onPartDue h = true ↔ (s.drives.get h).onRunning = true ∧
      (s.drives.get h).onTime < (s.store.inForce.get h).burstWindow ∧
      reached s.disp.timestamp (later start (s.drives.get h).onTime) = true := by
  simp only [State.onPartDue, hw, Bool.and_eq_true, and_assoc]
  exact and_congr_right fun _ => and_congr_left fun _ => decide_eq_true_iff

/-- Settles O31. -/
theorem burstWindowsAndCommandFrames : Obligations.BurstWindowsAndCommandFrames := by
  refine ⟨fun h s start hw => ?_, fun h s v => ?_⟩
  · intro f u accrued d
    refine ⟨latchOf_le _, fun hdue => ?_, fun hrun hin hdue => ?_, fun hout => ?_⟩
    · intro drive
      simp only [exec, execWindowStart, hw]
      rw [if_pos (show reached s.disp.timestamp (later start (s.fields h).burstWindow) = true from hdue), State.nextWindow_eq]
      rfl
    · simp only [exec, execOnPartEnd]
      rw [if_pos ((s.onPartDue_iff h hw).mpr ⟨hrun, hin, hdue⟩)]
      rfl
    · simp only [exec, execOnPartEnd]
      rw [if_neg fun hdue => ?_]
      obtain ⟨hrun, hin, -⟩ := (s.onPartDue_iff h hw).mp hdue
      rcases hout with hout | hout
      · exact absurd (hrun.symm.trans hout) (by decide)
      · exact absurd hin (by simpa using hout)
  · intro sent
    simp only [exec, execDriveFrameSent, DriveUnit.command]
    cases hp : (s.drives.get h).inProgress with
    | none => exact ⟨fun hn => absurd rfl hn, fun _ => ⟨rfl, rfl⟩, fun hn => absurd rfl hn⟩
    | some w => exact ⟨fun _ => rfl, fun hn => absurd hn (by simp), fun _ => rfl⟩

/-! ### Drive status (O32) -/

theorem State.headUntouched_modDrive {k : HeadId} (hk : k ≠ h) (f : DriveUnit → DriveUnit) :
    s.headUntouched (s.modDrive h f) k :=
  ⟨rfl, rfl, State.modDrive_drives_other s f hk, rfl, rfl, rfl⟩

theorem State.headUntouched.trans {s t u : State} {k : HeadId} (h1 : s.headUntouched t k) (h2 : t.headUntouched u k) :
    s.headUntouched u k := by
  obtain ⟨a1, a2, a3, a4, a5, a6⟩ := h1
  obtain ⟨b1, b2, b3, b4, b5, b6⟩ := h2
  exact ⟨b1.trans a1, b2.trans a2, b3.trans a3, b4.trans a4, b5.trans a5, b6.trans a6⟩

theorem State.headUntouched.refl (k : HeadId) : s.headUntouched s k := ⟨rfl, rfl, rfl, rfl, rfl, rfl⟩

/-- The end of a cycle leaves what the drive reported. -/
theorem State.endCycle_driveStatus (reason : Option Reason) (k : HeadId) :
    ((s.endCycle h reason).drives.get k).state = (s.drives.get k).state ∧
      ((s.endCycle h reason).drives.get k).timer = (s.drives.get k).timer := by
  have cut : ((s.cut h).drives.get k).state = (s.drives.get k).state ∧
      ((s.cut h).drives.get k).timer = (s.drives.get k).timer := by
    by_cases hk : k = h
    · subst hk; rw [State.cut_drives_same]; simp [DriveUnit.cut]
    · rw [State.cut_drives_other s h hk]; exact ⟨rfl, rfl⟩
  unfold State.endCycle
  split
  · rw [State.finishCycle_drives]; exact ⟨rfl, rfl⟩
  · rw [State.finishCycle_drives]; exact cut
  · rw [State.finishCycle_drives]; exact ⟨rfl, rfl⟩
  all_goals exact ⟨rfl, rfl⟩

/-- A report ends a driven cycle in HEATING, and does nothing else (R63). -/
theorem State.reportToHead_untouched (reason : Reason) {k : HeadId} (hk : k ≠ h) :
    s.headUntouched (s.reportToHead h reason) k := by
  unfold State.reportToHead
  split
  · exact State.endCycle_untouched s h _ hk
  · exact .refl s k

theorem State.reportToHead_driveStatus (reason : Reason) :
    ((s.reportToHead h reason).drives.get h).state = (s.drives.get h).state ∧
      ((s.reportToHead h reason).drives.get h).timer = (s.drives.get h).timer := by
  unfold State.reportToHead
  split
  · exact s.endCycle_driveStatus h _ h
  · exact ⟨rfl, rfl⟩

/-- What a drive state does at its head: the state and timer stand, the other heads stay, a report ends a driven cycle in HEATING,
and where there is no report or no such cycle nothing else changes (R114 to R116, R63). -/
theorem State.setDrive_acts (st : DriveState) (timer : Option Nat) :
    let s1 : State := { s with drives := s.drives.set h { s.drives.get h with state := st, timer := timer } }
    let t := s.setDrive h st timer
    (t.drives.get h).state = st ∧ (t.drives.get h).timer = timer ∧ (∀ k, k ≠ h → s.headUntouched t k) ∧
      (∀ c reason, reportOf (s.drives.get h).state st = some reason → (s.heads.get h).state = .heating →
        (s.heads.get h).ctx = some c → c.dry = false →
        t = s1.endCycle h (some reason) ∧ s.cycleOver t h c.cycle .aborted (some reason)) ∧
      (reportOf (s.drives.get h).state st = none ∨ (s.heads.get h).state ≠ .heating ∨ s.isDry h = true → t = s1) := by
  intro s1 t
  have hs1 : (s1.drives.get h).state = st ∧ (s1.drives.get h).timer = timer := by
    have hd : s1.drives.get h = { s.drives.get h with state := st, timer := timer } := PerSix.get_set_same _ _ _
    rw [hd]; exact ⟨rfl, rfl⟩
  have hother : ∀ k, k ≠ h → s.headUntouched s1 k := fun k hk =>
    s.headUntouched_modDrive h hk fun u => { u with state := st, timer := timer }
  cases hr : reportOf (s.drives.get h).state st with
  | none =>
    have ht : t = s1 := by simp only [t, State.setDrive, hr]; rfl
    rw [ht]
    exact ⟨hs1.1, hs1.2, hother, fun _ _ hn => absurd hn (by simp), fun _ => rfl⟩
  | some reason =>
    have ht : t = s1.reportToHead h reason := by simp only [t, State.setDrive, hr]; rfl
    have hstatus := s1.reportToHead_driveStatus h reason
    rw [ht]
    refine ⟨hstatus.1.trans hs1.1, hstatus.2.trans hs1.2,
      fun k hk => (hother k hk).trans (s1.reportToHead_untouched h reason hk), fun c r hreason hst hc hdry => ?_, fun hn => ?_⟩
    · cases hreason
      have hdriven : s1.isDry h = false := (State.isDry_of_ctx hc).trans hdry
      rw [State.reportToHead, if_pos ⟨hst, hdriven⟩]
      exact ⟨rfl, State.endCycle_cycleOver s1 h reason ((State.isActive_iff s1 h).mpr (.inr (.inl hst))) hc⟩
    · rw [State.reportToHead, if_neg]
      rintro ⟨hst, hdriven⟩
      rcases hn with hn | hn | hn
      · exact absurd hn (by simp)
      · exact hn hst
      · exact absurd (hn.symm.trans hdriven) (by decide)

/-- The report of a drive state a head was not in before (R116). -/
theorem reportOf_driveStateOf (was : DriveState) (status : DriveStatus) :
    (status = .tripped → was ≠ .tripped → reportOf was (driveStateOf status) = some .driveTrip) ∧
      (status ≠ .tripped ∨ was = .tripped → reportOf was (driveStateOf status) = none) := by
  cases status <;> cases was <;> simp [reportOf, driveStateOf]

theorem reportOf_unknown (was : DriveState) :
    (was ≠ .unknown → reportOf was .unknown = some .driveLost) ∧ (was = .unknown → reportOf was .unknown = none) := by
  cases was <;> simp [reportOf]

/-- Settles O32. -/
theorem driveStatusReachesItsHead : Obligations.DriveStatusReachesItsHead := by
  intro h s
  refine ⟨fun frame hf => ?_, fun status hm => ?_, fun hdue => ?_⟩
  · have hs : (s.modDrive h fun u => { u with rx := none }).statusFrame h frame = s.modDrive h fun u => { u with rx := none } := by
      cases frame with
      | bad => rfl
      | good status => exact if_pos (hf.resolve_left (by simp))
    simp only [exec, execDriveStatus, hs]
    rfl
  · let s0 := s.modDrive h fun u => { u with rx := none }
    have hs : s0.statusFrame h (.good status) =
        s0.setDrive h (driveStateOf status) (some s.store.settings.driveTimeout) := if_neg hm
    have hd : s0.drives.get h = { s.drives.get h with rx := none } := State.modDrive_drives_same s h _
    have hset : ∀ u : DriveUnit, s0.drives.set h u = s.drives.set h u := fun u => PerSix.set_set _ _ _ _
    obtain ⟨hstate, htimer, hother, hends, hquiet⟩ :=
      s0.setDrive_acts h (driveStateOf status) (some s.store.settings.driveTimeout)
    rw [hset] at hends hquiet
    rw [hd] at hends hquiet
    obtain ⟨hreport, hnone⟩ := reportOf_driveStateOf (s.drives.get h).state status
    refine ⟨_, by simp only [exec, execDriveStatus]; exact congrArg _ hs, hstate, htimer,
      fun k hk => (s.headUntouched_modDrive h hk _).trans (hother k hk), fun c htrip hwas hst hc hdry => ?_, fun hn => ?_⟩
    · obtain ⟨ht, hover⟩ := hends c .driveTrip (hreport htrip hwas) hst hc hdry
      subst htrip
      exact ⟨ht, hover⟩
    · refine hquiet ?_
      rcases hn with hn | hn | hn
      · exact .inl (hnone (.inl hn))
      · exact .inl (hnone (.inr hn))
      · exact .inr hn
  · obtain ⟨hstate, htimer, hother, hends, hquiet⟩ := s.setDrive_acts h .unknown none
    obtain ⟨hreport, hnone⟩ := reportOf_unknown (s.drives.get h).state
    exact ⟨_, by simp only [exec, execDriveStatusTimeout, hdue, if_true], hstate, htimer, hother,
      fun c hwas hst hc hdry => hends c .driveLost (hreport hwas) hst hc hdry,
      fun hn => hquiet (hn.imp_left hnone)⟩

end Sys2Proof.Machine
end

section
/-! PROOFS. Actions on all heads: what the end of cycles does at one head and leaves at the others (O33, O35, O45, O46). -/

namespace Sys2Proof.Machine

variable {s t u v : State} {h k : HeadId}

/-- Writing back what is there changes nothing. -/
theorem set_get_self {α : Type} (p : PerSix α) (i : Fin 6) : p.set i (p.get i) = p :=
  PerSix.ext_get fun j => by rw [PerSix.get_set]; split <;> simp_all

/-! ### A head left alone -/

/-- A head, everything kept for it, and its queued lookups are as they were, and the records in the buffers stand. -/
structure State.Alone (s t : State) (k : HeadId) : Prop where
  untouched : s.headUntouched t k
  records : ∀ i, ∃ new, (t.trace.get i).records = (s.trace.get i).records ++ new
  queue : ∀ e : LookupEntry, e.head = k → (e ∈ t.store.queue ↔ e ∈ s.store.queue)

theorem State.Alone.refl (s : State) (k : HeadId) : s.Alone s k :=
  ⟨.refl s k, fun _ => ⟨[], by simp⟩, fun _ _ => Iff.rfl⟩

theorem State.alone_drawFree (s : State) (k : HeadId) : s.Alone s.drawFree k :=
  ⟨.refl s k, fun _ => ⟨[], by simp⟩, fun _ _ => Iff.rfl⟩

theorem State.Alone.trans (h1 : s.Alone t k) (h2 : t.Alone u k) : s.Alone u k where
  untouched := h1.untouched.trans h2.untouched
  records i := by
    obtain ⟨new1, e1⟩ := h1.records i
    obtain ⟨new2, e2⟩ := h2.records i
    exact ⟨new1 ++ new2, by rw [e2, e1, List.append_assoc]⟩
  queue e he := (h2.queue e he).trans (h1.queue e he)

theorem State.alone_endCycle (s : State) (reason : Option Reason) (hk : k ≠ h) : s.Alone (s.endCycle h reason) k where
  untouched := s.endCycle_untouched h reason hk
  records i := s.endCycle_records_grow h reason i
  queue e he := by
    rw [State.endCycle_store]
    subst he
    by_cases hst : (s.heads.get h).state = .lookup <;> simp [hst, hk]

theorem State.Alone.isActive (ha : s.Alone t k) : t.isActive k = s.isActive k := by
  unfold State.isActive; rw [ha.untouched.1]

theorem State.Alone.isDry (ha : s.Alone t k) : t.isDry k = s.isDry k := by
  unfold State.isDry; rw [ha.untouched.1]

/-- A cycle's end at a head that was, and then is, left alone. -/
theorem State.Alone.cycleOver {n : Word32} {result : CycleResult} {reason : Option Reason} (h1 : s.Alone u k)
    (hover : u.cycleOver v k n result reason) (h2 : v.Alone t k) : s.cycleOver t k n result reason := by
  obtain ⟨⟨c, hhead, hn, hr, hreason, htimer, hrec⟩, hfront, hres⟩ := hover
  obtain ⟨heads1, -, -, -, -, res1⟩ := h1.untouched
  obtain ⟨heads2, fronts2, -, -, -, res2⟩ := h2.untouched
  refine ⟨⟨c, heads2.trans hhead, hn, hr, hreason, htimer, fun w hw => ?_⟩, by rw [fronts2]; exact hfront, res2.trans hres⟩
  obtain ⟨new1, e1⟩ := h1.records w.buffer
  obtain ⟨new, e, hmem⟩ := hrec w (res1.trans hw)
  obtain ⟨new2, e2⟩ := h2.records w.buffer
  exact ⟨new1 ++ new ++ new2, by rw [e2, e, e1]; simp, by simp [hmem]⟩

/-- An action on each head of a list that names each head once, each leaving the other heads alone: at one head the action is taken
in a state that has left it alone so far, and leaves it alone from then on. `P` is what the actions keep meanwhile. -/
theorem foldHeads_alone {f : HeadId → State → State} {P : State → Prop}
    (hf : ∀ h t k, k ≠ h → P t → t.Alone (f h t) k) (hP : ∀ h t, P t → P (f h t)) (l : List HeadId) (hnodup : l.Nodup)
    (hs : P s) (hk : k ∈ l) : ∃ u, P u ∧ s.Alone u k ∧ (f k u).Alone (l.foldl (fun t h => f h t) s) k := by
  have others : ∀ (l : List HeadId) (s : State), P s → k ∉ l →
      P (l.foldl (fun t h => f h t) s) ∧ s.Alone (l.foldl (fun t h => f h t) s) k := by
    intro l
    induction l with
    | nil => exact fun s hs _ => ⟨hs, .refl s k⟩
    | cons x xs ih =>
      intro s hs hkl
      obtain ⟨hkx, hkxs⟩ := not_or.mp (mt List.mem_cons.mpr hkl)
      obtain ⟨hp, ha⟩ := ih (f x s) (hP x s hs) hkxs
      exact ⟨hp, (hf x s k hkx hs).trans ha⟩
  obtain ⟨l1, l2, rfl⟩ := List.append_of_mem hk
  have hn := List.nodup_append.mp hnodup
  obtain ⟨hp, ha⟩ := others l1 s hs fun hm => (hn.2.2 k hm k List.mem_cons_self) rfl
  rw [List.foldl_append, List.foldl_cons]
  exact ⟨_, hp, ha, (others l2 _ (hP k _ hp) (List.nodup_cons.mp hn.2.1).1).2⟩

/-- An action on every head, in whatever order, at one head. -/
theorem State.forHeads_alone {f : HeadId → State → State} (P : State → Prop)
    (hf : ∀ h t k, k ≠ h → P t → t.Alone (f h t) k) (hP : ∀ h t, P t → P (f h t)) (s : State) (hs : P s.drawFree)
    (k : HeadId) : ∃ u, P u ∧ s.Alone u k ∧ (f k u).Alone (s.forHeads f) k := by
  obtain ⟨hmem, hnodup⟩ := s.headOrder_mem k
  obtain ⟨u, hp, ha, hb⟩ := foldHeads_alone hf hP s.headOrder hnodup hs hmem
  exact ⟨u, hp, (s.alone_drawFree k).trans ha, hb⟩

theorem State.forHeadsInOrder_alone {f : HeadId → State → State} (P : State → Prop)
    (hf : ∀ h t k, k ≠ h → P t → t.Alone (f h t) k) (hP : ∀ h t, P t → P (f h t)) (s : State) (hs : P s)
    (k : HeadId) : ∃ u, P u ∧ s.Alone u k ∧ (f k u).Alone (s.forHeadsInOrder f) k :=
  foldHeads_alone hf hP sixInOrder (by decide) hs (mem_sixInOrder k)

/-- What the end of a cycle does at its own head (R58, R62), seen from a state that left it alone before and after. -/
theorem State.Alone.endCycle {c : Context} {reason : Reason} (h1 : s.Alone u k) (h2 : (u.endCycle k (some reason)).Alone t k)
    (ha : s.isActive k = true) (hc : (s.heads.get k).ctx = some c) :
    s.cycleOver t k c.cycle .aborted (some reason) := by
  obtain ⟨heads1, -⟩ := h1.untouched
  exact h1.cycleOver (u.endCycle_cycleOver k reason (h1.isActive.trans ha) (by rw [heads1, hc])) h2

/-- A head whose cycle ends from HEATING is cut (R58, R62). -/
theorem State.endCycle_cut (s : State) (reason : Option Reason) (hst : (s.heads.get h).state = .heating) :
    (s.endCycle h reason).disp.request.get h = none ∧
      (s.endCycle h reason).disp.grant.get h = { grant := 0, served := 0 } ∧
      (s.endCycle h reason).drives.get h = (s.drives.get h).cut (s.store.inForce.get h).driveType := by
  rw [State.endCycle_of_heating hst]
  simp [State.cut_disp]

theorem State.Alone.cut {reason : Option Reason} (h1 : s.Alone u k) (h2 : (u.endCycle k reason).Alone t k)
    (hst : (s.heads.get k).state = .heating) (hf : u.store.inForce = s.store.inForce) :
    t.disp.request.get k = none ∧ t.disp.grant.get k = { grant := 0, served := 0 } ∧
      t.drives.get k = (s.drives.get k).cut (s.store.inForce.get k).driveType := by
  obtain ⟨heads1, -, drives1, -, -, -⟩ := h1.untouched
  obtain ⟨-, -, drives2, request2, grant2, -⟩ := h2.untouched
  obtain ⟨hreq, hgrant, hdrive⟩ := u.endCycle_cut reason (by rw [heads1, hst] : (u.heads.get k).state = .heating)
  exact ⟨request2.trans hreq, grant2.trans hgrant, by rw [drives2, hdrive, drives1, hf]⟩

@[simp] theorem DriveUnit.cut_output (d : DriveUnit) (ty : DriveType) : (d.cut ty).output = ty.zero :=
  d.command_output ty.zero

/-- The end of a cycle from anywhere but HEATING leaves the requests, the grants and the drives. -/
theorem State.endCycle_uncut (s : State) (reason : Option Reason) (hst : (s.heads.get h).state ≠ .heating) :
    (s.endCycle h reason).disp = s.disp ∧ (s.endCycle h reason).drives = s.drives := by
  refine ⟨by rw [State.endCycle_disp, if_neg hst], ?_⟩
  unfold State.endCycle
  split
  · rw [State.finishCycle_drives]; rfl
  · next he => exact absurd he hst
  · rw [State.finishCycle_drives]
  all_goals rfl

end Sys2Proof.Machine
end

section
/-! PROOFS. The cabinet, the INDEX frame and the abort-all character reach the heads (O33, O35). -/

namespace Sys2Proof.Machine

variable {s t : State} {h k : HeadId}

/-! ### The cabinet (O33) -/

theorem State.alone_reportToHead (s : State) (reason : Reason) (hk : k ≠ h) : s.Alone (s.reportToHead h reason) k := by
  unfold State.reportToHead
  split
  · exact s.alone_endCycle _ hk
  · exact .refl s k

/-- The blocks no report reaches, and the settings by which it cuts. -/
structure State.SameSetting (s t : State) : Prop where
  cabinet : t.cabinet = s.cabinet
  links : t.links = s.links
  line : t.line = s.line
  budget : t.disp.budget = s.disp.budget
  inForce : t.store.inForce = s.store.inForce

theorem State.SameSetting.endCycle (hst : s.SameSetting t) (h : HeadId) (reason : Option Reason) : s.SameSetting (t.endCycle h reason) where
  cabinet := (t.endCycle_cabinet h reason).trans hst.cabinet
  links := (t.endCycle_links h reason).trans hst.links
  line := (t.endCycle_line h reason).trans hst.line
  budget := by rw [State.endCycle_disp]; split <;> exact hst.budget
  inForce := by rw [State.endCycle_store]; exact hst.inForce

theorem State.reportToHead_store (s : State) (h : HeadId) (reason : Reason) : (s.reportToHead h reason).store = s.store := by
  unfold State.reportToHead
  split
  · next hst => rw [State.endCycle_store, if_neg (by rw [hst.1]; decide)]
  · rfl

theorem State.SameSetting.reportToHead (hst : s.SameSetting t) (h : HeadId) (reason : Reason) :
    s.SameSetting (t.reportToHead h reason) := by
  unfold State.reportToHead
  split
  · exact hst.endCycle h _
  · exact hst

/-- The cabinet's change to NOT_READY (R117, R118). -/
theorem cabinet_notReady (hcab : s.cabinet = .ready) :
    ∃ t, exec (.cabinetInputChange .notReady) s = .next t ∧ t.cabinet = .notReady ∧
      t.store = s.store ∧ t.links = s.links ∧ t.line = s.line ∧ t.disp.budget = s.disp.budget ∧
      ∀ h, (∀ c, (s.heads.get h).state = .heating → (s.heads.get h).ctx = some c → c.dry = false →
          s.cycleOver t h c.cycle .aborted (some .cabinet) ∧ t.disp.request.get h = none ∧
          (t.drives.get h).output = (s.store.inForce.get h).driveType.zero) ∧
        ((s.heads.get h).state ≠ .heating ∨ s.isDry h = true → s.headUntouched t h) := by
  let s0 : State := { s with cabinet := .notReady }
  let t := s0.forHeads State.cabinetHead
  have hexec : exec (.cabinetInputChange .notReady) s = .next t := by
    simp only [exec, execCabinetInputChange, hcab]
    exact if_neg (by decide)
  have hset : s0.SameSetting t := State.forHeads_keeps _ s0.SameSetting _ (fun h t ht => ht.reportToHead h _) ⟨rfl, rfl, rfl, rfl, rfl⟩
  have hstore : t.store = s.store := State.forHeads_keeps _ (fun t => t.store = s.store) _
    (fun h t ht => (t.reportToHead_store h _).trans ht) rfl
  refine ⟨t, hexec, hset.cabinet, hstore, hset.links, hset.line, hset.budget, fun h => ?_⟩
  obtain ⟨u, hu, h1, h2⟩ := State.forHeads_alone (f := State.cabinetHead) s0.SameSetting
    (fun h t k hk _ => t.alone_reportToHead _ hk) (fun h t ht => ht.reportToHead h _) s0 ⟨rfl, rfl, rfl, rfl, rfl⟩ h
  obtain ⟨heads1, -⟩ := h1.untouched
  refine ⟨fun c hst hc hdry => ?_, fun hn => ?_⟩
  · have he : State.cabinetHead h u = u.endCycle h (some .cabinet) :=
      if_pos ⟨by rw [heads1]; exact hst, h1.isDry.trans ((State.isDry_of_ctx hc).trans hdry)⟩
    rw [he] at h2
    obtain ⟨hreq, -, hdrive⟩ := h1.cut h2 hst hu.inForce
    refine ⟨h1.endCycle h2 ((s.isActive_iff h).mpr (.inr (.inl hst))) hc, hreq, ?_⟩
    rw [hdrive, DriveUnit.cut_output]
  · have he : State.cabinetHead h u = u := if_neg (by
      rintro ⟨hst, hdry⟩
      rw [heads1] at hst
      rw [h1.isDry] at hdry
      rcases hn with hn | hn
      · exact hn hst
      · exact absurd (hn.symm.trans hdry) (by decide))
    rw [he] at h2
    exact (h1.trans h2).untouched

/-! ### The INDEX frame (O33) -/

theorem State.alone_indexHead (s : State) (hk : k ≠ h) : s.Alone (s.indexHead h) k := by
  unfold State.indexHead
  split
  · exact s.alone_endCycle _ hk
  · exact s.alone_endCycle _ hk
  · exact ⟨⟨State.modFlags_heads_other s _ hk, rfl, rfl, rfl, rfl, rfl⟩, fun _ => ⟨[], by simp⟩, fun _ _ => Iff.rfl⟩
  all_goals exact .refl s k

theorem State.SameSetting.indexHead (hst : s.SameSetting t) (h : HeadId) : s.SameSetting (t.indexHead h) := by
  unfold State.indexHead
  split
  · exact hst.endCycle h _
  · exact hst.endCycle h _
  · exact ⟨hst.cabinet, hst.links, hst.line, hst.budget, hst.inForce⟩
  all_goals exact hst

/-- The supervision unit but for its mode. -/
def Supervision.SameButMode (u v : Supervision) : Prop := v = { u with mode := v.mode }

theorem State.endCycle_sameButMode (s : State) (h : HeadId) (reason : Option Reason) :
    s.sup.SameButMode (s.endCycle h reason).sup := by
  rcases s.endCycle_sup h reason with he | ⟨-, he⟩ <;> rw [he] <;> rfl

theorem State.indexHead_sameButMode (s : State) (h : HeadId) : s.sup.SameButMode (s.indexHead h).sup := by
  unfold State.indexHead
  split
  · exact s.endCycle_sameButMode h _
  · exact s.endCycle_sameButMode h _
  all_goals rfl

theorem Supervision.SameButMode.trans {u v w : Supervision} (h1 : u.SameButMode v) (h2 : v.SameButMode w) : u.SameButMode w := by
  unfold Supervision.SameButMode at h1 h2 ⊢
  rw [h2, h1]

/-- A value's four bytes read back (R179). -/
theorem u16At_le16 (n : Nat) (rest : List Byte) : u16At (le16 n ++ rest) 0 = n % 65536 := by
  simp only [u16At, byteAt, le16, List.cons_append, List.getD_cons_zero, List.getD_cons_succ, BitVec.toNat_ofNat]
  omega

theorem u32At_leWord32 (w : Word32) : u32At (leWord32 w) 0 = w.toNat := by
  have low : u16At (leWord32 w) 0 = w.toNat % 65536 := u16At_le16 _ _
  have high : u16At (leWord32 w) 2 = w.toNat / 65536 % 65536 := by
    have he : u16At (leWord32 w) 2 = u16At (le16 (w.toNat / 65536) ++ []) 0 := rfl
    rw [he, u16At_le16]
  rw [u32At, low, high]
  have := w.isLt
  omega

/-- The state in which a frame of the line is routed: no frame in reception (R161). -/
theorem State.dropFrame_eq (s : State) :
    s.modLine LineLink.dropFrame = { s with line := { s.line with rx := none, frameTimer := none } } := rfl

/-- A frame whose first character is taken, at the moment it completes (R159, R161). -/
theorem State.wholeFrame_taken (htx : s.line.txEnable = false) (hsp : s.line.spoiled = false) (address : Nat) (kind : Byte)
    (payload : List Byte) :
    s.wholeFrame address kind payload = (s.modLine LineLink.dropFrame).routeFrame address kind payload := by
  unfold State.wholeFrame
  rw [htx, hsp]
  rfl

theorem State.snoopOn_iff (s : State) :
    s.snoopOn = true ↔ s.store.settings.indexer ≠ s.line.strap.toNat ∧ s.sup.mode ≠ .starting := by
  simp [State.snoopOn]

/-- A frame whose kind names no supervisor command is taken and refused (R163, R165). -/
theorem State.commandFrame_unknown {kind : Byte} (hk : commandOf kind = none) (ht : s.takes) (payload : List Byte) :
    (s.modLine LineLink.dropFrame).commandFrame kind payload = s.replies 0xFF [1, kind] := by
  obtain ⟨-, -, -, hreply⟩ := ht
  unfold State.commandFrame
  rw [if_pos (show (s.modLine LineLink.dropFrame).line.reply = .none from hreply), hk]
  exact formReply_owing (refusedReply .unknownKind kind) rfl

/-- A frame to the indexer address that snoop does not take (R162). -/
theorem State.routeFrame_strap (hs : s.snoopOn = false) (address : Nat) (kind : Byte) (payload : List Byte) :
    s.routeFrame address kind payload =
      if s.line.strap ≠ 0 ∧ address = s.line.strap.toNat then s.commandFrame kind payload else s := by
  unfold State.routeFrame
  rw [if_neg fun hn => absurd (hs.symm.trans hn.1) (by decide)]

theorem State.routeFrame_snooped (hs : s.snoopOn = true) (kind : Byte) (payload : List Byte) :
    s.routeFrame s.store.settings.indexer kind payload = s.snoop kind payload := if_pos ⟨hs, rfl⟩

/-- An INDEX frame acted on (R175, R176). -/
theorem indexEvent_acts (s : State) (serial : Word32) :
    let t := s.indexEvent serial
    t.sup.coil = serial ∧ t.sup.indexCount = s.sup.indexCount + 1 ∧ t.sup.enable = s.sup.enable ∧
      t.sup.restart = s.sup.restart ∧ t.links = s.links ∧ t.cabinet = s.cabinet ∧ t.line = s.line ∧
      ∀ h, (∀ c, (s.heads.get h).state = .lookup ∨ (s.heads.get h).state = .heating → (s.heads.get h).ctx = some c →
          s.cycleOver t h c.cycle .aborted (some .indexed)) ∧
        (∀ c, (s.heads.get h).state = .hold → (s.heads.get h).ctx = some c →
          t.heads.get h = { s.heads.get h with ctx := some { c with flags := { c.flags with indexInHold := true } } } ∧
          t.drives.get h = s.drives.get h ∧ t.trace.reservation.get h = s.trace.reservation.get h) ∧
        (s.isActive h = false → s.headUntouched t h) := by
  intro t
  let s0 := s.modSup fun u => { u with coil := serial, indexCount := u.indexCount + 1 }
  have hset : s0.SameSetting t :=
    State.forHeads_keeps _ s0.SameSetting _ (fun h t ht => ht.indexHead h) ⟨rfl, rfl, rfl, rfl, rfl⟩
  have hsup : s0.sup.SameButMode t.sup :=
    State.forHeads_keeps _ (fun t => s0.sup.SameButMode t.sup) _ (fun h t ht => ht.trans (t.indexHead_sameButMode h)) rfl
  rw [hsup]
  refine ⟨rfl, rfl, rfl, rfl, hset.links, hset.cabinet, hset.line, fun h => ?_⟩
  obtain ⟨u, -, h1, h2⟩ := State.forHeads_alone (f := fun h t => t.indexHead h) (fun _ => True)
    (fun h t k hk _ => t.alone_indexHead hk) (fun _ _ _ => trivial) s0 trivial h
  obtain ⟨heads1, -, drives1, -, -, res1⟩ := h1.untouched
  have hu : (u.heads.get h).state = (s.heads.get h).state := congrArg Head.state heads1
  refine ⟨fun c hst hc => ?_, fun c hst hc => ?_, fun ha => ?_⟩
  · have he : u.indexHead h = u.endCycle h (some .indexed) := by
      unfold State.indexHead
      rw [hu]
      rcases hst with hst | hst <;> rw [hst]
    simp only [he] at h2
    exact h1.endCycle h2 ((s.isActive_iff h).mpr (hst.imp_right .inl)) hc
  · have he : u.indexHead h = u.modFlags h fun f => { f with indexInHold := true } := by
      unfold State.indexHead
      rw [hu, hst]
    simp only [he] at h2
    obtain ⟨heads2, -, drives2, -, -, res2⟩ := h2.untouched
    refine ⟨?_, drives2.trans drives1, res2.trans res1⟩
    refine heads2.trans ?_
    rw [State.modFlags_heads_same, heads1]
    simp only [s0, State.modSup_heads, hc, Option.map_some]
  · have he : u.indexHead h = u := by
      have hna := mt (s.isActive_iff h).mpr (by simp [ha])
      unfold State.indexHead
      rw [hu]
      split <;> simp_all
    simp only [he] at h2
    exact (h1.trans h2).untouched

/-- Settles O33. -/
theorem cabinetAndIndexReachEveryHead : Obligations.CabinetAndIndexReachEveryHead := by
  refine ⟨fun s => ⟨fun hcab => ?_, fun level hcab => if_pos hcab, cabinet_notReady⟩, fun serial s => ?_⟩
  · simp only [exec, execCabinetInputChange, hcab]
    exact if_neg (by decide)
  · have exec_eq : exec (.index serial) s = .next (s.wholeFrame s.store.settings.indexer 0x51 (leWord32 serial)) := rfl
    have snoop_off : s.store.settings.indexer = s.line.strap.toNat ∨ s.sup.mode = .starting →
        (s.modLine LineLink.dropFrame).snoopOn = false := fun hn => by
      rw [Bool.eq_false_iff, Ne, State.snoopOn_iff]
      exact fun ⟨h1, h2⟩ => hn.elim h1 h2
    refine ⟨fun htx => ?_, fun htx hsp => ?_, fun ht hidx => ?_, fun htx hsp hidx hn => ?_, fun htx hsp hidx hm => ?_,
      fun htx hsp hidx hm => ?_⟩
    · rw [exec_eq, State.wholeFrame, if_pos htx]
    · rw [exec_eq, State.wholeFrame, if_neg (by simp [htx]), if_pos hsp]
      rfl
    · obtain ⟨htx, hsp, hstrap, -⟩ := id ht
      rw [exec_eq, State.wholeFrame_taken htx hsp, State.routeFrame_strap (snoop_off (.inl hidx)),
        if_pos ⟨hstrap, hidx⟩, State.commandFrame_unknown (by decide) ht]
    · rw [exec_eq, State.wholeFrame_taken htx hsp, State.routeFrame_strap (snoop_off (.inl hidx))]
      split
      · next hstrap =>
        rw [State.commandFrame, if_neg (show (s.modLine LineLink.dropFrame).line.reply ≠ .none from
          hn.resolve_left hstrap.1)]
        rfl
      · rfl
    · rw [exec_eq, State.wholeFrame_taken htx hsp, State.routeFrame_strap (snoop_off (.inr hm)),
        if_neg fun hn => hidx hn.2]
      rfl
    · have hs : (s.modLine LineLink.dropFrame).snoop 0x51 (leWord32 serial) =
          (s.modLine LineLink.dropFrame).indexEvent serial := by
        rw [State.snoop, if_pos ⟨rfl, rfl⟩, u32At_leWord32, BitVec.ofNat_toNat, BitVec.setWidth_eq]
      refine ⟨_, ?_, indexEvent_acts (s.modLine LineLink.dropFrame) serial⟩
      rw [exec_eq, State.wholeFrame_taken htx hsp, ← hs]
      exact congrArg _ (State.routeFrame_snooped (s := s.modLine LineLink.dropFrame)
        ((State.snoopOn_iff (s.modLine LineLink.dropFrame)).mpr ⟨hidx, hm⟩) 0x51 _)

/-! ### The abort-all character and the gap limit (O35) -/

theorem State.alone_abortAllHead (s : State) (l : LinkId) (hk : k ≠ h) : s.Alone (State.abortAllHead l h s) k := by
  unfold State.abortAllHead
  split
  · exact s.alone_endCycle _ hk
  · exact .refl s k

theorem State.SameSetting.abortAllHead (hst : s.SameSetting t) (l : LinkId) (h : HeadId) :
    s.SameSetting (State.abortAllHead l h t) := by
  unfold State.abortAllHead
  split
  · exact hst.endCycle h _
  · exact hst

/-- The unit in reception closed, written out (R126). -/
theorem StationLink.closeUnit_eq (k : StationLink) : k.closeUnit = { k with
    closed := k.closed ++ k.opened.toList, opened := none, interTimer := if k.opened = none then k.interTimer else none } := by
  obtain ⟨st, closed, opened, timer, rest⟩ := k
  cases opened with
  | none => simp [StationLink.closeUnit]
  | some u => rfl

/-- The abort-all character on a link (R131, R68). -/
theorem State.abortAll_acts (s : State) (l : LinkId) :
    let t := s.abortAll l
    t.links = s.links.modify l StationLink.closeUnit ∧ t.line = s.line ∧ t.cabinet = s.cabinet ∧
      ∀ h, (∀ c, (s.store.inForce.get h).owner = some l → s.isActive h = true → (s.heads.get h).ctx = some c →
          s.cycleOver t h c.cycle .aborted (some .stationLine)) ∧
        ((s.store.inForce.get h).owner ≠ some l ∨ s.isActive h = false → s.headUntouched t h) := by
  intro t
  let s0 := s.modLink l StationLink.closeUnit
  have hset : s0.SameSetting t :=
    State.forHeadsInOrder_keeps _ s0.SameSetting _ (fun h t ht => ht.abortAllHead l h) ⟨rfl, rfl, rfl, rfl, rfl⟩
  refine ⟨hset.links, hset.line, hset.cabinet, fun h => ?_⟩
  obtain ⟨u, hu, h1, h2⟩ := State.forHeadsInOrder_alone (f := State.abortAllHead l) s0.SameSetting
    (fun h t k hk _ => t.alone_abortAllHead l hk) (fun h t ht => ht.abortAllHead l h) s0 ⟨rfl, rfl, rfl, rfl, rfl⟩ h
  have howner : (u.fields h).owner = (s.store.inForce.get h).owner := by rw [State.fields, hu.inForce]; rfl
  refine ⟨fun c howns ha hc => ?_, fun hn => ?_⟩
  · have he : State.abortAllHead l h u = u.endCycle h (some .stationLine) := if_pos (howner.trans howns)
    rw [he] at h2
    exact h1.endCycle h2 ha hc
  · have he : State.abortAllHead l h u = u := by
      unfold State.abortAllHead
      split
      · next howns =>
        exact u.endCycle_of_inactive h _ (h1.isActive.trans (hn.resolve_left fun hne => hne (howner.symm.trans howns)))
      · rfl
    rw [he] at h2
    exact (h1.trans h2).untouched

/-- Settles O35. -/
theorem abortAllStopsTheHeadsOfItsLink : Obligations.AbortAllStopsTheHeadsOfItsLink := by
  intro l s k closed
  have hclose : k.closeUnit = closed := k.closeUnit_eq
  refine ⟨fun hrun hsp => ?_, fun hgap => ?_⟩
  · have hquiet : (s.modLink l fun k => { k with spoiled := false }) = s := by
      have hk : ({ s.links.get l with spoiled := false } : StationLink) = s.links.get l := by rw [← hsp]
      rw [State.modLink, PerSix.modify, hk, set_get_self]
    refine ⟨s.abortAll l, ?_, ?_⟩
    · simp only [exec, execStationCharacter, hquiet]
      rw [show (s.links.get l).state = .running from hrun, show (s.links.get l).spoiled = false from hsp]
      rfl
    · obtain ⟨hlinks, hrest⟩ := s.abortAll_acts l
      exact ⟨by rw [hlinks, PerSix.modify]; exact congrArg _ hclose, hrest⟩
  · cases hi : k.interTimer with
    | none => exact absurd hi hgap
    | some w =>
      simp only [exec, execInterCharacterTimerExpiry, show (s.links.get l).interTimer = some w from hi]
      rw [State.modLink, PerSix.modify, show (s.links.get l).closeUnit = closed from hclose]

end Sys2Proof.Machine
end

section
/-! PROOFS. The first of a list of tests that fails, and the first of the six that has a property. -/

namespace Sys2Proof.Machine

/-! ### The first test that fails (R3, R5, R6, R177) -/

@[simp] theorem firstFailing_nil : firstFailing [] = none := rfl

theorem firstFailing_pass {n : Nat} {b : Bool} (hb : b = true) (tests : List (Nat × Bool)) :
    firstFailing ((n, b) :: tests) = firstFailing tests := by
  subst hb; rfl

theorem firstFailing_fail {n : Nat} {b : Bool} (hb : b = false) (tests : List (Nat × Bool)) :
    firstFailing ((n, b) :: tests) = some n := by
  subst hb; rfl

theorem firstFailing_append {l1 : List (Nat × Bool)} (h1 : firstFailing l1 = none) (l2 : List (Nat × Bool)) :
    firstFailing (l1 ++ l2) = firstFailing l2 := by
  simp only [firstFailing, Option.map_eq_none_iff] at h1 ⊢
  rw [List.find?_append, h1, Option.none_or]

theorem firstFailing_append_fail {l1 : List (Nat × Bool)} {n : Nat} (h1 : firstFailing l1 = some n)
    (l2 : List (Nat × Bool)) : firstFailing (l1 ++ l2) = some n := by
  simp only [firstFailing, Option.map_eq_some_iff] at h1 ⊢
  obtain ⟨t, ht, hn⟩ := h1
  exact ⟨t, by rw [List.find?_append, ht, Option.some_or], hn⟩

/-- Tests numbered one after another, all of which pass. -/
theorem firstFailing_range_pass {count : Nat} {f : Nat → Nat × Bool} (hp : ∀ j, j < count → (f j).2 = true) :
    firstFailing ((List.range count).map f) = none := by
  simp only [firstFailing, Option.map_eq_none_iff, List.find?_eq_none]
  intro t ht
  obtain ⟨j, hj, rfl⟩ := List.mem_map.mp ht
  simp [hp j (List.mem_range.mp hj)]

/-- Tests numbered one after another, the first of which to fail is `j`. -/
theorem firstFailing_range_fail {count j : Nat} {f : Nat → Nat × Bool} (hj : j < count) (hfail : (f j).2 = false)
    (hpass : ∀ i, i < j → (f i).2 = true) : firstFailing ((List.range count).map f) = some (f j).1 := by
  refine Option.map_eq_some_iff.mpr ⟨f j, List.find?_eq_some_iff_getElem.mpr ⟨by simp [hfail], j, by simpa using hj, by simp, ?_⟩, rfl⟩
  intro i hi
  simp [hpass i hi]

/-! ### The first of six -/

theorem sixInOrder_find_some {p : HeadId → Bool} {h : HeadId} (hp : p h = true) (hlow : ∀ k, k < h → p k = false) :
    sixInOrder.find? p = some h := by
  have split : ∀ h : HeadId, sixInOrder = sixInOrder.take h.val ++ h :: sixInOrder.drop (h.val + 1) := by decide
  have below : ∀ h : HeadId, ∀ k ∈ sixInOrder.take h.val, k < h := by decide
  refine List.find?_eq_some_iff_append.mpr ⟨hp, _, _, split h, fun k hk => ?_⟩
  simp [hlow k (below h k hk)]

theorem sixInOrder_find_none {p : HeadId → Bool} (hp : ∀ k, p k = false) : sixInOrder.find? p = none :=
  List.find?_eq_none.mpr fun k _ => by simp [hp k]

end Sys2Proof.Machine
end

section
/-! PROOFS. SET_BUDGET, ACK_RESTART, HEAD_ENABLE and LOAD_REPLAY (O44). -/

namespace Sys2Proof.Machine

variable {s : State} {p : List Byte}

/-! ### HEAD_ENABLE (R173) -/

theorem gateFailure_headEnable (ht : s.takesStarted) : gateFailure .headEnable 2 s.sup.mode = none :=
  gateFailure_none _ _ _ rfl ht.2 rfl

theorem exec_headEnable_refused (ht : s.takesStarted) {head value : Byte} {d : Byte}
    (hp : performHeadEnable [head, value] s.owing = (s.owing, .refused .invalid d)) :
    exec (.headEnable [head, value]) s = .next (s.replies 0xFF [7, d]) :=
  exec_refused_unchanged (k := .headEnable) (r := .invalid) ht.1 (gateFailure_headEnable ht) hp

/-- A HEAD_ENABLE off at its head: the enable cleared, the active cycle ended, the other heads left (R173, R65). -/
theorem State.enableHead_off (s : State) (h : HeadId) :
    let t := s.enableHead h false
    t.sup.enable = s.sup.enable.set h false ∧ t.links = s.links ∧ t.cabinet = s.cabinet ∧ t.line = s.line ∧
      (∀ c, s.isActive h = true → (s.heads.get h).ctx = some c → s.cycleOver t h c.cycle .aborted (some .disabled)) ∧
      (s.isActive h = false → s.headUntouched t h) ∧ ∀ k, k ≠ h → s.headUntouched t k := by
  intro t
  let s0 := s.setEnable h false
  have hsup : t.sup = { s0.sup with mode := t.sup.mode } := s0.endCycle_sameButMode h _
  refine ⟨by rw [hsup]; rfl, s0.endCycle_links h _, s0.endCycle_cabinet h _, s0.endCycle_line h _,
    fun c ha hc => s0.endCycle_cycleOver h .disabled ha hc, fun ha => ?_, fun k hk => s0.endCycle_untouched h _ hk⟩
  have he : t = s0 := s0.endCycle_of_inactive h _ ha
  rw [he]
  exact .refl s h

/-- HEAD_ENABLE, by head and value (R173). -/
theorem headEnable_acts (ht : s.takesStarted) (head value : Byte) :
    (5 < head.toNat → exec (.headEnable [head, value]) s = .next (s.replies 0xFF [7, 255])) ∧
      ∀ h : HeadId, head.toNat = h.val →
        (1 < value.toNat → exec (.headEnable [head, value]) s = .next (s.replies 0xFF [7, 1])) ∧
        (value = 1 → exec (.headEnable [head, value]) s =
          .next ({ s with sup := { s.sup with enable := s.sup.enable.set h true } }.replies 0x85
            (leHeadSet (s.sup.enable.set h true)))) ∧
        (value = 0 → ∃ t, exec (.headEnable [head, value]) s = .next t ∧
          t.sup.enable = s.sup.enable.set h false ∧ t.links = s.links ∧ t.cabinet = s.cabinet ∧
          t.line.replyFrame = some { kind := 0x85, payload := leHeadSet (s.sup.enable.set h false) } ∧
          (∀ c, s.isActive h = true → (s.heads.get h).ctx = some c →
            s.cycleOver t h c.cycle .aborted (some .disabled)) ∧
          (s.isActive h = false → s.headUntouched t h) ∧ ∀ k, k ≠ h → s.headUntouched t k) := by
  refine ⟨fun hhead => exec_headEnable_refused ht ?_, fun h hhead => ⟨fun hv => exec_headEnable_refused ht ?_, fun hv => ?_,
    fun hv => ?_⟩⟩
  · simp only [performHeadEnable, headOf_first_none (p := [head, value]) hhead]
    rfl
  · simp only [performHeadEnable, headOf_first (p := [head, value]) hhead]
    exact if_pos hv
  · subst hv
    refine exec_success (k := .headEnable) (t := s.owing.setEnable h true) [head, 1] _ ht.1 (gateFailure_headEnable ht) ?_ rfl
    simp only [CommandKind.perform, performHeadEnable, headOf_first (p := [head, 1]) hhead]
    rfl
  · subst hv
    obtain ⟨henable, hlinks, hcabinet, hline, hrest⟩ := s.owing.enableHead_off h
    refine ⟨_, exec_success (k := .headEnable) (t := s.owing.enableHead h false) [head, 0] (leHeadSet (s.sup.enable.set h false))
      ht.1 (gateFailure_headEnable ht) ?_ hline, henable, hlinks, hcabinet, rfl, hrest⟩
    simp only [CommandKind.perform, performHeadEnable, headOf_first (p := [head, 0]) hhead]
    rw [show byteAt [head, 0] 1 = 0 from rfl, if_neg (by decide), show ((0 : Nat) == 1) = false from rfl, henable]
    rfl

/-! ### LOAD_REPLAY (R177) -/

theorem gateFailure_loadReplay (hm : s.sup.mode = .service) {m : Nat} (h1 : 1 ≤ m) (h2 : m ≤ 40) (hlen : p.length = 3 + 3 * m) :
    gateFailure .loadReplay p.length s.sup.mode = none := by
  have hok : CommandKind.lengthOk .loadReplay p.length = true := by
    simp only [CommandKind.lengthOk, within, hlen, Bool.and_eq_true, decide_eq_true_eq, beq_iff_eq]
    omega
  exact gateFailure_none _ _ _ hok (by rw [hm]; decide) (by rw [hm]; rfl)

theorem exec_loadReplay_refused (ht : s.takes) (hgate : gateFailure .loadReplay p.length s.sup.mode = none) {r : LineRefusal}
    {d : Byte} (hp : performLoadReplay p s.owing = (s.owing, .refused r d)) :
    exec (.loadReplay p) s = .next (s.replies 0xFF [BitVec.ofNat 8 r.code, d]) :=
  exec_refused_unchanged (k := .loadReplay) ht hgate hp

theorem exec_loadReplay_invalid (ht : s.takes) (hgate : gateFailure .loadReplay p.length s.sup.mode = none)
    (hidle : s.lowestActive = none) {d : Nat} (hp : firstFailing (replayTests p) = some d) :
    exec (.loadReplay p) s = .next (s.replies 0xFF [7, BitVec.ofNat 8 d]) := by
  refine exec_loadReplay_refused (r := .invalid) ht hgate ?_
  have hnone : s.owing.lowestActive = none := hidle
  simp only [performLoadReplay, hnone, hp]
  rfl

theorem replayStatus_isSome (k : Nat) : (replayStatus p k).isSome = true ↔ byteAt p (5 + 3 * k) ≤ 3 := by
  unfold replayStatus
  generalize byteAt p (5 + 3 * k) = n
  match n with
  | 0 | 1 | 2 | 3 => simp [sampleStatusOf]
  | n + 4 => simp [sampleStatusOf]

theorem within_iff (lo hi n : Nat) : within lo hi n = true ↔ lo ≤ n ∧ n ≤ hi := by simp [within]

theorem within_false (lo hi n : Nat) : within lo hi n = false ↔ n < lo ∨ hi < n := by
  rw [Bool.eq_false_iff, Ne, within_iff]; omega

section tests
variable {m : Nat} (hlen : p.length = 3 + 3 * m)
include hlen

theorem replayHeld_eq : replayHeld p = m := by unfold replayHeld; omega

/-- The first two of R177's tests, passed. -/
theorem replayTests_counted (h1 : 1 ≤ m) (h2 : m ≤ 40) (hoff : u16At p 0 ≤ 255) (hcount : byteAt p 2 = m) :
    firstFailing (replayTests p) = firstFailing
      ((0, decide (u16At p 0 + byteAt p 2 ≤ 256)) :: (List.range (byteAt p 2)).map fun k =>
        (2 + k, (replayStatus p k).isSome)) := by
  unfold replayTests
  rw [List.cons_append, firstFailing_pass (decide_eq_true hoff), List.cons_append, firstFailing_pass]
  · rfl
  · rw [replayHeld_eq hlen, hcount, Bool.and_eq_true, within_iff]
    exact ⟨⟨h1, h2⟩, beq_self_eq_true m⟩

theorem replayTests_placed (h1 : 1 ≤ m) (h2 : m ≤ 40) (hcount : byteAt p 2 = m) (hfits : u16At p 0 + byteAt p 2 ≤ 256) :
    firstFailing (replayTests p) = firstFailing
      ((List.range (byteAt p 2)).map fun k => (2 + k, (replayStatus p k).isSome)) := by
  rw [replayTests_counted hlen h1 h2 (by omega) hcount, firstFailing_pass (decide_eq_true hfits)]

end tests

/-- What a table holds after entries are written in it (R177). -/
theorem writeReplay_outside {table entries : List ReplayEntry} {offset j : Nat}
    (hfits : offset + entries.length ≤ table.length) (hj : j < offset ∨ offset + entries.length ≤ j) :
    (writeReplay table offset entries)[j]? = table[j]? := by
  unfold writeReplay
  rcases hj with hj | hj
  · rw [List.append_assoc, List.getElem?_append_left (by rw [List.length_take]; omega), List.getElem?_take_of_lt hj]
  · rw [List.getElem?_append_right (by rw [List.length_append, List.length_take]; omega), List.getElem?_drop]
    congr 1
    rw [List.length_append, List.length_take]
    omega

theorem writeReplay_inside {table entries : List ReplayEntry} {offset j : Nat}
    (hfits : offset + entries.length ≤ table.length) (hj : j < entries.length) :
    (writeReplay table offset entries)[offset + j]? = entries[j]? := by
  unfold writeReplay
  have htake : (table.take offset).length = offset := by rw [List.length_take]; omega
  rw [List.append_assoc, List.getElem?_append_right (by omega), List.getElem?_append_left (by omega), htake,
    Nat.add_sub_cancel_left]

theorem replayEntriesOf_length (p : List Byte) : (replayEntriesOf p).length = byteAt p 2 := by simp [replayEntriesOf]

theorem replayEntriesOf_get {j : Nat} (hj : j < byteAt p 2) {status : SampleStatus} (hs : replayStatus p j = some status) :
    (replayEntriesOf p)[j]? = some { raw := replayRaw p j, status := status } := by
  simp [replayEntriesOf, hj, hs]

/-- LOAD_REPLAY that passes its tests (R177). -/
theorem loadReplay_acts (ht : s.takes) (hgate : gateFailure .loadReplay p.length s.sup.mode = none) (hidle : s.lowestActive = none)
    (hp : firstFailing (replayTests p) = none) :
    exec (.loadReplay p) s =
      .next ({ s with sup := { s.sup with
          replayTable := writeReplay s.sup.replayTable (u16At p 0) (replayEntriesOf p) } }.replies 0xA8
        [BitVec.ofNat 8 (u16At p 0), BitVec.ofNat 8 (u16At p 0 / 256), BitVec.ofNat 8 (byteAt p 2)]) := by
  refine exec_success (k := .loadReplay) (t := s.owing.modSup fun u => { u with
    replayTable := writeReplay u.replayTable (u16At p 0) (replayEntriesOf p) }) p _ ht hgate ?_ rfl
  have hnone : s.owing.lowestActive = none := hidle
  simp only [CommandKind.perform, performLoadReplay, hnone, hp]
  rfl

/-- Settles O44. -/
theorem supervisionCommandsSetTheirItem : Obligations.SupervisionCommandsSetTheirItem := by
  intro s
  refine ⟨fun ht lo hi => ?_, fun ht => ?_, headEnable_acts, fun ht hm p hp => ?_⟩
  · intro v
    have hv : min (u16At [lo, hi] 0) Config.maxBudget = v := rfl
    refine exec_success (k := .setBudget) (t := s.owing.modDisp fun d => { d with budgetSetting := v }) [lo, hi] (le16 v) ht ?_
      (by rw [← hv]; rfl) rfl
    cases s.sup.mode <;> rfl
  · exact exec_success (k := .ackRestart) (t := s.owing.modSup fun u => { u with restart := false }) [] [0] ht.1
      (gateFailure_none _ _ _ rfl ht.2 rfl) rfl rfl
  · intro offset count
    obtain ⟨m, h1, h2, hlen⟩ := hp
    have hgate := gateFailure_loadReplay hm h1 h2 hlen
    refine ⟨fun h ha hlow => ?_, fun hidle => ?_⟩
    · refine exec_loadReplay_refused (r := .inUse) ht hgate ?_
      have hfind : s.owing.lowestActive = some h := sixInOrder_find_some ha hlow
      simp only [performLoadReplay, hfind]
    · have hnone : s.lowestActive = none := sixInOrder_find_none hidle
      refine ⟨fun hoff => ?_, fun hoff hcount => ?_, fun hoff hcount hover => ?_, fun hcount hfits h1' => ⟨fun j hj hbad hlow => ?_,
        fun hgood htable => ?_⟩⟩
      · exact exec_loadReplay_invalid ht hgate hnone (firstFailing_fail (decide_eq_false (by omega)) _)
      · refine exec_loadReplay_invalid ht hgate hnone ((firstFailing_pass (decide_eq_true hoff) _).trans (firstFailing_fail ?_ _))
        rw [replayHeld_eq hlen, Bool.and_eq_false_iff]
        exact .inr (beq_false_of_ne fun he => hcount (by rw [hlen]; exact congrArg _ (congrArg _ he.symm)))
      · have hc : byteAt p 2 = m := by omega
        exact exec_loadReplay_invalid ht hgate hnone ((replayTests_counted hlen h1 h2 hoff hc).trans
          (firstFailing_fail (decide_eq_false (by omega)) _))
      · have hc : byteAt p 2 = m := by omega
        refine exec_loadReplay_invalid ht hgate hnone ((replayTests_placed hlen h1 h2 hc hfits).trans
          (firstFailing_range_fail (f := fun k => (2 + k, (replayStatus p k).isSome)) hj ?_ fun i hi => ?_))
        · rw [Bool.eq_false_iff, Ne, replayStatus_isSome]; omega
        · exact (replayStatus_isSome i).mpr (hlow i hi)
      · have hc : byteAt p 2 = m := by omega
        have hn := (replayTests_placed hlen h1 h2 hc hfits).trans
          (firstFailing_range_pass fun j hj => (replayStatus_isSome j).mpr (hgood j hj))
        have hroom : offset + (replayEntriesOf p).length ≤ s.sup.replayTable.length := by
          rw [replayEntriesOf_length, htable]; exact hfits
        refine ⟨_, loadReplay_acts ht hgate hnone hn, (writeReplay_length hroom).trans htable, fun j hj => ?_, fun j hj => ?_⟩
        · exact writeReplay_outside hroom (by rw [replayEntriesOf_length]; exact hj)
        · obtain ⟨status, hs⟩ := Option.isSome_iff_exists.mp ((replayStatus_isSome j).mpr (hgood j hj))
          refine ⟨status, hs, ?_⟩
          rw [writeReplay_inside hroom (by rw [replayEntriesOf_length]; exact hj), replayEntriesOf_get hj hs]
          rfl

end Sys2Proof.Machine
end

section
/-! PROOFS. SET_MODE and CLEAR (O45, O46). -/

namespace Sys2Proof.Machine

variable {s t : State} {h k : HeadId}

/-! ### SET_MODE (R169, Table 9.3) -/

theorem gateFailure_setMode (ht : s.takesStarted) : gateFailure .setMode 1 s.sup.mode = none :=
  gateFailure_none _ _ _ rfl ht.2 rfl

/-- A SET_MODE that moves the mode and nothing else. -/
theorem exec_setMode_moved (ht : s.takesStarted) {target : Byte} {m : Mode}
    (hp : performSetMode [target] s.owing = modeSuccess (s.owing.setModeTo m)) :
    exec (.setMode [target]) s =
      .next ({ s with sup := { s.sup with mode := m } }.replies 0x83 [BitVec.ofNat 8 m.code]) :=
  exec_success (k := .setMode) (t := s.owing.setModeTo m) [target] _ ht.1 (gateFailure_setMode ht) hp rfl

theorem exec_setMode_refused (ht : s.takesStarted) {target : Byte} {r : LineRefusal} {d : Byte}
    (hp : performSetMode [target] s.owing = (s.owing, .refused r d)) :
    exec (.setMode [target]) s = .next (s.replies 0xFF [BitVec.ofNat 8 r.code, d]) :=
  exec_refused_unchanged (k := .setMode) ht.1 (gateFailure_setMode ht) hp

theorem performSetMode_standby (s : State) : performSetMode [1] s = s.toStandby := rfl
theorem performSetMode_production (s : State) : performSetMode [2] s = s.toProduction := rfl
theorem performSetMode_service (s : State) : performSetMode [4] s = s.toService := rfl

/-- A target that is no mode to set (R169). -/
theorem performSetMode_other {target : Byte} (h1 : target ≠ 1) (h2 : target ≠ 2) (h4 : target ≠ 4) (s : State) :
    performSetMode [target] s = (s, invalid 0) := by
  have ne : ∀ b : Byte, target ≠ b → target.toNat ≠ b.toNat := fun b hb he => hb (BitVec.eq_of_toNat_eq he)
  have n1 : byteAt [target] 0 ≠ 1 := ne 1 h1
  have n2 : byteAt [target] 0 ≠ 2 := ne 2 h2
  have n4 : byteAt [target] 0 ≠ 4 := ne 4 h4
  unfold performSetMode
  split
  · next he => exact absurd he n1
  · next he => exact absurd he n2
  · next he => exact absurd he n4
  · rfl

/-- Staying in the mode a SET_MODE names. -/
theorem State.setModeTo_self {m : Mode} (hm : s.sup.mode = m) : s.setModeTo m = s := by
  subst hm; rfl

theorem State.anyActive_false (hidle : ∀ h, s.isActive h = false) : s.anyActive = false := by
  rw [Bool.eq_false_iff, Ne, State.anyActive_iff]
  rintro ⟨h, hh⟩
  exact absurd (hh.symm.trans (hidle h)) (by decide)

theorem State.alone_endDry (s : State) (hk : k ≠ h) : s.Alone (State.endDry h s) k := by
  unfold State.endDry
  split
  · exact s.alone_endCycle _ hk
  · exact .refl s k

theorem State.SameSetting.endDry (hst : s.SameSetting t) (h : HeadId) : s.SameSetting (State.endDry h t) := by
  unfold State.endDry
  split
  · exact hst.endCycle h _
  · exact hst

theorem State.endCycle_sup_of_not_draining (s : State) (h : HeadId) (reason : Option Reason) (hm : s.sup.mode ≠ .draining) :
    (s.endCycle h reason).sup = s.sup :=
  (s.endCycle_sup h reason).resolve_right fun hd => hm hd.1

/-- SERVICE to STANDBY ends the dry cycles (R65, R169). -/
theorem endService_acts (s : State) :
    let t := (s.setModeTo .standby).forHeads State.endDry
    t.sup = { s.sup with mode := .standby } ∧ t.links = s.links ∧ t.line = s.line ∧
      ∀ h, (∀ c, s.isActive h = true → (s.heads.get h).ctx = some c → c.dry = true →
          s.cycleOver t h c.cycle .aborted (some .mode)) ∧
        (s.isActive h = false ∨ s.isDry h = false → s.headUntouched t h) := by
  intro t
  let s0 := s.setModeTo .standby
  have hset : s0.SameSetting t := State.forHeads_keeps _ s0.SameSetting _ (fun h t ht => ht.endDry h) ⟨rfl, rfl, rfl, rfl, rfl⟩
  have hsup : t.sup = s0.sup := State.forHeads_keeps _ (fun t => t.sup = s0.sup) _ (fun h t ht => by
    unfold State.endDry
    split
    · rw [t.endCycle_sup_of_not_draining h _ (by rw [ht]; exact fun hn => by cases hn), ht]
    · exact ht) rfl
  refine ⟨hsup, hset.links, hset.line, fun h => ?_⟩
  obtain ⟨u, -, h1, h2⟩ := State.forHeads_alone (f := State.endDry) (fun _ => True)
    (fun h t k hk _ => t.alone_endDry hk) (fun _ _ _ => trivial) s0 trivial h
  refine ⟨fun c ha hc hdry => ?_, fun hn => ?_⟩
  · have he : State.endDry h u = u.endCycle h (some .mode) :=
      if_pos (h1.isDry.trans ((State.isDry_of_ctx (s := s0) hc).trans hdry))
    rw [he] at h2
    exact h1.endCycle h2 ha hc
  · have he : State.endDry h u = u := by
      unfold State.endDry
      split
      · next hdry =>
        exact u.endCycle_of_inactive h _ (h1.isActive.trans (hn.resolve_right fun hd =>
          absurd ((h1.isDry.trans hd).symm.trans hdry) (by decide)))
      · rfl
    rw [he] at h2
    exact (h1.trans h2).untouched

/-- Settles O45. -/
theorem setModeFollowsItsTable : Obligations.SetModeFollowsItsTable := by
  intro s ht now moved refused
  have hnow : ∀ m, now = m → s.owing.sup.mode = m := fun m hm => hm
  have stays : ∀ m, now = m → modeSuccess s.owing = modeSuccess (s.owing.setModeTo m) := fun m hm => by
    rw [State.setModeTo_self (hnow m hm)]
  refine ⟨fun target h1 h2 h4 => exec_setMode_refused (r := .invalid) ht (performSetMode_other h1 h2 h4 s.owing),
    fun hm => ⟨?_, ?_, fun hr => ?_, fun hr => ?_⟩, fun hm => ⟨?_, ?_, fun ha => ?_, fun hidle => ?_⟩, fun hm => ⟨?_, ?_, ?_⟩,
    fun hm => ⟨?_, ?_, ?_⟩⟩
  · refine exec_setMode_moved ht ?_
    rw [performSetMode_standby, State.toStandby, hnow _ hm]
    exact stays _ hm
  · refine exec_setMode_moved ht ?_
    rw [performSetMode_service, State.toService, hnow _ hm]
  · refine exec_setMode_refused (r := .restartPending) ht ?_
    rw [performSetMode_production, State.toProduction, hnow _ hm]
    exact if_pos hr
  · refine exec_setMode_moved ht ?_
    rw [performSetMode_production, State.toProduction, hnow _ hm]
    exact if_neg (by simp [hr])
  · refine exec_setMode_moved ht ?_
    rw [performSetMode_production, State.toProduction, hnow _ hm]
    exact stays _ hm
  · refine exec_setMode_refused (r := .mode) ht ?_
    rw [performSetMode_service, State.toService, hnow _ hm]
    rfl
  · refine exec_setMode_moved ht ?_
    have hany : s.owing.anyActive = true := (State.anyActive_iff s.owing).mpr ha
    rw [performSetMode_standby, State.toStandby, hnow _ hm, hany]
    rfl
  · refine exec_setMode_moved ht ?_
    have hany : s.owing.anyActive = false := State.anyActive_false (s := s.owing) hidle
    rw [performSetMode_standby, State.toStandby, hnow _ hm, hany]
    rfl
  · refine exec_setMode_moved ht ?_
    rw [performSetMode_standby, State.toStandby, hnow _ hm]
    exact stays _ hm
  · refine exec_setMode_moved ht ?_
    rw [performSetMode_production, State.toProduction, hnow _ hm]
  · refine exec_setMode_refused (r := .busy) ht ?_
    rw [performSetMode_service, State.toService, hnow _ hm]
    rfl
  · refine exec_setMode_moved ht ?_
    rw [performSetMode_service, State.toService, hnow _ hm]
    exact stays _ hm
  · refine exec_setMode_refused (r := .mode) ht ?_
    rw [performSetMode_production, State.toProduction, hnow _ hm]
    rfl
  · obtain ⟨hsup, hlinks, hline, hheads⟩ := endService_acts s.owing
    refine ⟨_, exec_success (k := .setMode) (t := (s.owing.setModeTo .standby).forHeads State.endDry) [1] [1] ht.1
      (gateFailure_setMode ht) ?_ hline, hsup, hlinks, rfl, hheads⟩
    simp only [CommandKind.perform]
    rw [performSetMode_standby, State.toStandby, hnow _ hm]
    simp only [modeSuccess, hsup]
    rfl

/-! ### CLEAR (R174) -/

/-- What the ends of cycles keep of a state, but for the requests, grants and drives of the heads they cut, the lookups and replays
that end, and the mode (R66). -/
structure State.KeptByEnds (s t : State) : Prop where
  setting : s.SameSetting t
  store : t.store = { s.store with queue := t.store.queue }
  queue : ∀ e ∈ t.store.queue, e ∈ s.store.queue
  disp : t.disp = { s.disp with request := t.disp.request, grant := t.disp.grant }
  fronts : ∀ h, t.fronts.get h = { s.fronts.get h with replayActive := (t.fronts.get h).replayActive }
  sup : s.sup.SameButMode t.sup

/-- The end of a cycle ends the head's replay, and touches nothing else of its front end (R62). -/
theorem State.endCycle_fronts (s : State) (h k : HeadId) (reason : Option Reason) :
    (s.endCycle h reason).fronts.get k =
      { s.fronts.get k with replayActive := ((s.endCycle h reason).fronts.get k).replayActive } := by
  by_cases hk : k = h
  · subst hk
    have finish : ∀ u : State, u.fronts = s.fronts → (u.finishCycle k reason).fronts.get k =
        { s.fronts.get k with replayActive := ((u.finishCycle k reason).fronts.get k).replayActive } := fun u hu => by
      cases hc : (u.heads.get k).ctx with
      | none => rw [State.finishCycle_of_none u k reason hc, hu]
      | some c => rw [State.finishCycle_of_ctx u k reason hc]; simp [hu]
    unfold State.endCycle
    split
    · exact finish _ rfl
    · exact finish _ rfl
    · exact finish _ rfl
    all_goals rfl
  · rw [State.endCycle_fronts_other s h reason hk]

theorem State.KeptByEnds.endCycle (hst : s.KeptByEnds t) (h : HeadId) (reason : Option Reason) :
    s.KeptByEnds (t.endCycle h reason) where
  setting := hst.setting.endCycle h reason
  store := by rw [State.endCycle_store, hst.store]
  queue e he := by
    rw [State.endCycle_store] at he
    refine hst.queue e ?_
    split at he
    · exact List.mem_of_mem_filter he
    · exact he
  disp := by
    rw [State.endCycle_disp]
    split <;> rw [hst.disp]
  fronts k := by rw [State.endCycle_fronts, hst.fronts k]
  sup := hst.sup.trans (t.endCycle_sameButMode h reason)

/-- CLEAR, steps 1 to 3, over every block and every head (R174, R141, R65). -/
theorem State.clear_acts (s : State) :
    let t := s.clear
    t.sup = { s.sup with mode := .standby } ∧ t.cabinet = s.cabinet ∧ t.line = s.line ∧
      t.links = s.links.map StationLink.clear ∧ t.store = { s.store with queue := t.store.queue } ∧
      (∀ e, e ∈ t.store.queue ↔ e ∈ s.store.queue ∧ (s.heads.get e.head).state ≠ .lookup) ∧
      (∀ h, t.fronts.get h = { s.fronts.get h with replayActive := (t.fronts.get h).replayActive }) ∧
      t.disp = { s.disp with request := t.disp.request, grant := t.disp.grant } ∧
      (∀ h, ((s.heads.get h).state = .heating → t.disp.request.get h = none ∧
          t.disp.grant.get h = { grant := 0, served := 0 } ∧
          t.drives.get h = (s.drives.get h).cut (s.store.inForce.get h).driveType) ∧
        ((s.heads.get h).state ≠ .heating → t.disp.request.get h = s.disp.request.get h ∧
          t.disp.grant.get h = s.disp.grant.get h ∧ t.drives.get h = s.drives.get h)) ∧
      ∀ h, (∀ c, s.isActive h = true → (s.heads.get h).ctx = some c →
          s.cycleOver t h c.cycle .aborted (some .cleared)) ∧
        (s.isActive h = false → s.headUntouched t h) := by
  intro t
  let s0 : State := { s with links := s.links.map StationLink.clear }
  have kept0 : s0.KeptByEnds s0.drawFree := ⟨⟨rfl, rfl, rfl, rfl, rfl⟩, rfl, fun _ he => he, rfl, fun _ => rfl, rfl⟩
  have hkept : s0.KeptByEnds (s0.forHeads State.clearHead) :=
    State.forHeads_keeps _ s0.KeptByEnds _ (fun h t ht => ht.endCycle h _) kept0
  have alone : ∀ k, ∃ u, s0.KeptByEnds u ∧ s0.Alone u k ∧ (u.endCycle k (some .cleared)).Alone t k := fun k => by
    obtain ⟨u, hu, h1, h2⟩ := State.forHeads_alone (f := State.clearHead) s0.KeptByEnds
      (fun h t k hk _ => t.alone_endCycle _ hk) (fun h t ht => ht.endCycle h _) s0 kept0 k
    exact ⟨u, hu, h1, h2.untouched, h2.records, h2.queue⟩
  refine ⟨?_, hkept.setting.cabinet, hkept.setting.line, hkept.setting.links, hkept.store, fun e => ?_, hkept.fronts, hkept.disp,
    fun h => ?_, fun h => ?_⟩
  · have hsup := hkept.sup
    have he : t.sup = { (s0.forHeads State.clearHead).sup with mode := .standby } := rfl
    rw [he, hsup]
  · obtain ⟨u, -, h1, h2⟩ := alone e.head
    have hu : (u.heads.get e.head).state = (s.heads.get e.head).state := congrArg Head.state h1.untouched.1
    refine (h2.queue e rfl).trans ?_
    rw [State.endCycle_store, hu]
    by_cases hst : (s.heads.get e.head).state = .lookup
    · simp [hst]
    · simp only [if_neg hst]
      exact (h1.queue e rfl).trans (iff_self_and.mpr fun _ => hst)
  · obtain ⟨u, hu, h1, h2⟩ := alone h
    refine ⟨fun hst => h1.cut h2 hst hu.setting.inForce, fun hst => ?_⟩
    obtain ⟨heads1, -, drives1, request1, grant1, -⟩ := h1.untouched
    obtain ⟨-, -, drives2, request2, grant2, -⟩ := h2.untouched
    obtain ⟨hdisp, hdrives⟩ := u.endCycle_uncut (h := h) (some .cleared) (by rw [heads1]; exact hst)
    rw [hdisp] at request2 grant2
    rw [hdrives] at drives2
    exact ⟨request2.trans request1, grant2.trans grant1, drives2.trans drives1⟩
  · obtain ⟨u, -, h1, h2⟩ := alone h
    refine ⟨fun c ha hc => h1.endCycle h2 ha hc, fun ha => ?_⟩
    rw [u.endCycle_of_inactive h _ (h1.isActive.trans ha)] at h2
    exact (h1.trans h2).untouched

/-- Settles O46. -/
theorem clearEndsEveryCycle : Obligations.ClearEndsEveryCycle := by
  intro s ht
  obtain ⟨hsup, hcabinet, hline, hlinks, hrest⟩ := s.owing.clear_acts
  refine ⟨_, exec_success (k := .clear) (t := s.owing.clear) [] [1] ht.1 (gateFailure_none _ _ _ rfl ht.2 rfl) ?_ hline,
    hsup, hcabinet, rfl, fun l => ?_, hrest⟩
  · simp only [CommandKind.perform, performClear, modeSuccess, hsup]
    rfl
  · exact (congrArg (fun p => PerSix.get p l) hlinks).trans (PerSix.get_map _ _ l)

end Sys2Proof.Machine
end

section
/-! PROOFS. What a reset leaves of the operation it breaks off, and what the scan hands over (O4, O5). -/

namespace Sys2Proof.Machine

variable {s : State}

/-! ### The memory after a reset (R24, O4) -/

/-- What an abandoned write leaves in its slot: what was there, the new record, or words that cannot be corrected. -/
theorem abandonedSlot_cases (left : AbandonedWrite) (former : Option (List NvCell)) (record : List Byte) :
    abandonedSlot left former record = former ∨ abandonedSlot left former record = some (cleanCells record) ∨
      ∃ cells, abandonedSlot left former record = some cells ∧ (eccRead cells).2 = none := by
  cases left with
  | former => exact .inl rfl
  | finished => exact .inr (.inl rfl)
  | damaged held =>
    simp only [abandonedSlot]
    split
    · next hheld => exact .inr (.inr ⟨held, rfl, hheld⟩)
    · exact .inl rfl

/-- A slot put in a memory: the others stand, and it holds what was put, where the memory has it. -/
theorem getElem?_set_slot {α : Type} (nv : List α) (slot : Nat) (x : α) :
    (∀ k, k ≠ slot → (nv.set slot x)[k]? = nv[k]?) ∧
      (nv.length ≤ slot ∧ (nv.set slot x)[slot]? = nv[slot]? ∨ slot < nv.length ∧ (nv.set slot x)[slot]? = some x) := by
  refine ⟨fun k hk => List.getElem?_set_ne hk.symm, ?_⟩
  rcases Nat.lt_or_ge slot nv.length with hlt | hge
  · exact .inr ⟨hlt, List.getElem?_set_self hlt⟩
  · exact .inl ⟨hge, by rw [List.set_eq_of_length_le hge]⟩

/-- The outcomes R24 allows a slot whose write was broken off. -/
theorem abandoned_put (nv : List (Option (List NvCell))) (slot : Nat) (left : AbandonedWrite) (record : List Byte) :
    let now := nv.set slot (abandonedSlot left (nv.getD slot none) record)
    (∀ k, k ≠ slot → now[k]? = nv[k]?) ∧
      (now[slot]? = nv[slot]? ∨ now[slot]? = some (some (cleanCells record)) ∨
        ∃ cells, now[slot]? = some (some cells) ∧ (eccRead cells).2 = none) := by
  intro now
  obtain ⟨hother, hself⟩ := getElem?_set_slot nv slot (abandonedSlot left (nv.getD slot none) record)
  refine ⟨hother, ?_⟩
  rcases hself with ⟨-, hself⟩ | ⟨hlt, hself⟩
  · exact .inl hself
  · rw [show now[slot]? = _ from hself]
    rcases abandonedSlot_cases left (nv.getD slot none) record with he | he | ⟨cells, he, hbad⟩ <;> rw [he]
    · refine .inl ?_
      rw [List.getD_eq_getElem?_getD, List.getElem?_eq_getElem hlt]
      rfl
    · exact .inr (.inl rfl)
    · exact .inr (.inr ⟨cells, rfl, hbad⟩)

/-- The memory after a reset that broke off a write. -/
theorem State.memoryAfterReset_write (left : AbandonedWrite) {slot : Nat} {record : List Byte}
    (hop : (∃ body, s.runningOp = some (.recipeWrite slot body) ∧ record = storedRecipe (s.store.nextRevision slot) body) ∨
      (∃ h : HeadId, s.runningOp = some (.calibrationWrite h record) ∧ slot = 48 + h.val) ∨
      (s.runningOp = some (.settingsWrite record) ∧ slot = 54)) :
    s.memoryAfterReset left = s.store.nv.set slot (abandonedSlot left (s.store.nv.getD slot none) record) := by
  unfold State.memoryAfterReset
  rcases hop with ⟨body, ho, rfl⟩ | ⟨h, ho, rfl⟩ | ⟨ho, rfl⟩ <;> rw [ho] <;> rfl

/-- Settles O4. -/
theorem abandonedOperationLeavesOneOfItsOutcomes : Obligations.AbandonedOperationLeavesOneOfItsOutcomes := by
  intro straps cabinet left s
  refine ⟨_, rfl, rfl, rfl, rfl, rfl, fun slot record hop => ?_, fun slot hop => ?_, fun hop => ?_, fun hop => ?_,
    fun body hleft hop => ⟨?_, fun hlen => ?_⟩⟩
  · have hnv := s.memoryAfterReset_write left hop
    simp only [State.resetWith, Store.reset, hnv]
    exact abandoned_put _ _ _ _
  · have hnv : s.memoryAfterReset left = if left = .finished then s.store.nv.set slot none else s.store.nv := by
      unfold State.memoryAfterReset; rw [hop]
    simp only [State.resetWith, Store.reset, hnv]
    split
    · obtain ⟨hother, hself⟩ := getElem?_set_slot s.store.nv slot none
      exact ⟨hother, hself.imp (·.2) (·.2)⟩
    · exact ⟨fun _ _ => rfl, .inl rfl⟩
  · have hnv : s.memoryAfterReset left = s.store.nv := by
      unfold State.memoryAfterReset
      rcases hop with ho | ⟨slot, ho⟩ <;> rw [ho]
    exact hnv
  · have hmark : s.settingsFailedAfterReset left = s.store.settingsFailed := by
      unfold State.settingsFailedAfterReset
      split
      · next body ho => exact absurd ho ((hop.resolve_left fun hn => hn rfl) body)
      · rfl
    exact hmark
  · have hmark : s.settingsFailedAfterReset left = false := by
      unfold State.settingsFailedAfterReset; rw [hop, hleft]
    exact hmark
  · subst hleft
    have hnv := s.memoryAfterReset_write .finished (.inr (.inr ⟨hop, rfl⟩))
    simp only [State.resetWith, Store.reset, hnv]
    exact List.getElem?_set_self hlen

/-! ### The hand-over (R23, O5) -/

theorem StationLink.startRunning_fields (set : Settings) (k : StationLink) :
    (k.startRunning set).state = .running ∧ (k.startRunning set).paused = k.holdIn ∧
      (k.startRunning set).closed = k.closed ∧ (k.startRunning set).txQueue = k.txQueue := by
  unfold StationLink.startRunning StationLink.rejudgeHold
  split
  · exact ⟨rfl, rfl, rfl, rfl⟩
  · split <;> exact ⟨rfl, rfl, rfl, rfl⟩

theorem State.handOver_drives (u : State) (h : HeadId) :
    u.handOver.drives.get h = (u.drives.get h).command (u.store.settings.heads.get h).driveType.zero := PerSix.get_ofFn _ h

theorem State.handOver_links (u : State) (l : LinkId) :
    u.handOver.links.get l = (u.links.get l).startRunning u.store.settings := PerSix.get_map _ _ l

/-- The completion of the scan, at a port busy with it (R23). -/
theorem exec_scanComplete (flips : List SlotFlip) (hport : s.store.port = .scan) :
    exec (.startUpScanComplete flips) s = .next (s.scan flips).handOver := if_pos hport

/-- Settles O5. -/
theorem scanCompletionHandsOverTheSettings : Obligations.ScanCompletionHandsOverTheSettings := by
  intro flips s hport
  have port : ∀ u : State, u.handOver.store.port = .idle := fun _ => rfl
  have deferred : ∀ u : State, u.handOver.store.deferred = PerSix.const false := fun _ => rfl
  have inForce : ∀ u : State, u.handOver.store.inForce = u.handOver.store.settings.heads := fun _ => rfl
  have sup : ∀ u : State, u.handOver.sup =
      { u.sup with mode := .standby, enable := u.handOver.store.settings.heads.map fun f => f.enabledAtPowerOn } := fun _ => rfl
  have disp : ∀ u : State, u.handOver.disp = { u.disp with budgetSetting := u.handOver.store.settings.defaultBudget } := fun _ => rfl
  have settings : ∀ u : State, u.store.settings = u.handOver.store.settings := fun _ => rfl
  have heads : ∀ u : State, u.handOver.heads = u.heads := fun _ => rfl
  have cabinet : ∀ u : State, u.handOver.cabinet = u.cabinet := fun _ => rfl
  have line : ∀ u : State, u.handOver.line = u.line := fun _ => rfl
  have trace : ∀ u : State, u.handOver.trace = u.trace := fun _ => rfl
  refine ⟨_, exec_scanComplete flips hport, port _, deferred _, inForce _, ?_, ?_, fun h => ?_, fun l => ?_, ?_, ?_, ?_, ?_⟩
  · rw [sup, State.scan_sup]
  · rw [disp, State.scan_disp]
  · rw [State.handOver_drives, State.scan_drives, settings]
  · rw [State.handOver_links, State.scan_links]
    exact StationLink.startRunning_fields _ _
  · rw [heads, State.scan_heads]
  · rw [cabinet, State.scan_cabinet]
  · rw [line, State.scan_line]
  · rw [trace, State.scan_trace]

end Sys2Proof.Machine
end

section
/-! PROOFS. What the start-up scan makes of the records, and what it counts (O6). -/

namespace Sys2Proof.Machine

variable {s : State} {st st0 : Store} {n : Nat} {corrects bad : Nat → Bool}

/-! ### The counts of a scan (R20) -/

/-- The slots below `n` have been read: each read that corrected and each bad slot has been counted, and the last error is that of
the last of them that had one. -/
structure Store.CountedTo (st0 st : Store) (corrects bad : Nat → Bool) (n : Nat) : Prop where
  corrected : st.corrected = min (st0.corrected + ((List.range n).filter corrects).length) 65535
  uncorrectable : st.uncorrectable = min (st0.uncorrectable + ((List.range n).filter bad).length) 65535
  last : ∀ slot, slot < n → (∀ k, slot < k → k < n → corrects k = false ∧ bad k = false) →
    (bad slot = true → st.lastError = some (slot, .uncorrectable)) ∧
      (bad slot = false → corrects slot = true → st.lastError = some (slot, .corrected))
  clean : (∀ k, k < n → corrects k = false ∧ bad k = false) → st.lastError = st0.lastError

/-- Nothing read yet. -/
theorem Store.CountedTo.zero (hc : st0.corrected ≤ 65535) (hu : st0.uncorrectable ≤ 65535) :
    st0.CountedTo st0 corrects bad 0 :=
  ⟨(Nat.min_eq_left hc).symm, (Nat.min_eq_left hu).symm, nofun, fun _ => rfl⟩

theorem filter_range_succ_length (p : Nat → Bool) (n : Nat) :
    ((List.range (n + 1)).filter p).length = ((List.range n).filter p).length + if p n then 1 else 0 := by
  rw [List.range_succ, List.filter_append, List.length_append]
  cases hp : p n <;> simp [hp]

/-- The counts and the last error of a store. -/
def Store.SameCounts (st st' : Store) : Prop :=
  st'.corrected = st.corrected ∧ st'.uncorrectable = st.uncorrectable ∧ st'.lastError = st.lastError

/-- One more slot read. -/
theorem Store.CountedTo.succ {st' : Store} (hp : st0.CountedTo st corrects bad n)
    (hst : (st.countRead n (corrects n) (bad n)).SameCounts st') : st0.CountedTo st' corrects bad (n + 1) := by
  obtain ⟨h1, h2, h3⟩ := hst
  rw [Store.countRead_corrected, hp.corrected] at h1
  rw [Store.countRead_uncorrectable, hp.uncorrectable] at h2
  rw [Store.countRead_lastError] at h3
  refine ⟨?_, ?_, fun slot hslot hlater => ?_, fun hclean => ?_⟩
  · rw [h1, filter_range_succ_length]
    split <;> omega
  · rw [h2, filter_range_succ_length]
    split <;> omega
  · rw [h3]
    rcases Nat.lt_succ_iff_lt_or_eq.mp hslot with hlt | rfl
    · obtain ⟨hc, hb⟩ := hlater n hlt (Nat.lt_succ_self n)
      simp only [hc, hb, Bool.false_eq_true, if_false]
      exact hp.last slot hlt fun k hk hkn => hlater k hk (Nat.lt_succ_of_lt hkn)
    · exact ⟨fun hb => by rw [if_pos hb], fun hb hc => by rw [if_neg (by simp [hb]), if_pos hc]⟩
  · obtain ⟨hc, hb⟩ := hclean n (Nat.lt_succ_self n)
    rw [h3]
    simp only [hc, hb, Bool.false_eq_true, if_false]
    exact hp.clean fun k hk => hclean k (Nat.lt_succ_of_lt hk)

/-! ### The recipe slots' counts -/

/-- A read of a slot's header corrects (R22). -/
def Store.headerCorrects (st : Store) (slot : Nat) : Bool := (eccRead ((st.cells slot).take storedHeaderBytes)).1

/-- What the scan of a recipe slot counts: its header's correction, and the slot when it comes out DAMAGED. -/
theorem Store.scanRecipeSlot_counts (st : Store) {slot : Nat} (hs : slot < st.slotStatus.length) :
    (st.countRead slot (st.headerCorrects slot) ((st.scanRecipeSlot slot).slotStatus.getD slot .empty == .damaged)).SameCounts
      (st.scanRecipeSlot slot) := by
  have hcells : st.headerCorrects slot =
      (eccRead (((st.nv.getD slot none).getD []).take storedHeaderBytes)).1 := rfl
  rw [hcells]
  have status : ∀ v : SlotStatus, (st.slotStatus.set slot v).getD slot .empty = v := fun v => by
    rw [List.getD_eq_getElem?_getD, List.getElem?_set_self hs]; rfl
  simp only [Store.scanRecipeSlot]
  split
  · next hnv =>
    simp only [hnv, Store.setRevision_slotStatus, Store.setStatus_slotStatus, status]
    exact ⟨rfl, rfl, rfl⟩
  · next cells hnv =>
    simp only [hnv]
    split
    · simp only [Store.setRevision_slotStatus, Store.setStatus_slotStatus, Store.countRead_slotStatus, status]
      exact ⟨rfl, rfl, rfl⟩
    · split
      · simp only [Store.setRevision_slotStatus, Store.setStatus_slotStatus, Store.countRead_slotStatus, status]
        exact ⟨rfl, rfl, rfl⟩
      · simp only [Store.enterIndex_slotStatus, Store.setRevision_slotStatus, Store.setStatus_slotStatus,
          Store.countRead_slotStatus, status]
        exact ⟨rfl, rfl, rfl⟩

theorem Store.scanRecipeSlot_status_other (st : Store) {slot k : Nat} (hk : k ≠ slot) :
    (st.scanRecipeSlot slot).slotStatus[k]? = st.slotStatus[k]? := by
  rcases st.scanRecipeSlot_cases slot with ⟨c, u, v, rev, -, e⟩ | ⟨c, rev, code, -, e⟩ <;> rw [e] <;>
    simp [List.getElem?_set_ne hk.symm]

/-- A slot's status stands once the scan has read it. -/
theorem Store.scanTo_status (st : Store) {k : Nat} (d : Nat) :
    (st.scanTo (k + 1 + d)).slotStatus[k]? = (st.scanTo (k + 1)).slotStatus[k]? := by
  induction d with
  | zero => rfl
  | succ d ih => rw [← Nat.add_assoc, Store.scanTo_succ, Store.scanRecipeSlot_status_other _ (by omega), ih]

/-- The recipe slots read, counted by what their statuses are in the end. -/
theorem Store.countedTo_scanTo (st : Store) (hlen : st.slotStatus.length = 48) (hrev : st.lastRevision.length = 48)
    (hcount : st.CountedTo st corrects bad 0)
    (hcorrects : ∀ slot, slot < 48 → corrects slot = st.headerCorrects slot)
    (hbad : ∀ slot, slot < 48 → bad slot = ((st.scanTo 48).slotStatus.getD slot .empty == .damaged)) (hn : n ≤ 48) :
    st.CountedTo (st.scanTo n) corrects bad n := by
  induction n with
  | zero => exact ⟨hcount.corrected, hcount.uncorrectable, nofun, fun _ => rfl⟩
  | succ n ih =>
    have hc : corrects n = (st.scanTo n).headerCorrects n := by
      rw [hcorrects n hn]
      unfold Store.headerCorrects Store.cells
      rw [Store.scanTo_nv]
    have hlater := st.scanTo_status (k := n) (48 - (n + 1))
    rw [Nat.add_sub_cancel' hn] at hlater
    have hb : bad n = (((st.scanTo n).scanRecipeSlot n).slotStatus.getD n .empty == .damaged) := by
      rw [hbad n hn, List.getD_eq_getElem?_getD, hlater, ← List.getD_eq_getElem?_getD, Store.scanTo_succ]
    rw [Store.scanTo_succ]
    refine (ih (Nat.le_of_succ_le hn)).succ ?_
    rw [hc, hb]
    refine Store.scanRecipeSlot_counts _ ?_
    rw [(st.scanned_scanTo (n := n) (by omega) (by omega)).statusLength]
    omega

/-! ### The calibration slots and the settings slot -/

/-- What the scan of a calibration slot counts: its correction, and a record that is there and unreadable. -/
theorem Store.countCalibration_eq (st : Store) (h : HeadId) :
    st.countCalibration h = st.countRead (48 + h.val) (eccRead (st.cells (48 + h.val))).1
      ((st.nv.getD (48 + h.val) none).isSome && (st.calibrationRecord h).isNone) := by
  have hslot : calibrationSlotOf h = 48 + h.val := rfl
  simp only [Store.countCalibration, Store.calibrationRecord, Store.cells, hslot]
  cases st.nv.getD (48 + h.val) none <;> rfl

theorem Store.CountedTo.calibration {h : HeadId} (hp : st0.CountedTo st corrects bad (48 + h.val))
    (hc : corrects (48 + h.val) = (eccRead (st0.cells (48 + h.val))).1)
    (hb : bad (48 + h.val) = ((st0.nv.getD (48 + h.val) none).isSome && (st0.calibrationRecord h).isNone))
    (hnv : st.nv = st0.nv) : st0.CountedTo (st.countCalibration h) corrects bad (48 + h.val + 1) := by
  refine hp.succ ?_
  rw [hc, hb, Store.countCalibration_eq, Store.calibrationRecord_congr hnv, Store.cells, Store.cells, hnv]
  exact ⟨rfl, rfl, rfl⟩

/-- The six calibration slots read. -/
theorem Store.CountedTo.calibrations (hp : st0.CountedTo st corrects bad 48)
    (hc : ∀ h : HeadId, corrects (48 + h.val) = (eccRead (st0.cells (48 + h.val))).1)
    (hb : ∀ h : HeadId, bad (48 + h.val) = ((st0.nv.getD (48 + h.val) none).isSome && (st0.calibrationRecord h).isNone))
    (hnv : st.nv = st0.nv) : st0.CountedTo (sixInOrder.foldl Store.countCalibration st) corrects bad 54 := by
  have p0 := hp.calibration (h := 0) (hc 0) (hb 0) hnv
  have p1 := p0.calibration (h := 1) (hc 1) (hb 1) (by simp [hnv])
  have p2 := p1.calibration (h := 2) (hc 2) (hb 2) (by simp [hnv])
  have p3 := p2.calibration (h := 3) (hc 3) (hb 3) (by simp [hnv])
  have p4 := p3.calibration (h := 4) (hc 4) (hb 4) (by simp [hnv])
  exact p4.calibration (h := 5) (hc 5) (hb 5) (by simp [hnv])

/-- What the scan makes of the settings slot, and counts. -/
theorem Store.scanSettings_reads (st : Store) :
    (st.countRead 54 (eccRead (st.cells 54)).1 st.scanSettings.settingsDefaulted).SameCounts st.scanSettings ∧
      (st.nv.getD 54 none = none →
        st.scanSettings.settings = factorySettings ∧ st.scanSettings.settingsDefaulted = false) ∧
      ∀ cells, st.nv.getD 54 none = some cells →
        ((eccRead cells).2 = none ∨ st.settingsFailed = true →
          st.scanSettings.settings = factorySettings ∧ st.scanSettings.settingsDefaulted = true) ∧
        ∀ body, (eccRead cells).2 = some body → storedSettingsOk body = true → st.settingsFailed = false →
          st.scanSettings.settings = decodeSettings body ∧ st.scanSettings.settingsDefaulted = false := by
  cases hnv : st.nv.getD 54 none with
  | none =>
    have he : st.scanSettings = { st with settings := factorySettings, settingsDefaulted := false } := by
      simp only [Store.scanSettings, show Config.settingsSlot = 54 from rfl, hnv]
    have hcells : st.cells 54 = [] := by rw [Store.cells, hnv]; rfl
    rw [he, hcells]
    exact ⟨⟨rfl, rfl, rfl⟩, fun _ => ⟨rfl, rfl⟩, nofun⟩
  | some cells =>
    have hcells : st.cells 54 = cells := by rw [Store.cells, hnv]; rfl
    have he : st.scanSettings = match (st.readSettings cells).2 with
        | none => { st.countRead 54 (eccRead cells).1 true with settings := factorySettings, settingsDefaulted := true }
        | some body => { st.countRead 54 (eccRead cells).1 false with
            settings := decodeSettings body, settingsDefaulted := false } := by
      simp only [Store.scanSettings, show Config.settingsSlot = 54 from rfl, hnv]
      cases hr : (st.readSettings cells).2 <;> rfl
    rw [hcells]
    refine ⟨?_, nofun, fun c hc => ?_⟩
    · rw [he]
      cases (st.readSettings cells).2 <;> exact ⟨rfl, rfl, rfl⟩
    · cases hc
      refine ⟨fun hn => ?_, fun body hread hok hmark => ?_⟩
      · have hnone : (st.readSettings cells).2 = none := by
          rcases hn with hn | hn
          · simp [Store.readSettings, readRecord, hn]
          · exact st.readSettings_failed cells hn
        rw [he, hnone]
        exact ⟨rfl, rfl⟩
      · have hsome : (st.readSettings cells).2 = some body := by
          rw [st.readSettings_held cells hmark]
          simp [readRecord, hread, hok, Option.filter]
        rw [he, hsome]
        exact ⟨rfl, rfl⟩

/-! ### Records (R22) -/

theorem readRecord_none {ok : List Byte → Bool} {cells : List NvCell} (hn : (eccRead cells).2 = none) :
    (readRecord ok cells).2 = none := by
  simp [readRecord, hn]

theorem readRecord_some {ok : List Byte → Bool} {cells : List NvCell} {bs : List Byte} (hs : (eccRead cells).2 = some bs)
    (hok : ok bs = true) : (readRecord ok cells).2 = some bs := by
  simp [readRecord, hs, Option.filter, hok]

/-- A scanned recipe slot, by what its header reads as. -/
theorem Store.ScannedSlot.reads {slot : Nat} (hp : st.ScannedSlot slot) :
    (st.nv.getD slot none = none → st.slotStatus[slot]? = some .empty ∧ st.lastRevision[slot]? = some 0) ∧
      ∀ cells, st.nv.getD slot none = some cells →
        ((eccRead (cells.take 21)).2 = none →
          st.slotStatus[slot]? = some .damaged ∧ st.lastRevision[slot]? = some 0) ∧
        ∀ header, (eccRead (cells.take 21)).2 = some header → storedHeaderOk header = true →
          st.lastRevision[slot]? = some (storedRevision header) ∧
          ((st.slotStatus[slot]? = some .valid ∧ { code := u16At header 2, slot := slot } ∈ st.index) ∨
            (st.slotStatus[slot]? = some .damaged ∧
              ∃ lower, lower < slot ∧ { code := u16At header 2, slot := lower } ∈ st.index)) := by
  unfold Store.ScannedSlot at hp
  refine ⟨fun hn => by simpa only [hn] using hp, fun cells hc => ⟨fun hn => ?_, fun header hs hok => ?_⟩⟩
  · rw [hc] at hp
    simpa only [readRecord_none (ok := storedHeaderOk) (show (eccRead (cells.take storedHeaderBytes)).2 = none from hn)] using hp
  · rw [hc] at hp
    simpa only [readRecord_some (show (eccRead (cells.take storedHeaderBytes)).2 = some header from hs) hok] using hp

/-- A calibration copy after the scan, by what its slot reads as. -/
theorem calibration_reads (st : Store) (h : HeadId) (fe : FrontEnd) :
    let now := fe.loadCalibration (st.calibrationRecord h)
    (st.nv.getD (48 + h.val) none = none → now.calValid = false ∧ now.calibration = Calibration.zero) ∧
      ∀ cells, st.nv.getD (48 + h.val) none = some cells →
        ((eccRead cells).2 = none → now.calValid = false ∧ now.calibration = Calibration.zero) ∧
        ∀ body, (eccRead cells).2 = some body → storedCalibrationOk body = true →
          now.calValid = true ∧ now.calibration = decodeCalibration body := by
  intro now
  have hrec : st.calibrationRecord h =
      (st.nv.getD (48 + h.val) none).bind fun cells => (readRecord storedCalibrationOk cells).2 := rfl
  refine ⟨fun hn => ?_, fun cells hc => ⟨fun hn => ?_, fun body hs hok => ?_⟩⟩
  · simp only [now, hrec, hn]
    exact ⟨rfl, rfl⟩
  · simp only [now, hrec, hc, Option.bind_some, readRecord_none hn]
    exact ⟨rfl, rfl⟩
  · simp only [now, hrec, hc, Option.bind_some, readRecord_some hs hok]
    exact ⟨rfl, rfl⟩

theorem FrontEnd.loadCalibration_valid (record : Option (List Byte)) (fe : FrontEnd) :
    (fe.loadCalibration record).calValid = record.isSome := by
  cases record <;> rfl

/-- The bits a scan finds changed are the memory's alone. -/
theorem Store.flipSlots_eq (st : Store) (flips : List SlotFlip) :
    st.flipSlots flips = { st with nv := (st.flipSlots flips).nv } := by
  unfold Store.flipSlots
  induction flips generalizing st with
  | nil => rfl
  | cons f fs ih => rw [List.foldl_cons, ih]; rfl

theorem State.handOver_store (u : State) :
    u.handOver.store = { u.store with inForce := u.store.settings.heads, deferred := PerSix.const false, port := .idle } := rfl

/-- Settles O6. -/
theorem scanBuildsTheStateFromTheRecords : Obligations.ScanBuildsTheStateFromTheRecords := by
  intro flips s hport hlen hrev hcorrected huncorrectable
  obtain ⟨found, hfound⟩ : ∃ found, found = s.store.flipSlots flips := ⟨_, rfl⟩
  obtain ⟨calibrated, hcal⟩ : ∃ st, st = sixInOrder.foldl Store.countCalibration (found.scanTo 48) := ⟨_, rfl⟩
  obtain ⟨t, ht⟩ : ∃ t, t = (s.scan flips).handOver := ⟨_, rfl⟩
  have hframe : found = { s.store with nv := found.nv } := hfound ▸ s.store.flipSlots_eq flips
  have hstatuses : found.slotStatus.length = 48 := by rw [hframe]; exact hlen
  have hrevisions : found.lastRevision.length = 48 := by rw [hframe]; exact hrev
  have hscanned := found.scanned_scanTo (n := 48) hstatuses.ge hrevisions.ge
  have hstore : (s.scan flips).store = calibrated.scanSettings := by rw [hcal, hfound]; exact s.scan_store flips
  obtain ⟨knv, kstatus, krev, kindex⟩ := s.scan_keepsTable flips
  rw [← hfound] at knv kstatus krev kindex
  have tstore : t.store = { calibrated.scanSettings with
      inForce := t.store.inForce, deferred := t.store.deferred, port := t.store.port } := by
    rw [ht, State.handOver_store, hstore]
  rw [hstore] at knv kstatus krev kindex
  have tnv : t.store.nv = found.nv := by rw [tstore]; exact knv.trans (found.scanTo_nv 48)
  have tstatus : t.store.slotStatus = (found.scanTo 48).slotStatus := by rw [tstore]; exact kstatus
  have trev : t.store.lastRevision = (found.scanTo 48).lastRevision := by rw [tstore]; exact krev
  have tindex : t.store.index = (found.scanTo 48).index := by rw [tstore]; exact kindex
  have tsettings : calibrated.scanSettings.SameCounts t.store ∧ t.store.settings = calibrated.scanSettings.settings ∧
      t.store.settingsDefaulted = calibrated.scanSettings.settingsDefaulted := by
    rw [tstore]
    exact ⟨⟨rfl, rfl, rfl⟩, rfl, rfl⟩
  have tfailed : t.store.settingsFailed = s.store.settingsFailed := by
    rw [tstore, ← hstore, s.keptByScan flips]
  have tfronts : ∀ h, t.fronts.get h = (s.fronts.get h).loadCalibration (found.calibrationRecord h) := fun h => by
    have handed : ∀ u : State, u.handOver.fronts = u.fronts := fun _ => rfl
    rw [ht, handed, State.scan_fronts, hfound]
  have cnv : calibrated.nv = found.nv := by
    rw [hcal, (Store.keepsTable_countCalibrations _ _).1, Store.scanTo_nv]
  have cfailed : calibrated.settingsFailed = s.store.settingsFailed := by
    rw [hcal, Store.keptByScan_countCalibrations, found.keptByScan_scanTo 48, hframe]
  obtain ⟨hcounts, hnone, hread⟩ := calibrated.scanSettings_reads
  rw [cnv] at hnone hread
  rw [cfailed] at hread
  refine ⟨t, by rw [ht]; exact exec_scanComplete flips hport, by rw [tnv, hfound], ?_⟩
  intro corrects bad
  have hrecipes := found.countedTo_scanTo (corrects := corrects) (bad := bad) (n := 48) hstatuses hrevisions
    (.zero (by rw [hframe]; exact hcorrected) (by rw [hframe]; exact huncorrectable))
    (fun slot hslot => by simp only [corrects, if_pos hslot, tnv]; rfl)
    (fun slot hslot => by simp only [bad, if_pos hslot, tstatus]) (Nat.le_refl 48)
  have hcalibrations := hrecipes.calibrations
    (fun h => by simp only [corrects, if_neg (show ¬48 + h.val < 48 by omega), tnv]; rfl)
    (fun h => by
      have hh : Fin.ofNat 6 (48 + h.val - 48) = h := by revert h; decide
      simp only [bad, if_neg (show ¬48 + h.val < 48 by omega), if_pos (show 48 + h.val < 54 by omega), hh, tfronts, tnv,
        FrontEnd.loadCalibration_valid, Option.not_isSome])
    (found.scanTo_nv 48)
  rw [← hcal] at hcalibrations
  have hall : found.CountedTo t.store corrects bad 55 := by
    refine hcalibrations.succ ?_
    have hc : corrects 54 = (eccRead (calibrated.cells 54)).1 := by
      simp only [corrects, tnv, Store.cells, cnv]; rfl
    have hb : bad 54 = calibrated.scanSettings.settingsDefaulted := tsettings.2.2
    rw [hc, hb]
    obtain ⟨⟨a1, a2, a3⟩, -⟩ := tsettings
    obtain ⟨b1, b2, b3⟩ := hcounts
    exact ⟨a1.trans b1, a2.trans b2, a3.trans b3⟩
  have hfirst : found.corrected = s.store.corrected ∧ found.uncorrectable = s.store.uncorrectable ∧
      found.lastError = s.store.lastError := by rw [hframe]; exact ⟨rfl, rfl, rfl⟩
  refine ⟨hfirst.1 ▸ hall.corrected, hfirst.2.1 ▸ hall.uncorrectable, hall.last, hfirst.2.2 ▸ hall.clean, fun slot hslot => ?_,
    fun h => ?_, tfailed, fun cells hcells hbad => ?_, ?_, ?_⟩
  · rw [tnv, tstatus, trev, tindex, ← found.scanTo_nv 48]
    generalize found.scanTo 48 = recipes at hscanned
    exact (hscanned.slots slot hslot).reads
  · rw [tnv, tfronts h]
    exact calibration_reads found h (s.fronts.get h)
  · obtain ⟨now, hnow, hnowbad⟩ := s.store.flipSlots_none flips 54 cells hcells hbad
    rw [← hfound] at hnow
    rw [tsettings.2.1, tsettings.2.2]
    exact (hread now hnow).1 (.inl hnowbad)
  · rw [tnv, tsettings.2.1, tsettings.2.2]
    exact hnone
  · rw [tnv, tsettings.2.1, tsettings.2.2]
    exact hread

end Sys2Proof.Machine
end

section
/-! PROOFS. Writes, erases and reads of the recipe store complete (O8, O9, O11). -/

namespace Sys2Proof.Machine

variable {s : State} {st : Store} {slot : Nat} {body record : List Byte} {w : WriteResult}

/-! ### What a write leaves in the store (R14, R20) -/

/-- The store with a record written that reads back well. -/
theorem Store.storeRecord_ok (hok : writeOk record w = true) :
    st.storeRecord slot record w = { st with
      nv := st.nv.set slot (some (writtenCells w record))
      corrected := if (eccRead (writtenCells w record)).1 then min (st.corrected + 1) 65535 else st.corrected
      lastError := if (eccRead (writtenCells w record)).1 then some (slot, .corrected) else st.lastError } := by
  have hbad : (!(readBack (writtenCells w record) record).2) = false := congrArg _ hok
  unfold Store.storeRecord
  simp only [Store.countRead_eq, hbad]
  rfl

/-- The store with a record written that does not. -/
theorem Store.storeRecord_failed (hok : writeOk record w = false) :
    st.storeRecord slot record w = { st with
      nv := st.nv.set slot (some (writtenCells w record))
      corrected := if (eccRead (writtenCells w record)).1 then min (st.corrected + 1) 65535 else st.corrected
      uncorrectable := min (st.uncorrectable + 1) 65535
      lastError := some (slot, .uncorrectable) } := by
  have hbad : (!(readBack (writtenCells w record) record).2) = true := congrArg _ hok
  unfold Store.storeRecord
  simp only [Store.countRead_eq, hbad]
  rfl

/-- The store after a recipe write that read back well (R14, R8, R9). -/
theorem Store.completeRecipeWrite_ok (hok : writeOk (storedRecipe (st.nextRevision slot) body) w = true) :
    st.completeRecipeWrite slot body w = { st.storeRecord slot (storedRecipe (st.nextRevision slot) body) w with
      slotStatus := st.slotStatus.set slot .valid
      lastRevision := st.lastRevision.set slot (st.nextRevision slot)
      index := (st.enterIndex (u16At body 0) slot).index
      supervisor := none, port := .idle, lastOpKind := some .recipeWrite, lastOpResult := some .ok } := by
  unfold Store.completeRecipeWrite
  simp only [hok, if_true, Store.storeRecord_ok hok]
  rfl

/-- The store after a recipe write that did not (R14). -/
theorem Store.completeRecipeWrite_failed (hok : writeOk (storedRecipe (st.nextRevision slot) body) w = false) :
    st.completeRecipeWrite slot body w = { st.storeRecord slot (storedRecipe (st.nextRevision slot) body) w with
      slotStatus := st.slotStatus.set slot .damaged
      lastRevision := st.lastRevision.set slot (st.nextRevision slot)
      index := (st.dropIndex slot).index
      supervisor := none, port := .idle, lastOpKind := some .recipeWrite, lastOpResult := some .failed } := by
  unfold Store.completeRecipeWrite
  simp only [hok, Bool.false_eq_true, if_false, Store.storeRecord_failed hok]
  rfl

/-- Settles O8. -/
theorem recipeWriteCompletes : Obligations.RecipeWriteCompletes := by
  intro w s slot body hop hnv hstatus hrev corrects
  have hrevision : s.store.lastRevision.getD slot 0 + 1 = s.store.nextRevision slot := rfl
  simp only [hrevision]
  refine ⟨s.store.completeRecipeWrite slot body w, by simp only [exec, execRecipeWriteComplete, hop]; rfl, ?_⟩
  have others : ∀ {α : Type} (l : List α) (x : α) {k : Nat}, k ≠ slot → (l.set slot x)[k]? = l[k]? :=
    fun l x k hk => List.getElem?_set_ne hk.symm
  cases hok : writeOk (storedRecipe (s.store.nextRevision slot) body) w with
  | true =>
    rw [Store.completeRecipeWrite_ok hok, Store.storeRecord_ok hok]
    exact ⟨rfl, rfl, rfl, rfl, rfl, List.getElem?_set_self hnv, List.getElem?_set_self hrev,
      fun k hk => ⟨others _ _ hk, others _ _ hk, others _ _ hk⟩, rfl, fun _ => rfl,
      fun _ => ⟨List.getElem?_set_self hstatus, rfl, rfl, fun e => Store.mem_enterIndex _⟩, nofun⟩
  | false =>
    rw [Store.completeRecipeWrite_failed hok, Store.storeRecord_failed hok]
    exact ⟨rfl, rfl, rfl, rfl, rfl, List.getElem?_set_self hnv, List.getElem?_set_self hrev,
      fun k hk => ⟨others _ _ hk, others _ _ hk, others _ _ hk⟩, rfl, nofun, nofun,
      fun _ => ⟨List.getElem?_set_self hstatus, rfl, rfl, rfl, fun e => Store.mem_dropIndex _⟩⟩

/-! ### Erases and calibration writes (R15, R16) -/

/-- Settles O9. -/
theorem eraseAndCalibrationWritesComplete : Obligations.EraseAndCalibrationWritesComplete := by
  refine ⟨fun s slot hop hnv hstatus hrev => ?_, fun w s h body hop => ?_⟩
  · have others : ∀ {α : Type} (l : List α) (x : α) {k : Nat}, k ≠ slot → (l.set slot x)[k]? = l[k]? :=
      fun l x k hk => List.getElem?_set_ne hk.symm
    refine ⟨s.store.completeErase slot, by simp only [exec, execRecipeEraseComplete, hop]; rfl, rfl, rfl, rfl, rfl,
      List.getElem?_set_self hnv, List.getElem?_set_self hstatus, List.getElem?_set_self hrev,
      fun e => Store.mem_dropIndex s.store, fun k hk => ⟨others _ _ hk, others _ _ hk, others _ _ hk⟩, rfl, rfl, rfl, rfl, rfl⟩
  · cases hok : writeOk body w with
    | true =>
      refine ⟨(s.store.storeRecord (48 + h.val) body w).finishOp .calibrationWrite .ok,
        s.fronts.modify h fun fe => { fe with calibration := decodeCalibration body, calValid := true },
        by simp only [exec, execCalibrationWriteComplete, hop, hok]; rfl, ?_⟩
      rw [Store.storeRecord_ok hok]
      exact ⟨rfl, rfl, rfl, fun k hk => List.getElem?_set_ne hk.symm, rfl, rfl, rfl,
        fun k hk => PerSix.get_modify_other _ _ hk, rfl, rfl, fun _ => ⟨rfl, rfl⟩,
        fun _ => ⟨rfl, PerSix.get_modify_same _ _ _⟩, nofun⟩
    | false =>
      refine ⟨(s.store.storeRecord (48 + h.val) body w).finishOp .calibrationWrite .failed, s.fronts,
        by simp only [exec, execCalibrationWriteComplete, hop, hok]; rfl, ?_⟩
      rw [Store.storeRecord_failed hok]
      exact ⟨rfl, rfl, rfl, fun k hk => List.getElem?_set_ne hk.symm, rfl, rfl, rfl, fun k _ => rfl, rfl, rfl, nofun, nofun,
        fun _ => ⟨rfl, rfl, rfl, rfl⟩⟩

/-! ### Reads (R19) -/

/-- A record read well leaves the slots and the index, and counts its correction (R20). -/
theorem Store.readRecipe_good {flips : List CellFlip} {record : List Byte}
    (hr : (st.readRecipe slot flips).2.2 = some record) :
    (st.readRecipe slot flips).1.slotStatus = st.slotStatus ∧ (st.readRecipe slot flips).1.index = st.index ∧
      (st.readRecipe slot flips).1.uncorrectable = st.uncorrectable ∧
      (st.readRecipe slot flips).1.lastError =
        if (st.readRecipe slot flips).2.1 then some (slot, .corrected) else st.lastError := by
  have hstore := st.readRecipe_store slot flips
  generalize (st.readRecipe slot flips).2 = r at hr hstore
  simp only [hr, Option.isNone_some, Bool.false_eq_true, if_false] at hstore
  rw [hstore]
  simp [Store.flip]

/-- A record read badly makes the slot DAMAGED, out of the index and counted (R20, R21). -/
theorem Store.readRecipe_bad {flips : List CellFlip} (hr : (st.readRecipe slot flips).2.2 = none) :
    (st.readRecipe slot flips).1.slotStatus = st.slotStatus.set slot .damaged ∧
      (∀ e, e ∈ (st.readRecipe slot flips).1.index ↔ e ∈ st.index ∧ e.slot ≠ slot) ∧
      (st.readRecipe slot flips).1.uncorrectable = min (st.uncorrectable + 1) 65535 ∧
      (st.readRecipe slot flips).1.lastError = some (slot, .uncorrectable) := by
  have hstore := st.readRecipe_store slot flips
  generalize (st.readRecipe slot flips).2 = r at hr hstore
  simp only [hr, Option.isNone_none, if_true] at hstore
  rw [hstore, Store.countRead_eq]
  exact ⟨rfl, fun e => Store.mem_dropIndex _, rfl, rfl⟩

theorem Store.readRecipe_corrected (st : Store) (slot : Nat) (flips : List CellFlip) :
    (st.readRecipe slot flips).1.corrected =
      if (st.readRecipe slot flips).2.1 then min (st.corrected + 1) 65535 else st.corrected := by
  have hstore := st.readRecipe_store slot flips
  generalize (st.readRecipe slot flips).2 = r at hstore ⊢
  rw [hstore, Store.countRead_eq]
  simp only
  split <;> rfl

theorem Store.readRecipe_lastOp (st : Store) (slot : Nat) (flips : List CellFlip) :
    (st.readRecipe slot flips).1.lastOpKind = st.lastOpKind ∧ (st.readRecipe slot flips).1.lastOpResult = st.lastOpResult := by
  rw [Store.readRecipe_store, Store.countRead_eq]
  simp only
  split <;> exact ⟨rfl, rfl⟩

/-- A reply formed for the command that waits for it (R163). -/
theorem State.formReply_forming (hf : s.line.reply = .forming) (r : LineReply) :
    s.formReply r = { s with line := s.line.form r } := if_pos hf

/-- Settles O11. -/
theorem recipeReadCompletes : Obligations.RecipeReadCompletes := by
  intro flips s slot hop hforming hslot
  let r := s.store.readRecipe slot flips
  let reply := match r.2.2 with
    | some record => readValidReply slot record
    | none => readDamagedReply slot
  have hexec : exec (.recipeReadComplete flips) s =
      .next { s with store := r.1.finishRead, line := s.line.form reply } := by
    simp only [exec, execRecipeReadComplete, hop]
    exact congrArg _ (State.formReply_forming (s := s.modStore fun _ => r.1.finishRead) hforming reply)
  obtain ⟨hkind, hresult⟩ := s.store.readRecipe_lastOp slot flips
  refine ⟨_, reply, hexec, rfl, rfl, hkind, hresult, rfl, s.store.readRecipe_corrected slot flips, ?_⟩
  cases hr : r.2.2 with
  | some record =>
    obtain ⟨hstatus, hindex, huncorrectable, herror⟩ := Store.readRecipe_good hr
    exact .inl ⟨record, rfl, by simp only [reply, hr]; rfl, hindex, hstatus, huncorrectable, herror⟩
  | none =>
    obtain ⟨hstatus, hindex, huncorrectable, herror⟩ := Store.readRecipe_bad hr
    refine .inr ⟨rfl, by simp only [reply, hr]; rfl, ?_, hindex, huncorrectable, herror⟩
    exact (congrArg (fun l : List SlotStatus => l[slot]?) hstatus).trans (List.getElem?_set_self hslot)

end Sys2Proof.Machine
end

section
/-! PROOFS. A settings write completes (O10). -/

namespace Sys2Proof.Machine

variable {s t : State} {h k : HeadId}

/-- What settling the fields of heads keeps of a state: all but the fields in force, the deferred marks and the drives (R17). -/
def State.SettledFrom (s t : State) : Prop :=
  t = { s with
    store := { s.store with inForce := t.store.inForce, deferred := t.store.deferred }, drives := t.drives }

theorem State.SettledFrom.settleFields (hst : s.SettledFrom t) (h : HeadId) : s.SettledFrom (State.settleFields h t) := by
  unfold State.settleFields
  split
  · unfold State.applyFields
    simp only
    split
    · rw [hst]; rfl
    · rw [hst]; rfl
  · rw [hst]; rfl

/-- What settling a head's fields is about: its state, the settings, its fields in force, its mark and its drive. -/
def State.settledPart (t : State) (k : HeadId) : HeadState × Settings × HeadFields × Bool × DriveUnit :=
  ((t.heads.get k).state, t.store.settings, t.store.inForce.get k, t.store.deferred.get k, t.drives.get k)

theorem State.settleFields_other (t : State) (hk : k ≠ h) : (State.settleFields h t).settledPart k = t.settledPart k := by
  unfold State.settleFields
  split
  · have hdrive : (t.applyFields h).drives.get k = t.drives.get k := by
      rw [State.applyFields_drives]
      split
      · rfl
      · exact PerSix.get_modify_other _ _ hk
    simp only [State.settledPart, State.applyFields_heads, State.applyFields_store, hdrive, PerSix.get_set_other _ _ hk]
  · simp only [State.settledPart, State.modStore_heads, State.modStore_store, State.modStore_drives, PerSix.get_set_other _ _ hk]

/-- An IDLE head takes its fields, with a zero command when its drive type changes; any other keeps them under a mark (R17, R109). -/
theorem State.settleFields_same (t : State) (k : HeadId) :
    let old := t.store.inForce.get k
    let new := t.store.settings.heads.get k
    let now := State.settleFields k t
    ((t.heads.get k).state = .idle → now.store.inForce.get k = new ∧ now.store.deferred.get k = false ∧
        now.drives.get k = if old.driveType = new.driveType then t.drives.get k
          else (t.drives.get k).command new.driveType.zero) ∧
      ((t.heads.get k).state ≠ .idle → now.store.inForce.get k = old ∧ now.store.deferred.get k = true ∧
        now.drives.get k = t.drives.get k) := by
  intro old new now
  refine ⟨fun hst => ?_, fun hst => ?_⟩
  · have hnow : now = t.applyFields k := if_pos hst
    rw [hnow, State.applyFields_store, State.applyFields_drives]
    refine ⟨PerSix.get_set_same _ _ _, PerSix.get_set_same _ _ _, ?_⟩
    by_cases he : old.driveType = new.driveType
    · rw [if_pos he, if_pos (show (t.fields k).driveType = _ from he)]
    · rw [if_neg he, if_neg (show ¬(t.fields k).driveType = _ from he), PerSix.get_modify_same]
  · have hnow : now = t.modStore fun st => { st with deferred := st.deferred.set k true } := if_neg hst
    rw [hnow]
    exact ⟨rfl, PerSix.get_set_same _ _ _, rfl⟩

/-- New fields settled on every head, seen at one of them. -/
theorem State.settleAll_head (s : State) (k : HeadId) :
    let new := s.store.settings.heads.get k
    let t := s.forHeadsInOrder State.settleFields
    ((s.heads.get k).state = .idle → t.store.inForce.get k = new ∧ t.store.deferred.get k = false ∧
        t.drives.get k = if (s.store.inForce.get k).driveType = new.driveType then s.drives.get k
          else (s.drives.get k).command new.driveType.zero) ∧
      ((s.heads.get k).state ≠ .idle → t.store.inForce.get k = s.store.inForce.get k ∧ t.store.deferred.get k = true ∧
        t.drives.get k = s.drives.get k) := by
  intro new
  have hfold : ∃ u : State, u.settledPart k = s.settledPart k ∧
      (s.forHeadsInOrder State.settleFields).settledPart k = (State.settleFields k u).settledPart k :=
    (foldHeads_at State.settledPart State.settleFields (fun h k t hk => t.settleFields_other hk) sixInOrder k s
      (by decide)).2 (mem_sixInOrder k)
  generalize s.forHeadsInOrder State.settleFields = t at hfold
  intro t
  obtain ⟨u, hu, ht⟩ := hfold
  simp only [State.settledPart, Prod.mk.injEq] at hu ht
  obtain ⟨ustate, usettings, ufields, -, udrive⟩ := hu
  obtain ⟨-, -, tfields, tmark, tdrive⟩ := ht
  obtain ⟨hidle, hbusy⟩ := u.settleFields_same k
  rw [← tfields, ← tmark, ← tdrive, ustate, usettings, ufields, udrive] at hidle
  rw [← tfields, ← tmark, ← tdrive, ustate, ufields, udrive] at hbusy
  exact ⟨hidle, hbusy⟩

/-- A link judged by new marks and marked (R17). -/
theorem StationLink.rejudged_spoilt (k : StationLink) (high low : Nat) (b : Bool) :
    (k.rejudgeHold high low).spoil b = { k with
      spoiled := k.spoiled || b
      holdOut := if high ≤ k.fifoCount then true else if k.fifoCount ≤ low then false else k.holdOut } := by
  unfold StationLink.rejudgeHold
  split
  · rfl
  · split <;> rfl

theorem Store.settleSettings_ok {st : Store} {body : List Byte} {w : WriteResult} (hok : writeOk body w = true) :
    st.settleSettings body w = { st with
      nv := st.nv.set 54 (some (writtenCells w body))
      corrected := if (eccRead (writtenCells w body)).1 then min (st.corrected + 1) 65535 else st.corrected
      lastError := if (eccRead (writtenCells w body)).1 then some (54, .corrected) else st.lastError
      settingsFailed := false, supervisor := none, port := .idle, lastOpKind := some .settingsWrite
      lastOpResult := some .ok } := by
  rw [Store.settleSettings, Store.storeRecord_ok hok, hok]
  rfl

theorem Store.settleSettings_failed {st : Store} {body : List Byte} {w : WriteResult} (hok : writeOk body w = false) :
    st.settleSettings body w = { st with
      nv := st.nv.set 54 (some (writtenCells w body))
      corrected := if (eccRead (writtenCells w body)).1 then min (st.corrected + 1) 65535 else st.corrected
      uncorrectable := min (st.uncorrectable + 1) 65535
      lastError := some (54, .uncorrectable)
      settingsFailed := true, supervisor := none, port := .idle, lastOpKind := some .settingsWrite
      lastOpResult := some .failed } := by
  rw [Store.settleSettings, Store.storeRecord_failed hok, hok]
  rfl

theorem Store.settleSettings_failed_state {body : List Byte} {w : WriteResult} (hok : writeOk body w = false) :
    (s.modStore fun st => st.settleSettings body w) = { s with store := { s.store with
      nv := s.store.nv.set 54 (some (writtenCells w body))
      corrected := if (eccRead (writtenCells w body)).1 then min (s.store.corrected + 1) 65535 else s.store.corrected
      uncorrectable := min (s.store.uncorrectable + 1) 65535
      lastError := some (54, .uncorrectable)
      settingsFailed := true, supervisor := none, port := .idle, lastOpKind := some .settingsWrite
      lastOpResult := some .failed } } := by
  rw [State.modStore, Store.settleSettings_failed hok]

/-- Settles O10. -/
theorem settingsWriteCompletes : Obligations.SettingsWriteCompletes := by
  intro w s body hop
  have hexec := execSettingsWriteComplete_eq hop w
  cases hok : writeOk body w.held with
  | false =>
    rw [hok, if_neg (by decide), Store.settleSettings_failed_state hok] at hexec
    exact ⟨_, hexec, rfl, rfl, rfl, rfl, rfl, rfl, rfl, rfl, rfl, rfl, rfl, rfl,
      fun _ => ⟨rfl, rfl, rfl, rfl, rfl, rfl, rfl, rfl, rfl, rfl, rfl, rfl⟩, nofun⟩
  | true =>
    let new := decodeSettings body
    let s0 : State := { s.adopt new with
      store := { s.store with settings := new }.settleSettings body w.held
      links := PerSix.ofFn fun l => ((s.links.get l).rejudgeHold new.holdHigh new.holdLow).spoil (w.onLinks.get l)
      line := s.line.spoil w.onLine }
    rw [hok, if_pos rfl, State.putInForce_eq] at hexec
    have hs0 : s0.store = _ := Store.settleSettings_ok hok
    have hheads := s0.settleAll_head
    have hframe : s0.SettledFrom (s0.forHeadsInOrder State.settleFields) :=
      State.forHeadsInOrder_keeps _ s0.SettledFrom _ (fun h t ht => ht.settleFields h) rfl
    refine ⟨s0.forHeadsInOrder State.settleFields, hexec, ?_⟩
    generalize s0.forHeadsInOrder State.settleFields = t at hheads hframe
    have hstore : t.store = { s0.store with inForce := t.store.inForce, deferred := t.store.deferred } := congrArg State.store hframe
    rw [hs0] at hstore hheads
    have frame : ∀ {α : Type} (f : State → α), (∀ store drives, f { s0 with store := store, drives := drives } = f s0) →
        f t = f s0 := fun f hf => (congrArg f (show t = { s0 with store := _, drives := _ } from hframe)).trans (hf _ _)
    have links : ∀ l, t.links.get l =
        ((s.links.get l).rejudgeHold new.holdHigh new.holdLow).spoil (w.onLinks.get l) := fun l => by
      rw [frame State.links fun _ _ => rfl]
      exact PerSix.get_ofFn _ l
    exact ⟨by rw [hstore], by rw [hstore], by rw [hstore], frame State.heads fun _ _ => rfl, frame State.fronts fun _ _ => rfl,
      frame State.cabinet fun _ _ => rfl, frame State.sup fun _ _ => rfl, by rw [hstore], by rw [hstore],
      frame State.trace fun _ _ => rfl, by rw [hstore], by rw [hstore], nofun,
      fun _ => ⟨by rw [hstore], by rw [hstore], by rw [hstore], by rw [hstore], by rw [hstore],
        frame State.line fun _ _ => rfl, frame State.disp fun _ _ => rfl,
        fun l => (links l).trans (StationLink.rejudged_spoilt _ _ _ _), hheads⟩⟩

end Sys2Proof.Machine
end

section
/-! PROOFS. The port is handed on, and a lookup's result reaches its head (O12, O13). -/

namespace Sys2Proof.Machine

variable {s : State} {e : LookupEntry} {h : HeadId}

/-! ### A result delivered (R47) -/

theorem State.deliverLookup_taken (ht : s.takesLookup e = true) (result : LookupResult) (corrected : Bool) :
    s.deliverLookup e result corrected =
      (s.modFlags e.head fun f => { f with eccCorrected := f.eccCorrected || corrected }).actOnLookup e.head result := if_pos ht

theorem State.deliverLookup_discarded (ht : s.takesLookup e = false) (result : LookupResult) (corrected : Bool) :
    s.deliverLookup e result corrected = s := if_neg (by simp [ht])

/-- The end of an active head's cycle keeps the context's flags and revision (R62). -/
theorem State.endCycle_ctx {c : Context} (reason : Option Reason) (ha : s.isActive h = true) (hc : (s.heads.get h).ctx = some c) :
    ∃ c', ((s.endCycle h reason).heads.get h).ctx = some c' ∧ c'.flags = c.flags ∧ c'.revision = c.revision := by
  have ended : ∀ (c : Context) st now, (c.ended st now reason).revision = c.revision := fun c st now => by
    unfold Context.ended; split <;> rfl
  have finish : ∀ (u : State) (d : Context), (u.heads.get h).ctx = some d → d.flags = c.flags → d.revision = c.revision →
      ∃ c', ((u.finishCycle h reason).heads.get h).ctx = some c' ∧ c'.flags = c.flags ∧ c'.revision = c.revision :=
    fun u d hd hf hr => ⟨_, congrArg Head.ctx (u.finishCycle_heads_same h reason hd), by rw [Context.ended_flags, hf], by rw [ended, hr]⟩
  rcases (s.isActive_iff h).mp ha with hst | hst | hst
  · simp only [State.endCycle, hst]
    exact finish _ c hc rfl rfl
  · simp only [State.endCycle, hst]
    exact finish _ (c.accrue (s.cutEnergy h)) (by rw [State.cut_heads_same, hc]; rfl) rfl rfl
  · simp only [State.endCycle, hst]
    exact finish _ c hc rfl rfl

/-- A cycle ended after its flags were brought up to date. -/
theorem State.endFlagged_cycleOver (s : State) (reason : Reason) (f : CycleFlags → CycleFlags) {c : Context}
    (ha : s.isActive h = true) (hc : (s.heads.get h).ctx = some c) :
    s.cycleOver ((s.modFlags h f).endCycle h (some reason)) h c.cycle .aborted (some reason) := by
  have hflags := State.modFlags_heads_same s h f
  have hc1 : ((s.modFlags h f).heads.get h).ctx = some { c with flags := f c.flags } := by rw [hflags, hc]; rfl
  have ha1 : (s.modFlags h f).isActive h = true := by
    unfold State.isActive at ha ⊢
    rw [hflags]
    exact ha
  have hover := (s.modFlags h f).endCycle_cycleOver h reason ha1 hc1
  exact hover

/-! ### The hand-on of a free port (O13) -/

theorem exec_portStart (hidle : s.store.port = .idle) : exec .storePortStart s =
    match s.store.queue with
    | e :: rest => .next ((s.modStore fun st => { st with queue := rest }).startLookup e)
    | [] =>
      match s.store.supervisor with
      | some { op := op, started := false } => .next (s.startSupervisor op)
      | some { op := _, started := true } => .next s
      | none => .next s := by
  simp only [exec, execStorePortStart, hidle, if_true] <;> rfl

/-- An operation that does not complete at its start occupies the port (R10). -/
theorem State.startSupervisor_occupies {op : SupervisorOp}
    (herase : ∀ slot, op = .recipeErase slot → s.store.slotStatus.getD slot .empty ≠ .empty)
    (hread : ∀ slot, op = .recipeRead slot → s.store.slotStatus.getD slot .empty = .valid) :
    s.startSupervisor op = s.occupyPort op := by
  cases op with
  | recipeErase slot => exact if_neg (herase slot rfl)
  | recipeRead slot => simp only [State.startSupervisor, hread slot rfl]
  | _ => rfl

/-- An erase of an EMPTY slot completes at its start (R15). -/
theorem State.startSupervisor_erase {slot : Nat} (hs : s.store.slotStatus.getD slot .empty = .empty) :
    s.startSupervisor (.recipeErase slot) = { s with store := { s.store with
      supervisor := none, port := .idle, lastOpKind := some .recipeErase, lastOpResult := some .ok } } := if_pos hs

/-- A read of an EMPTY or DAMAGED slot is answered at its start (R19). -/
theorem State.startSupervisor_read {slot : Nat} (hs : s.store.slotStatus.getD slot .empty ≠ .valid)
    (hf : s.line.reply = .forming) :
    s.startSupervisor (.recipeRead slot) = { s with
      store := { s.store with supervisor := none, port := .idle }
      line := s.line.form (if s.store.slotStatus.getD slot .empty = .empty
        then { kind := 0x90, payload := [BitVec.ofNat 8 slot, 0, 0, 0] }
        else { kind := 0xFF, payload := [9, BitVec.ofNat 8 slot] }) } := by
  have reply : ∀ r : LineReply, (s.modStore Store.finishRead).formReply r =
      { s with store := { s.store with supervisor := none, port := .idle }, line := s.line.form r } :=
    fun r => State.formReply_forming (s := s.modStore Store.finishRead) hf r
  simp only [State.startSupervisor]
  cases hst : s.store.slotStatus.getD slot .empty with
  | empty => exact reply _
  | damaged => exact reply _
  | valid => exact absurd hst hs

/-- Settles O13. -/
theorem freePortStartsLookupsFirst : Obligations.FreePortStartsLookupsFirst := by
  intro s hidle
  have hexec := exec_portStart hidle
  refine ⟨fun e rest slot hq hslot => ?_, fun e rest hq hslot ht => ?_, fun op hq hop => ?_⟩
  · rw [hexec, hq]
    have hfound : Store.slotOf { s.store with queue := rest } e.code = some slot := hslot
    simp only [State.startLookup, State.modStore, hfound]
  · let s1 := s.modStore fun st => { st with queue := rest }
    have hnone : s1.store.slotOf e.code = none := hslot
    have hstart : s1.startLookup e = (s1.modFlags e.head fun f => { f with eccCorrected := f.eccCorrected || false }).endCycle e.head
        (some .noRecipe) := by
      simp only [State.startLookup, hnone]
      exact s1.deliverLookup_taken ht .noRecipe false
    obtain ⟨hst, c, hc, hcycle⟩ := State.takesLookup_iff.mp ht
    refine ⟨_, by rw [hexec, hq], ?_, ?_⟩
    · rw [hstart, State.endCycle_store]
      exact hidle
    · rw [hstart, ← hcycle]
      exact s1.endFlagged_cycleOver .noRecipe (fun f => { f with eccCorrected := f.eccCorrected || false })
        ((s1.isActive_iff _).mpr (.inl hst)) hc
  · intro status
    have hstart : exec .storePortStart s = .next (s.startSupervisor op) := by rw [hexec, hq, hop]
    refine ⟨fun herase hread => ?_, fun slot he hs => ?_, fun slot he hs hf => ?_⟩
    · rw [hstart, State.startSupervisor_occupies herase hread]
      rfl
    · rw [hstart, he, State.startSupervisor_erase hs]
    · rw [hstart, he, State.startSupervisor_read hs hf]

/-! ### The entry to HEATING (R47 to R49) -/

/-- The context that enters HEATING, its cycle begun (R47, R50, R81). -/
theorem Context.startHeating_fields (c : Context) (r : Recipe) :
    (c.startHeating r).cycle = c.cycle ∧ (c.startHeating r).flags = c.flags ∧ (c.startHeating r).revision = r.revision :=
  ⟨rfl, rfl, rfl⟩

/-- A head as the checks at the entry to HEATING find it. -/
def State.atEntry (s : State) (h : HeadId) (r : Recipe) : State :=
  s.modHead h fun hd => { hd with state := .heating, ctx := hd.ctx.map (·.startHeating r) }

theorem State.atEntry_head {c : Context} (hc : (s.heads.get h).ctx = some c) (r : Recipe) :
    (s.atEntry h r).heads.get h = { s.heads.get h with state := .heating, ctx := some (c.startHeating r) } := by
  rw [State.atEntry, State.modHead_heads_same, hc]
  rfl

/-- A failing check ends the cycle from HEATING (R49, log entry 28). -/
theorem State.enterHeating_fails {c : Context} {r : Recipe} {reason : Reason} (hc : (s.heads.get h).ctx = some c)
    (hfail : s.entryFailure h (s.isDry h) = some reason) :
    s.enterHeating h r = (s.atEntry h r).endCycle h (some reason) ∧
      s.cycleOver (s.enterHeating h r) h c.cycle .aborted (some reason) := by
  have he : s.enterHeating h r = (s.atEntry h r).endCycle h (some reason) := by
    have hfail1 : (s.atEntry h r).entryFailure h (s.isDry h) = some reason := hfail
    unfold State.enterHeating
    simp only [← State.atEntry.eq_def, hfail1]
  have hhead := State.atEntry_head hc r
  refine ⟨he, ?_⟩
  rw [he]
  have hover := (s.atEntry h r).endCycle_cycleOver h reason
    (((s.atEntry h r).isActive_iff h).mpr (.inr (.inl (by rw [hhead])))) (congrArg Head.ctx hhead)
  exact hover

/-- With the checks passed the request and the shortfall counter are at 0 (R92). -/
theorem State.enterHeating_passes {r : Recipe} (hpass : s.entryFailure h (s.isDry h) = none) :
    s.enterHeating h r = { s.atEntry h r with disp := { s.disp with
      request := s.disp.request.set h (some { request := 0, cls := match r.segments.head? with
        | some g => g.kind.requestClass
        | none => .class0 })
      shortfall := s.disp.shortfall.set h 0 } } := by
  have hpass1 : (s.atEntry h r).entryFailure h (s.isDry h) = none := hpass
  unfold State.enterHeating
  simp only [← State.atEntry.eq_def, hpass1]
  rfl

/-! ### A taken result (R47, R48) -/

/-- What a taken result does whatever it is: the other heads stay, the context keeps its flags, and its revision is the one read. -/
theorem State.actOnLookup_context {c : Context} (result : LookupResult) (hst : (s.heads.get h).state = .lookup)
    (hc : (s.heads.get h).ctx = some c) :
    (∀ k, k ≠ h → s.headUntouched (s.actOnLookup h result) k) ∧
      ∃ c', ((s.actOnLookup h result).heads.get h).ctx = some c' ∧ c'.flags = c.flags ∧ c'.revision = match result with
        | .noRecipe => c.revision
        | .recipeDamaged => c.revision
        | .tooStrong rev => rev
        | .good r => r.revision := by
  have ha : s.isActive h = true := (s.isActive_iff h).mpr (.inl hst)
  have entry : ∀ r k, k ≠ h → s.headUntouched (s.atEntry h r) k := fun r k hk =>
    ⟨State.modHead_heads_other s _ hk, rfl, rfl, rfl, rfl, rfl⟩
  cases result with
  | noRecipe => exact ⟨fun k hk => s.endCycle_untouched h _ hk, State.endCycle_ctx _ ha hc⟩
  | recipeDamaged => exact ⟨fun k hk => s.endCycle_untouched h _ hk, State.endCycle_ctx _ ha hc⟩
  | tooStrong rev =>
    let u := s.modCtx h fun c => { c with revision := rev }
    have hhead : u.heads.get h = { s.heads.get h with ctx := some { c with revision := rev } } := by
      rw [State.modCtx_heads_same, hc]; rfl
    refine ⟨fun k hk => .trans ⟨State.modCtx_heads_other s _ hk, rfl, rfl, rfl, rfl, rfl⟩ (u.endCycle_untouched h _ hk), ?_⟩
    exact State.endCycle_ctx (s := u) _ ((u.isActive_iff h).mpr (.inl (by rw [hhead]; exact hst))) (congrArg Head.ctx hhead)
  | good r =>
    have hhead := State.atEntry_head hc r
    cases hfail : s.entryFailure h (s.isDry h) with
    | some reason =>
      have he := (State.enterHeating_fails (r := r) hc hfail).1
      refine ⟨fun k hk => ?_, ?_⟩
      · rw [State.actOnLookup, he]
        exact (entry r k hk).trans ((s.atEntry h r).endCycle_untouched h _ hk)
      · rw [State.actOnLookup, he]
        exact State.endCycle_ctx (s := s.atEntry h r) _
          (((s.atEntry h r).isActive_iff h).mpr (.inr (.inl (by rw [hhead])))) (congrArg Head.ctx hhead)
    | none =>
      rw [State.actOnLookup, State.enterHeating_passes hfail]
      refine ⟨fun k hk => ?_, c.startHeating r, congrArg Head.ctx hhead, rfl, rfl⟩
      exact ⟨(entry r k hk).1, rfl, rfl, PerSix.get_set_other _ _ hk, rfl, rfl⟩

/-- Only queued lookups leave the store at a lookup's result (R62). -/
theorem State.deliverLookup_store (s : State) (e : LookupEntry) (result : LookupResult) (corrected : Bool) :
    (s.deliverLookup e result corrected).store =
      { s.store with queue := (s.deliverLookup e result corrected).store.queue } := by
  have ends : ∀ (u : State) (reason : Option Reason), u.store = s.store →
      (u.endCycle e.head reason).store = { s.store with queue := (u.endCycle e.head reason).store.queue } :=
    fun u reason hu => by rw [State.endCycle_store, hu]
  unfold State.deliverLookup
  split
  · cases result with
    | noRecipe => exact ends _ _ rfl
    | recipeDamaged => exact ends _ _ rfl
    | tooStrong rev => exact ends _ _ rfl
    | good r =>
      simp only [State.actOnLookup, State.enterHeating]
      split
      · exact ends _ _ rfl
      · rfl
  · rfl

/-- The result a lookup's read gives (R18, R48). -/
theorem lookupResult_some {maxPower : Nat} {record : List Byte} {r : Recipe}
    (hr : r = decodeRecipe (storedRevision record) (record.drop 2)) :
    ((∃ g ∈ r.segments, maxPower < g.ceiling) → lookupResult maxPower (some record) = .tooStrong r.revision) ∧
      ((∀ g ∈ r.segments, g.ceiling ≤ maxPower) → lookupResult maxPower (some record) = .good r) := by
  subst hr
  simp only [lookupResult]
  refine ⟨fun ⟨g, hg, hlt⟩ => if_pos (List.any_eq_true.mpr ⟨g, hg, decide_eq_true hlt⟩), fun hall => if_neg fun hany => ?_⟩
  obtain ⟨g, hg, hlt⟩ := List.any_eq_true.mp hany
  exact absurd (of_decide_eq_true hlt) (Nat.not_lt.mpr (hall g hg))

/-- Whatever a read recipe's result is, it carries the revision read. -/
theorem lookupResult_revision (maxPower : Nat) (record : List Byte) :
    lookupResult maxPower (some record) = .tooStrong (storedRevision record) ∨
      ∃ r, lookupResult maxPower (some record) = .good r ∧ r.revision = storedRevision record := by
  simp only [lookupResult]
  split
  · exact .inl rfl
  · exact .inr ⟨_, rfl, rfl⟩

/-- The checks at the entry to HEATING, in their order (R49). -/
theorem State.entryFailure_cases (s : State) (h : HeadId) (dry : Bool) :
    let stale := (s.fronts.get h).sensor = .stale
    let drive := (s.drives.get h).state
    (stale → s.entryFailure h dry = some .sensorLost) ∧
      (¬stale → ¬dry = true → s.cabinet = .notReady → s.entryFailure h dry = some .cabinet) ∧
      (¬stale → ¬dry = true → s.cabinet = .ready → drive = .tripped → s.entryFailure h dry = some .driveTrip) ∧
      (¬stale → ¬dry = true → s.cabinet = .ready → drive = .unknown → s.entryFailure h dry = some .driveLost) ∧
      (¬stale → dry = true ∨ (s.cabinet = .ready ∧ drive ≠ .tripped ∧ drive ≠ .unknown) → s.entryFailure h dry = none) := by
  intro stale drive
  have fresh : ¬stale → s.entryFailure h dry = if dry then none
      else if s.cabinet = .notReady then some .cabinet
      else match drive with
        | .tripped => some .driveTrip
        | .unknown => some .driveLost
        | .ready => none
        | .notReady => none := fun hs => if_neg hs
  refine ⟨fun hs => if_pos hs, fun hs hd hc => ?_, fun hs hd hc hdrive => ?_, fun hs hd hc hdrive => ?_, fun hs hok => ?_⟩
  · rw [fresh hs, if_neg hd, if_pos hc]
  · rw [fresh hs, if_neg hd, hc, if_neg (by decide), hdrive]
  · rw [fresh hs, if_neg hd, hc, if_neg (by decide), hdrive]
  · rw [fresh hs]
    rcases hok with hd | ⟨hc, htripped, hunknown⟩
    · exact if_pos hd
    · split
      · rfl
      · rw [hc, if_neg (by decide)]
        cases hdrive : drive with
        | tripped => exact absurd hdrive htripped
        | unknown => exact absurd hdrive hunknown
        | ready => rfl
        | notReady => rfl

theorem SegmentKind.requestClass_eq (k : SegmentKind) : k.requestClass = if k = .flow then .class1 else .class0 := by
  cases k <;> rfl

theorem Store.readRecipe_queue (st : Store) (slot : Nat) (flips : List CellFlip) :
    (st.readRecipe slot flips).1.queue = st.queue := by
  rw [Store.readRecipe_store, Store.countRead_eq]
  simp only
  split <;> rfl

section taken
variable {c : Context} {corrected : Bool} (hst : (s.heads.get e.head).state = .lookup)
  (hc : (s.heads.get e.head).ctx = some c) (hcycle : c.cycle = e.cycle)

/-- A head in LOOKUP with its correction noted, before the result acts. -/
def State.noted (s : State) (e : LookupEntry) (corrected : Bool) : State :=
  s.modFlags e.head fun f => { f with eccCorrected := f.eccCorrected || corrected }

include hst hc

theorem State.noted_head : (s.noted e corrected).heads.get e.head = { s.heads.get e.head with
    state := .lookup
    ctx := some { c with flags := { c.flags with eccCorrected := c.flags.eccCorrected || corrected } } } := by
  rw [State.noted, State.modFlags_heads_same, hc, ← hst]
  rfl

include hcycle

theorem State.takesLookup_of : s.takesLookup e = true := State.takesLookup_iff.mpr ⟨hst, c, hc, hcycle⟩

/-- What a taken result does whatever it is (R47). -/
theorem State.deliverLookup_context (result : LookupResult) :
    let t := s.deliverLookup e result corrected
    (∀ k, k ≠ e.head → s.headUntouched t k) ∧
      ∃ c', (t.heads.get e.head).ctx = some c' ∧
        c'.flags = { c.flags with eccCorrected := c.flags.eccCorrected || corrected } ∧ c'.revision = match result with
          | .noRecipe => c.revision
          | .recipeDamaged => c.revision
          | .tooStrong rev => rev
          | .good r => r.revision := by
  intro t
  have ht : t = (s.noted e corrected).actOnLookup e.head result := State.deliverLookup_taken (State.takesLookup_of hst hc hcycle) _ _
  have hhead := State.noted_head (corrected := corrected) hst hc
  obtain ⟨hother, c', hc', hflags, hrev⟩ := State.actOnLookup_context (s := s.noted e corrected) result (by rw [hhead])
    (congrArg Head.ctx hhead)
  rw [ht]
  refine ⟨fun k hk => .trans ⟨State.modFlags_heads_other s _ hk, rfl, rfl, rfl, rfl, rfl⟩ (hother k hk), c', hc', hflags, ?_⟩
  rw [hrev]

/-- A result that ends the cycle as it is (R47). -/
theorem State.deliverLookup_damaged :
    s.cycleOver (s.deliverLookup e .recipeDamaged corrected) e.head e.cycle .aborted (some .recipeDamaged) := by
  rw [State.deliverLookup_taken (State.takesLookup_of hst hc hcycle), ← hcycle]
  exact s.endFlagged_cycleOver .recipeDamaged _ ((s.isActive_iff _).mpr (.inl hst)) hc

theorem State.deliverLookup_tooStrong (rev : Word16) :
    s.cycleOver (s.deliverLookup e (.tooStrong rev) corrected) e.head e.cycle .aborted (some .tooStrong) := by
  let u := (s.noted e corrected).modCtx e.head fun c => { c with revision := rev }
  have hhead : u.heads.get e.head = { s.heads.get e.head with
      state := .lookup
      ctx := some { c with
        revision := rev, flags := { c.flags with eccCorrected := c.flags.eccCorrected || corrected } } } := by
    rw [State.modCtx_heads_same, State.noted_head hst hc]
    rfl
  rw [State.deliverLookup_taken (State.takesLookup_of hst hc hcycle), ← hcycle]
  have hover := u.endCycle_cycleOver e.head .tooStrong ((u.isActive_iff _).mpr (.inl (by rw [hhead]))) (congrArg Head.ctx hhead)
  exact hover

/-- A good result that a check at the entry meets (R49). -/
theorem State.deliverLookup_fails {r : Recipe} {reason : Reason} (hfail : s.entryFailure e.head (s.isDry e.head) = some reason) :
    s.cycleOver (s.deliverLookup e (.good r) corrected) e.head e.cycle .aborted (some reason) := by
  have hhead := State.noted_head (corrected := corrected) hst hc
  have hdry : (s.noted e corrected).isDry e.head = s.isDry e.head :=
    (State.isDry_of_ctx (congrArg Head.ctx hhead)).trans (State.isDry_of_ctx hc).symm
  rw [State.deliverLookup_taken (State.takesLookup_of hst hc hcycle), ← hcycle]
  have hover := (State.enterHeating_fails (s := s.noted e corrected) (r := r) (congrArg Head.ctx hhead)
    (reason := reason) (by rw [hdry]; exact hfail)).2
  exact hover

/-- A good result that passes them: HEATING begins (R47, R50, R81, R92). -/
theorem State.deliverLookup_heats {r : Recipe} (hpass : s.entryFailure e.head (s.isDry e.head) = none) :
    let t := s.deliverLookup e (.good r) corrected
    t.heads.get e.head = { s.heads.get e.head with
        state := .heating
        ctx := some (Context.startHeating
          { c with flags := { c.flags with eccCorrected := c.flags.eccCorrected || corrected } } r) } ∧
      t.disp = { s.disp with
        request := s.disp.request.set e.head (some { request := 0, cls := match r.segments.head? with
          | some g => g.kind.requestClass
          | none => .class0 })
        shortfall := s.disp.shortfall.set e.head 0 } ∧ t.drives = s.drives ∧ t.fronts = s.fronts := by
  have hhead := State.noted_head (corrected := corrected) hst hc
  have hdry : (s.noted e corrected).isDry e.head = s.isDry e.head :=
    (State.isDry_of_ctx (congrArg Head.ctx hhead)).trans (State.isDry_of_ctx hc).symm
  intro t
  have ht : t = _ := (State.deliverLookup_taken (State.takesLookup_of hst hc hcycle) (.good r) corrected).trans
    (State.enterHeating_passes (s := s.noted e corrected) (r := r) (by rw [hdry]; exact hpass))
  rw [ht]
  exact ⟨(State.atEntry_head (congrArg Head.ctx hhead) r).trans (by rw [hhead]), rfl, rfl, rfl⟩

end taken

/-- Settles O12. -/
theorem lookupResultReachesItsHead : Obligations.LookupResultReachesItsHead := by
  intro flips s e slot hport hslot read
  let s1 := s.modStore fun _ => { read.1 with port := .idle }
  have hexec : exec (.lookupComplete flips) s =
      .next (s1.deliverLookup e (lookupResult (s.store.inForce.get e.head).maxPower read.2.2) read.2.1) := by
    simp only [exec, execLookupComplete, hport]
    rfl
  refine ⟨_, hexec, ?_⟩
  have hstore := s1.deliverLookup_store e (lookupResult (s.store.inForce.get e.head).maxPower read.2.2) read.2.1
  refine ⟨hstore, fun hn => ?_, fun record hr => ?_, fun ht => ?_, fun ht => ?_, fun ht hn => ?_, fun record r ht hr hrecipe => ?_⟩
  · obtain ⟨hstatus, hindex, -, herror⟩ := Store.readRecipe_bad hn
    rw [hstore]
    exact ⟨(congrArg (fun l : List SlotStatus => l[slot]?) hstatus).trans (List.getElem?_set_self hslot), hindex, herror⟩
  · obtain ⟨hstatus, hindex, -, herror⟩ := Store.readRecipe_good hr
    rw [hstore]
    exact ⟨hstatus, hindex, herror⟩
  · rw [State.deliverLookup_discarded (s := s1) ht]
    exact ⟨rfl, rfl, rfl, s.store.readRecipe_queue slot flips⟩
  · obtain ⟨hst, c, hc, hcycle⟩ := State.takesLookup_iff.mp ht
    obtain ⟨hother, c', hc', hflags, hrev⟩ := State.deliverLookup_context (s := s1) (corrected := read.2.1) hst hc hcycle
      (lookupResult (s.store.inForce.get e.head).maxPower read.2.2)
    refine ⟨hother, c, c', hc, hc', hflags, fun hn => ?_, fun record hr => ?_⟩
    · rw [hrev, hn]
      rfl
    · rw [hrev, hr]
      rcases lookupResult_revision (s.store.inForce.get e.head).maxPower record with hres | ⟨r, hres, hrevision⟩ <;> rw [hres]
      exact hrevision
  · obtain ⟨hst, c, hc, hcycle⟩ := State.takesLookup_iff.mp ht
    rw [hn]
    exact State.deliverLookup_damaged (s := s1) hst hc hcycle
  · obtain ⟨hst, c, hc, hcycle⟩ := State.takesLookup_iff.mp ht
    obtain ⟨hstrong, hgood⟩ := lookupResult_some (maxPower := (s.store.inForce.get e.head).maxPower) hrecipe
    refine ⟨fun hany => ?_, fun hall => ?_⟩
    · rw [hr, hstrong hany]
      exact State.deliverLookup_tooStrong (s := s1) hst hc hcycle _
    · intro stale dry drive
      obtain ⟨hstale, hcabinet, htrip, hlost, hpass⟩ := s1.entryFailure_cases e.head (s1.isDry e.head)
      rw [hr, hgood hall]
      refine ⟨fun h1 => State.deliverLookup_fails (s := s1) hst hc hcycle (hstale h1),
        fun h1 h2 h3 => State.deliverLookup_fails (s := s1) hst hc hcycle (hcabinet h1 h2 h3),
        fun h1 h2 h3 h4 => State.deliverLookup_fails (s := s1) hst hc hcycle (htrip h1 h2 h3 h4),
        fun h1 h2 h3 h4 => State.deliverLookup_fails (s := s1) hst hc hcycle (hlost h1 h2 h3 h4), fun h1 h2 g hg => ?_⟩
      obtain ⟨hheads, hdisp, hdrives, hfronts⟩ :=
        State.deliverLookup_heats (s := s1) (r := r) (corrected := read.2.1) hst hc hcycle (hpass h1 h2)
      have hfirst : r.segments.head? = some g := by rw [List.head?_eq_getElem?]; exact hg
      refine ⟨by rw [hheads], ⟨_, congrArg Head.ctx hheads, hcycle, rfl, by rw [hrecipe]; rfl, rfl, rfl, rfl, rfl, rfl, rfl, rfl, rfl, ?_⟩,
        ?_, ?_, ?_, hdrives, hfronts⟩
      · simp only [Context.startHeating, hfirst]
        rfl
      · rw [hdisp, hfirst, ← SegmentKind.requestClass_eq]
        exact PerSix.get_set_same _ _ _
      · rw [hdisp]
        exact PerSix.get_set_same _ _ _
      · rw [hdisp]
        rfl

end Sys2Proof.Machine
end

section
/-! PROOFS. The setpoint of a segment, and the steps of a cycle's end (O18, O25). -/

namespace Sys2Proof.Machine

variable {s : State} {h : HeadId}

/-! ### The setpoint (R51) -/

/-- A part `e` of `d` of a difference, rounded down, lies between nothing and all of it. -/
theorem partOf_between (diff : Int) {e d : Nat} (hd : 1 ≤ d) (he : e ≤ d) :
    min 0 diff ≤ diff * e / d ∧ diff * e / d ≤ max 0 diff := by
  have hd' : (0 : Int) < d := by exact_mod_cast hd
  have he' : (e : Int) ≤ d := by exact_mod_cast he
  rcases le_total 0 diff with hpos | hneg
  · have hall : diff * e ≤ diff * d := Int.mul_le_mul_of_nonneg_left he' hpos
    have h1 : 0 ≤ diff * e / d := Int.ediv_nonneg (Int.mul_nonneg hpos (by positivity)) hd'.le
    have h2 : diff * e / d ≤ diff := Int.ediv_le_of_le_mul hd' hall
    omega
  · have hall : diff * d ≤ diff * e := mul_le_mul_of_nonpos_left he' hneg
    have h1 : diff ≤ diff * e / d := Int.le_ediv_of_mul_le hd' hall
    have h2 : diff * e / d ≤ 0 := Int.ediv_nonpos_of_nonpos_of_neg (Int.mul_nonpos_of_nonpos_of_nonneg hneg (by positivity)) hd'
    omega

/-- The setpoint of a RAMP whose clock runs (R51). -/
theorem Context.setpoint_ramp {c : Context} {g : Segment} {start : Word32} (hc : c.clock = some start) (hg : g.kind = .ramp)
    (now : Word32) :
    c.setpoint g now = ((c.origin : Int) +
      ((g.target : Int) - c.origin) * (min (now - start).toNat g.duration : Nat) / g.duration).toNat := by
  simp only [Context.setpoint, hg, Context.elapsedSegment, hc]
  rfl

/-- Settles O18. -/
theorem setpointFollowsTheSegment : Obligations.SetpointFollowsTheSegment := by
  intro c g now start hc hd
  refine ⟨fun hg => by rcases hg with hg | hg <;> simp [Context.setpoint, hg], fun hg => ?_⟩
  intro e
  have hbetween := partOf_between ((g.target : Int) - c.origin) hd (min_le_right (now - start).toNat g.duration)
  have hsp : c.setpoint g now = ((c.origin : Int) + ((g.target : Int) - c.origin) * e / g.duration).toNat :=
    Context.setpoint_ramp hc hg now
  rw [hsp]
  change min 0 ((g.target : Int) - c.origin) ≤ ((g.target : Int) - c.origin) * (e : Nat) / g.duration ∧ ((g.target : Int) - c.origin) * (e : Nat) / g.duration ≤ _ at hbetween
  refine ⟨by omega, by omega, by omega, fun hdone => ?_, fun hnow => ?_⟩
  · have he : e = g.duration := min_eq_right hdone
    rw [he, Int.mul_ediv_cancel _ (by omega)]
    omega
  · simp [e, hnow]

/-! ### The end of a cycle (R61, R62) -/

/-- The energy a head's cut adds when its cycle is left: that of its drive, from HEATING alone (R62). -/
def State.leftEnergy (s : State) (h : HeadId) : Nat := if (s.heads.get h).state = .heating then s.cutEnergy h else 0

theorem State.leaveCycle_head {c : Context} (hc : (s.heads.get h).ctx = some c) :
    (s.leaveCycle h).heads.get h = { s.heads.get h with ctx := some (c.accrue (s.leftEnergy h)) } := by
  have none : (s.heads.get h).state ≠ .heating →
      s.heads.get h = { s.heads.get h with ctx := some (c.accrue (s.leftEnergy h)) } := fun hst => by
    rw [State.leftEnergy, if_neg hst]
    exact congrArg (fun x => { s.heads.get h with ctx := x }) hc
  unfold State.leaveCycle
  split
  · next hst => exact none (by rw [hst]; decide)
  · next hst =>
    rw [State.cut_heads_same, State.leftEnergy, if_pos hst, hc]
    rfl
  · next hst => exact none hst

/-- The end of an active head's cycle, in one step (R62). -/
theorem State.endCycle_closes {c : Context} (reason : Option Reason) (ha : s.isActive h = true)
    (hc : (s.heads.get h).ctx = some c) :
    s.endCycle h reason = (s.leaveCycle h).closeCycle h reason
      ((c.accrue (s.leftEnergy h)).ended (s.heads.get h).state s.disp.timestamp reason) := by
  have hhead := State.leaveCycle_head hc
  rw [State.endCycle_eq s h reason ha, State.finishCycle_eq_closeCycle (congrArg Head.ctx hhead), hhead,
    State.leaveCycle_disp_timestamp]

/-- The buffer of a head's reservation after the append (R147). -/
theorem TraceUnit.append_get (u : TraceUnit) {v : Reservation} (hv : u.reservation.get h = some v) (cycle : Word32)
    (record : List Word16) :
    (u.append h cycle record).get v.buffer = (u.get v.buffer).append cycle record ∧
      (u.append h cycle record).get v.buffer.other = u.get v.buffer.other := by
  obtain ⟨i, n⟩ := v
  cases i <;> simp [TraceUnit.append, hv, TraceUnit.modify, TraceUnit.set, TraceUnit.get, BufferId.other]

/-- Whether any head is active once one head's cycle is over (R170). -/
theorem State.anyActive_set_ended (s : State) (h : HeadId) {hd : Head} (hhd : hd.state.active = false) :
    ({ s with heads := s.heads.set h hd } : State).anyActive = false ↔ ∀ k, k ≠ h → s.isActive k = false := by
  have others : ∀ k, k ≠ h → ({ s with heads := s.heads.set h hd } : State).isActive k = s.isActive k := fun k hk => by
    unfold State.isActive; rw [PerSix.get_set_other _ _ hk]
  refine ⟨fun hnone k hk => ?_, fun hall => State.anyActive_false fun k => ?_⟩
  · rw [← others k hk, ← Bool.not_eq_true]
    exact fun hact => absurd (((State.anyActive_iff _).mpr ⟨k, hact⟩).symm.trans hnone) (by decide)
  · by_cases hk : k = h
    · subst hk
      unfold State.isActive
      rw [PerSix.get_set_same]
      exact hhd
    · rw [others k hk, hall k hk]

theorem endState_inactive (r : CycleResult) : (endState r).active = false := by cases r <;> rfl

/-- The mode after a cycle is closed (R170). -/
theorem State.closeCycle_mode (s : State) (h : HeadId) (reason : Option Reason) (c : Context) :
    (s.closeCycle h reason c).sup = { s.sup with
      mode := if s.sup.mode = .draining ∧ (∀ k, k ≠ h → s.isActive k = false) then .standby else s.sup.mode } := by
  unfold State.closeCycle
  rw [State.watchDrain_sup]
  have hiff := ({ s with
    fronts := s.fronts.modify h fun fe => { fe with replayActive := false }
    trace := s.trace.append h c.cycle (traceRecord h c) } : State).anyActive_set_ended h
      (hd := { state := endState (cycleResult reason c.flags), ctx := some c, notice := true })
      (endState_inactive (cycleResult reason c.flags))
  by_cases hd : s.sup.mode = .draining ∧ ∀ k, k ≠ h → s.isActive k = false
  · rw [if_pos ⟨hd.1, hiff.mpr hd.2⟩, if_pos hd]
  · rw [if_neg fun hn => hd ⟨hn.1, hiff.mp hn.2⟩, if_neg hd]

/-- The lookups waiting after an active cycle's end (R13). -/
theorem State.mem_endCycle_queue (s : State) (h : HeadId) (reason : Option Reason) (e : LookupEntry) :
    e ∈ (s.endCycle h reason).store.queue ↔ e ∈ s.store.queue ∧ ((s.heads.get h).state = .lookup → e.head ≠ h) := by
  rw [State.endCycle_store]
  by_cases hst : (s.heads.get h).state = .lookup <;> simp [hst]

/-- The summary of a segment in progress (R62). -/
theorem Context.summary_eq (c : Context) (now : Word32) :
    c.summary now =
      { kind := (c.segment.map (·.kind)).getD .ramp
        time := match c.clock with
          | some t => min (now - t).toNat 65535
          | none => 0
        peak := c.peak, energy := min (c.segEnergy / 100) 65535 } := by
  unfold Context.summary
  cases c.clock <;> rfl

/-- The context of an active head's cycle at its end, field by field (R61, R62). -/
theorem Context.ended_eq (c : Context) {st : HeadState} (hst : st.active = true) (now : Word32) (reason : Option Reason) :
    c.ended st now reason = { c with
      summaries := if st ≠ .lookup ∧ c.summaries.length ≤ c.segIndex then c.summaries ++ [c.summary now] else c.summaries
      cycleTimer := none, result := some (cycleResult reason c.flags), reason := reason } := by
  have hiff : ((st = .heating ∨ st = .hold) ∧ c.summaryDue = true) ↔ (st ≠ .lookup ∧ c.summaries.length ≤ c.segIndex) := by
    cases st <;> simp_all [Context.summaryDue, HeadState.active]
  unfold Context.ended
  by_cases hdue : st ≠ .lookup ∧ c.summaries.length ≤ c.segIndex
  · rw [if_pos (hiff.mpr hdue), if_pos hdue]; rfl
  · rw [if_neg (mt hiff.mp hdue), if_neg hdue]

/-- Settles O25. -/
theorem endOfACycleTakesItsSteps : Obligations.EndOfACycleTakesItsSteps := by
  intro s h reason c v hc ha hv u driven amount segEnergy result summary due c'
  have hresult : cycleResult reason c.flags = result := by cases reason <;> rfl
  have hended : (c.accrue (s.leftEnergy h)).ended (s.heads.get h).state s.disp.timestamp reason = c' := by
    rw [Context.ended_eq _ ha, Context.summary_eq]
    show { c with
      totalEnergy := _, segEnergy := _, summaries := _, cycleTimer := none
      result := some (cycleResult reason c.flags), reason := reason } = c'
    rw [hresult]
    rfl
  have hu : u = (s.leaveCycle h).closeCycle h reason c' := by rw [← hended]; exact State.endCycle_closes reason ha hc
  have htrace : u.trace = s.trace.append h c.cycle (traceRecord h c') := by
    rw [hu, State.closeCycle_trace, State.leaveCycle_trace]
  obtain ⟨hbuf, hother⟩ := s.trace.append_get hv c.cycle (traceRecord h c')
  rw [← htrace] at hbuf hother
  have hactive : (∀ k, k ≠ h → (s.leaveCycle h).isActive k = false) ↔ ∀ k, k ≠ h → s.isActive k = false :=
    forall_congr' fun k => imp_congr_right fun hk => by
      unfold State.isActive; rw [State.leaveCycle_heads_other s h hk]
  refine ⟨?_, by rw [hbuf]; rfl, by rw [hbuf]; rfl, by rw [hbuf]; rfl, ?_, by rw [hbuf]; rfl, by rw [hbuf]; rfl,
    by rw [hbuf]; rfl, by rw [hbuf]; rfl, hother, ?_, ?_, s.mem_endCycle_queue h reason, fun hd => s.endCycle_cut reason hd,
    fun hd => s.endCycle_uncut reason hd, fun k hk => s.endCycle_untouched h reason hk, s.endCycle_cabinet h reason,
    s.endCycle_links h reason, s.endCycle_line h reason⟩
  · rw [hu, State.closeCycle_heads, PerSix.get_set_same]
    refine congrArg (fun st => ({ state := st, ctx := some c', notice := true } : Head)) ?_
    show endState (cycleResult reason c.flags) = _
    rw [hresult]
    cases result <;> rfl
  · rw [hu, State.closeCycle_mode, State.leaveCycle_sup]
    simp only [hactive]
  · rw [htrace]; exact TraceUnit.append_reservation_same h _ _ _
  · rw [hu, State.closeCycle_fronts, PerSix.get_modify_same]

end Sys2Proof.Machine
end

section
/-! PROOFS. A usable sample of a head in HEATING: the segment runs on, or the next one is entered (O19, O20). -/

namespace Sys2Proof.Machine

variable {s : State} {h : HeadId} {c : Context} {r : Recipe} {g : Segment} {t : Nat} {now : Word32}

/-! ### The context at a sample (R52) -/

/-- Steps 1 and 2 of R52, written out. -/
theorem Context.atSample_eq (c : Context) (g : Segment) (now : Word32) (t : Nat) :
    c.atSample g now t = { c with
      clock := some (c.clock.getD now), origin := if c.clock = none ∧ g.kind = .ramp then t else c.origin
      peak := max c.peak t } := by
  unfold Context.atSample
  cases hc : c.clock with
  | none => simp [Context.startClock]
  | some start => simp [hc]

/-- A clock that runs is left as it is. -/
theorem Context.atSample_running {start : Word32} (hc : c.clock = some start) :
    c.atSample g now t = { c with peak := max c.peak t } := by
  unfold Context.atSample
  simp only [hc]

/-- The setpoint is the clock's and S0's alone (R51). -/
theorem Context.setpoint_congr {c' : Context} (hclock : c'.clock = c.clock) (horigin : c'.origin = c.origin) :
    c'.setpoint g now = c.setpoint g now := by
  unfold Context.setpoint Context.elapsedSegment
  rw [hclock, horigin]

/-- The setpoint where a segment's clock starts: S0 in a RAMP, its target else. -/
theorem Context.setpoint_now (hc : c.clock = some now) :
    c.setpoint g now = if g.kind = .ramp then c.origin else g.target := by
  cases hg : g.kind with
  | ramp => rw [Context.setpoint_ramp hc hg]; simp
  | _ => simp [Context.setpoint, hg]

theorem Context.bandInterval_eq (c : Context) (now : Word32) :
    c.bandInterval now = match c.prev with
      | some (t0, true) => (now - t0).toNat
      | _ => 0 := rfl

theorem inBandOf_eq (g : Segment) (t sp : Nat) : inBandOf g t sp = decide (t ≤ sp + g.band ∧ sp ≤ t + g.band) :=
  (Bool.decide_and ..).symm

/-- When a lagging sample ends its cycle (R55). -/
theorem Context.lagExceeded_iff {sp : Nat} :
    c.lagExceeded r g now t sp = true ↔ g.kind = .ramp ∧ 0 < r.lagLimit ∧ t + g.band < sp ∧
      ∃ t0, c.lagStart = some t0 ∧ r.lagLimit < (now - t0).toNat := by
  unfold Context.lagExceeded lagJudged lagging
  cases hl : c.lagStart with
  | none => simp
  | some t0 =>
    simp only [Bool.and_eq_true, beq_iff_eq, decide_eq_true_eq, and_assoc, Option.some.injEq, exists_eq_left']
    rfl

/-- The lag start after a sample, written out (R55). -/
theorem Context.updateLag_eq (c : Context) (r : Recipe) (g : Segment) (now : Word32) (t sp : Nat) :
    c.updateLag r g now t sp = { c with
      lagStart := if g.kind = .ramp ∧ 0 < r.lagLimit then
        (if t + g.band < sp then some (c.lagStart.getD now) else none) else c.lagStart } := by
  have hj : lagJudged r g = true ↔ g.kind = .ramp ∧ 0 < r.lagLimit := by simp [lagJudged]
  have hl : lagging g t sp = true ↔ t + g.band < sp := by simp [lagging]
  unfold Context.updateLag
  by_cases h1 : g.kind = .ramp ∧ 0 < r.lagLimit
  · rw [if_pos (hj.mpr h1), if_pos h1]
    by_cases h2 : t + g.band < sp
    · rw [if_pos (hl.mpr h2), if_pos h2]
    · rw [if_neg (mt hl.mp h2), if_neg h2]
  · rw [if_neg (mt hj.mp h1), if_neg h1]

/-- When a heating segment completes (R54). -/
theorem Context.completes_iff :
    c.completes g now = true ↔ (g.kind = .ramp ∧ g.duration ≤ c.elapsedSegment now) ∨ (g.kind = .soak ∧ g.duration ≤ c.inBand) ∨
      (g.kind = .flow ∧ (g.duration ≤ c.inBand ∨ (g.energyTarget ≠ 0 ∧ g.energyTarget * 1000 ≤ c.segEnergy))) := by
  unfold Context.completes
  cases g.kind <;> simp

theorem Context.elapsedSegment_of_clock {start : Word32} (hc : c.clock = some start) :
    c.elapsedSegment now = (now - start).toNat := by
  simp only [Context.elapsedSegment, hc]; rfl

/-- The setpoint a sample in HEATING is judged by (R51, R52 step 4). -/
def Context.sampleSetpoint (c : Context) (g : Segment) (now : Word32) (t : Nat) : Nat := (c.atSample g now t).setpoint g now

/-- The context at a sample once it is recorded, ramp lag not yet judged (R52 steps 1 to 5). -/
def Context.recorded (c : Context) (g : Segment) (now : Word32) (t : Nat) : Context :=
  (c.atSample g now t).record g now t (c.sampleSetpoint g now t)

theorem Context.recorded_eq (c : Context) (g : Segment) (now : Word32) (t : Nat) :
    c.recorded g now t = { c with
      clock := some (c.clock.getD now), origin := if c.clock = none ∧ g.kind = .ramp then t else c.origin
      peak := max c.peak t, inBand := c.inBand + c.bandInterval now
      prev := some (now, inBandOf g t (c.sampleSetpoint g now t)) } := by
  rw [Context.recorded, Context.atSample_eq]
  rfl

/-- The context at a sample that ends nothing, before completion is judged (R52 steps 1 to 6). -/
def Context.judged (c : Context) (r : Recipe) (g : Segment) (now : Word32) (t : Nat) : Context :=
  (c.recorded g now t).updateLag r g now t (c.sampleSetpoint g now t)

theorem Context.judged_eq (c : Context) (r : Recipe) (g : Segment) (now : Word32) (t : Nat) :
    c.judged r g now t = { c with
      clock := some (c.clock.getD now), origin := if c.clock = none ∧ g.kind = .ramp then t else c.origin
      peak := max c.peak t, inBand := c.inBand + c.bandInterval now
      prev := some (now, inBandOf g t (c.sampleSetpoint g now t))
      lagStart := if g.kind = .ramp ∧ 0 < r.lagLimit then
        (if t + g.band < c.sampleSetpoint g now t then some (c.lagStart.getD now) else none) else c.lagStart } := by
  rw [Context.judged, Context.updateLag_eq, Context.recorded_eq]

/-- A sample in HEATING that ends nothing is judged for completion (R52 steps 1 to 7). -/
theorem State.heatSample_goesOn (s : State) (h : HeadId) (hcool : t ≤ r.maxTemp)
    (hlag : g.kind = .ramp → 0 < r.lagLimit → t + g.band < c.sampleSetpoint g s.disp.timestamp t →
      ∀ t0, c.lagStart = some t0 → (s.disp.timestamp - t0).toNat ≤ r.lagLimit) :
    s.heatSample h c r g t false =
      s.completeOrRun h (c.judged r g s.disp.timestamp t) r g t (c.sampleSetpoint g s.disp.timestamp t) := by
  have hot : ¬ overtemp r t false = true := by simp [overtemp, hcool]
  have hnot : ¬ (c.recorded g s.disp.timestamp t).lagExceeded r g s.disp.timestamp t
      (c.sampleSetpoint g s.disp.timestamp t) = true := by
    rw [Context.lagExceeded_iff, Context.recorded_eq]
    rintro ⟨hramp, hlimit, hlagging, t0, ht0, hover⟩
    have := hlag hramp hlimit hlagging t0 ht0
    omega
  exact (if_neg hot).trans (if_neg hnot)

/-- Overtemperature at a sample in HEATING (R56). -/
theorem State.heatSample_hot (s : State) (h : HeadId) {high : Bool} (hot : high = true ∨ r.maxTemp < t) :
    s.heatSample h c r g t high = (s.modHead h fun hd =>
      { hd with ctx := some (c.atSample g s.disp.timestamp t) }).endCycle h (some .overtemp) :=
  if_pos (by simpa [overtemp] using hot)

/-- Ramp lag at a sample in HEATING (R55). -/
theorem State.heatSample_lags (s : State) (h : HeadId) (hcool : t ≤ r.maxTemp) (hramp : g.kind = .ramp) (hlimit : 0 < r.lagLimit)
    (hlagging : t + g.band < c.sampleSetpoint g s.disp.timestamp t) {t0 : Word32} (ht0 : c.lagStart = some t0)
    (hover : r.lagLimit < (s.disp.timestamp - t0).toNat) :
    s.heatSample h c r g t false = (s.modHead h fun hd =>
      { hd with ctx := some (c.recorded g s.disp.timestamp t) }).endCycle h (some .underheat) := by
  have hot : ¬ overtemp r t false = true := by simp [overtemp, hcool]
  have hlags : (c.recorded g s.disp.timestamp t).lagExceeded r g s.disp.timestamp t
      (c.sampleSetpoint g s.disp.timestamp t) = true := by
    rw [Context.lagExceeded_iff, Context.recorded_eq]
    exact ⟨hramp, hlimit, hlagging, t0, ht0, hover⟩
  exact (if_neg hot).trans (if_pos hlags)

/-- What a sample in HEATING comes to: overtemperature, ramp lag, or the judgement of completion. -/
theorem Context.sample_cases (c : Context) (r : Recipe) (g : Segment) (now : Word32) (t : Nat) (high : Bool) :
    (high = true ∨ r.maxTemp < t) ∨
    (high = false ∧ t ≤ r.maxTemp ∧ g.kind = .ramp ∧ 0 < r.lagLimit ∧
      t + g.band < c.sampleSetpoint g now t ∧
      ∃ t0, c.lagStart = some t0 ∧ r.lagLimit < (now - t0).toNat) ∨
    (high = false ∧ t ≤ r.maxTemp ∧ (g.kind = .ramp → 0 < r.lagLimit → t + g.band < c.sampleSetpoint g now t →
      ∀ t0, c.lagStart = some t0 → (now - t0).toNat ≤ r.lagLimit)) := by
  by_cases hot : high = true ∨ r.maxTemp < t
  · exact .inl hot
  · obtain ⟨hhigh, hcool⟩ := not_or.mp hot
    rw [Bool.not_eq_true] at hhigh
    rw [not_lt] at hcool
    by_cases hlag : g.kind = .ramp ∧ 0 < r.lagLimit ∧ t + g.band < c.sampleSetpoint g now t ∧
        ∃ t0, c.lagStart = some t0 ∧ r.lagLimit < (now - t0).toNat
    · exact .inr (.inl ⟨hhigh, hcool, hlag⟩)
    · exact .inr (.inr ⟨hhigh, hcool, fun hk hl hlt t0 ht0 => not_lt.mp fun hover => hlag ⟨hk, hl, hlt, t0, ht0, hover⟩⟩)

/-- A sample event of a running head in HEATING (R34, R52). -/
theorem State.sampleEvent_heating (hst : (s.heads.get h).state = .heating) (hr : s.running h = some (c, r, g)) (high : Bool) :
    s.sampleEvent h t high = s.heatSample h c r g t high := by
  simp only [State.sampleEvent, hst, hr]

/-! ### The segment runs on (R52 step 8, R74) -/

/-- A sample that completes nothing runs the loop (R52 step 8). -/
theorem State.completeOrRun_runs (s : State) (h : HeadId) (hnot : ¬ c.completes g s.disp.timestamp = true) (sp : Nat) :
    s.completeOrRun h c r g t sp = (s.modHead h fun hd => { hd with ctx := some c }).runLoop h r g t sp := if_neg hnot

/-- Settles O19. -/
theorem sampleInHeatingRunsTheLoop : Obligations.SampleInHeatingRunsTheLoop := by
  intro h status raw s c r g t hmode hreplay hst hrun hkind hhigh hconv hcool now start origin sp inBand judged lags hlag hramp
    hband henergy lagStart loop entry fe c'
  rw [exec_sample_usable s h status raw t hconv hmode hreplay hhigh]
  have hsp : c.sampleSetpoint g now t = sp := by
    rw [Context.sampleSetpoint, Context.atSample_eq]
    exact Context.setpoint_congr rfl rfl
  have hjudged : c.judged r g now t = { c' with loop := c.loop } := by
    rw [Context.judged_eq, hsp, inBandOf_eq]
    rfl
  let u : State := { s with fronts := s.fronts.set h fe }
  have hnot : ¬ (c.judged r g now t).completes g now = true := by
    rw [Context.completes_iff, Context.elapsedSegment_of_clock (start := start) (by rw [hjudged]), hjudged]
    rintro (⟨hk, hd⟩ | ⟨hk, hd⟩ | ⟨hk, hd | ⟨he, hd⟩⟩)
    · exact absurd hd (Nat.not_le.mpr (hramp hk))
    · exact absurd hd (Nat.not_le.mpr (hband (.inl hk)))
    · exact absurd hd (Nat.not_le.mpr (hband (.inr hk)))
    · exact absurd hd (Nat.not_le.mpr ((henergy hk).resolve_left he))
  rw [State.sampleEvent_heating (s := u) hst hrun, State.heatSample_goesOn u h hcool fun hk hl hlt => hlag ⟨hk, hl⟩ (show t + g.band < sp by rw [← hsp]; exact hlt)]
  show Host.Outcome.next (u.completeOrRun h (c.judged r g now t) r g t (c.sampleSetpoint g now t)) = _
  rw [State.completeOrRun_runs u h hnot, State.advance_eq, hjudged, hsp, SegmentKind.requestClass_eq]

/-! ### The next segment is entered (R54, R57) -/

/-- The summary of a segment whose recipe copy and clock stand (R62). -/
theorem Context.summary_running {start : Word32} (hrecipe : c.recipe = some r) (hg : r.segments[c.segIndex]? = some g)
    (hc : c.clock = some start) :
    c.summary now =
      { kind := g.kind, time := min (now - start).toNat 65535, peak := c.peak, energy := min (c.segEnergy / 100) 65535 } := by
  rw [Context.summary_eq, Context.segment, hrecipe, Option.bind_some, hg, hc]
  rfl

/-- The setpoint of the segment entered, at the sample that enters it (R57): S0 is the former target. -/
def entrySetpoint (old g : Segment) : Nat := if g.kind = .ramp then old.target else g.target

/-- The context that enters a heating segment, written out (R57, R82). -/
theorem Context.enterHeating_eq (c : Context) (i : Nat) (old g : Segment) (now : Word32) (t : Nat) :
    c.enterHeating i old g now t = { c with
      segIndex := i, clock := some now, origin := if g.kind = .ramp then old.target else c.origin
      inBand := 0, prev := some (now, inBandOf g t (entrySetpoint old g)), lagStart := none, peak := t, segEnergy := 0
      loop := c.loop.next g } := by
  have hsp : ∀ d : Context, d.clock = some now → d.origin = (if g.kind = .ramp then old.target else c.origin) →
      d.setpoint g now = entrySetpoint old g := fun d hclock horigin => by
    rw [Context.setpoint_now hclock, horigin, entrySetpoint]
    split <;> rfl
  unfold Context.enterHeating
  simp only
  rw [hsp _ rfl rfl]
  rfl

/-- A sample that completes a heating segment with another behind it (R57). -/
theorem State.completeOrRun_next {g2 : Segment} (s : State) (h : HeadId) (hdone : c.completes g s.disp.timestamp = true)
    (hnext : r.segments[c.segIndex + 1]? = some g2) (hkind : g2.kind ≠ .hold) (sp : Nat) :
    let now := s.disp.timestamp
    let c2 := (c.appendSummary now).enterHeating (c.segIndex + 1) g g2 now t
    s.completeOrRun h c r g t sp =
      (s.modHead h fun hd => { hd with ctx := some c2 }).runLoop h r g2 t (c2.setpoint g2 now) := by
  unfold State.completeOrRun
  simp only [hdone, if_true, hnext, if_neg hkind]
  simp only [State.modHead, PerSix.modify, PerSix.set_set, PerSix.get_set_same]

/-- A sample that completes the last heating segment (R58). -/
theorem State.completeOrRun_ends (s : State) (h : HeadId) (hdone : c.completes g s.disp.timestamp = true)
    (hlast : ∀ g2, r.segments[c.segIndex + 1]? = some g2 → g2.kind = .hold) (sp : Nat) :
    s.completeOrRun h c r g t sp = (s.modHead h fun hd => { hd with ctx := some c }).endHeating h r t := by
  unfold State.completeOrRun
  simp only [hdone, if_true]
  split
  · rfl
  · next g2 hnext => exact if_pos (hlast g2 hnext)

/-- Settles O20. -/
theorem completedSegmentLeadsToTheNext : Obligations.CompletedSegmentLeadsToTheNext := by
  intro h status raw s c r g g2 t start hmode hreplay hst hrun hhigh hconv hcool hclock hnext hkind now sp inBand hlag hdone
    summary bound clamped sp2 loop entry fe c'
  rw [exec_sample_usable s h status raw t hconv hmode hreplay hhigh]
  obtain ⟨-, hrecipe, hseg⟩ := (State.running_iff ..).mp hrun
  have hsp : c.sampleSetpoint g now t = sp := by
    rw [Context.sampleSetpoint, Context.atSample_running hclock]
    exact Context.setpoint_congr rfl rfl
  let d := c.judged r g now t
  have hd : d = c.judged r g now t := rfl
  rw [Context.judged_eq, hclock, if_neg (by simp)] at hd
  have hcompletes : d.completes g now = true := by
    rw [Context.completes_iff, Context.elapsedSegment_of_clock (start := start) (by rw [hd]; rfl), hd]
    exact hdone
  have hsummary : d.summary now = summary := by
    rw [Context.summary_running (r := r) (g := g) (start := start) (by rw [hd]; exact hrecipe) (by rw [hd]; exact hseg)
      (by rw [hd]; rfl), hd]
  let c2 := (d.appendSummary now).enterHeating (d.segIndex + 1) g g2 now t
  have hc2 : c2 = { c' with loop := clamped } := by
    show (d.appendSummary now).enterHeating (d.segIndex + 1) g g2 now t = _
    rw [Context.enterHeating_eq, inBandOf_eq, Context.appendSummary, hsummary, hd]
    rfl
  have hsp2 : c2.setpoint g2 now = sp2 := by
    rw [Context.setpoint_now (by rw [hc2]), hc2]
    show (if g2.kind = .ramp then (if g2.kind = .ramp then g.target else c.origin) else g2.target) =
      if g2.kind = .ramp then g.target else g2.target
    split <;> rfl
  let u : State := { s with fronts := s.fronts.set h fe }
  rw [State.sampleEvent_heating (s := u) hst hrun, State.heatSample_goesOn u h hcool fun hk hl hlt =>
    hlag hk hl (show t + g.band < sp by rw [← hsp]; exact hlt)]
  have hruns := u.completeOrRun_next h (g2 := g2) (t := t) hcompletes (by rw [hd]; exact hnext) hkind
    (c.sampleSetpoint g now t)
  show Host.Outcome.next (u.completeOrRun h d r g t (c.sampleSetpoint g now t)) = _
  rw [hruns]
  show Host.Outcome.next ((u.modHead h fun hd => { hd with ctx := some c2 }).runLoop h r g2 t (c2.setpoint g2 now)) = _
  rw [State.advance_eq, hsp2, hc2, SegmentKind.requestClass_eq]

end Sys2Proof.Machine
end

section
/-! PROOFS. What a sample does outside its cycle: the front end, the other heads, and a replay in place of the sensor input (O15, O16). -/

namespace Sys2Proof.Machine

variable {s t u : State} {h k : HeadId} {c : Context} {r : Recipe} {g : Segment} {v : Nat}

/-! ### One head's sample leaves the others, and its front end but for the replay -/

/-- The other heads are as they were, and of the head's front end at most the replay has ended. -/
structure State.AtHead (s t : State) (h : HeadId) : Prop where
  others : ∀ k, k ≠ h → s.headUntouched t k
  front : ∃ b, t.fronts.get h = { s.fronts.get h with replayActive := b }

theorem State.AtHead.refl (s : State) (h : HeadId) : s.AtHead s h := ⟨fun k _ => .refl s k, _, rfl⟩

theorem State.AtHead.trans (h1 : s.AtHead t h) (h2 : t.AtHead u h) : s.AtHead u h where
  others k hk := (h1.others k hk).trans (h2.others k hk)
  front := by
    obtain ⟨_, e1⟩ := h1.front
    obtain ⟨b, e2⟩ := h2.front
    exact ⟨b, by rw [e2, e1]⟩

theorem State.atHead_modHead (s : State) (h : HeadId) (f : Head → Head) : s.AtHead (s.modHead h f) h :=
  ⟨fun _ hk => ⟨State.modHead_heads_other s f hk, rfl, rfl, rfl, rfl, rfl⟩, _, rfl⟩

theorem State.atHead_drawFree (s : State) (h : HeadId) : s.AtHead s.drawFree h := ⟨fun k _ => .refl s k, _, rfl⟩

theorem State.atHead_cut (s : State) (h : HeadId) : s.AtHead (s.cut h) h :=
  ⟨fun _ hk => ⟨State.cut_heads_other s h hk, rfl, State.cut_drives_other s h hk, PerSix.get_set_other _ _ hk,
    PerSix.get_set_other _ _ hk, rfl⟩, _, rfl⟩

theorem State.atHead_runLoop (s : State) (h : HeadId) (r : Recipe) (g : Segment) (v sp : Nat) :
    s.AtHead (s.runLoop h r g v sp) h := by
  cases hc : (s.heads.get h).ctx with
  | none =>
    have he : s.runLoop h r g v sp = s := by simp only [State.runLoop, hc]
    rw [he]; exact .refl s h
  | some c =>
    rw [State.runLoop_of_ctx hc]
    exact ⟨fun _ hk => ⟨PerSix.get_set_other _ _ hk, rfl, rfl, PerSix.get_set_other _ _ hk, rfl, rfl⟩, _, rfl⟩

theorem State.atHead_finishCycle (s : State) (h : HeadId) (reason : Option Reason) : s.AtHead (s.finishCycle h reason) h := by
  cases hc : (s.heads.get h).ctx with
  | none => rw [State.finishCycle_of_none s h reason hc]; exact .refl s h
  | some c =>
    rw [State.finishCycle_eq_closeCycle hc]
    refine ⟨fun k hk => ⟨?_, ?_, ?_, ?_, ?_, ?_⟩, false, ?_⟩
    · rw [State.closeCycle_heads, PerSix.get_set_other _ _ hk]
    · rw [State.closeCycle_fronts, PerSix.get_modify_other _ _ hk]
    · rw [State.closeCycle_drives]
    · rw [State.closeCycle_disp]
    · rw [State.closeCycle_disp]
    · rw [State.closeCycle_trace, TraceUnit.append_reservation_other h _ _ _ hk]
    · rw [State.closeCycle_fronts, PerSix.get_modify_same]

theorem State.atHead_endCycle (s : State) (h : HeadId) (reason : Option Reason) : s.AtHead (s.endCycle h reason) h :=
  ⟨fun _ hk => s.endCycle_untouched h reason hk, _, s.endCycle_fronts h h reason⟩

theorem State.atHead_endHeating (s : State) (h : HeadId) (r : Recipe) (v : Nat) : s.AtHead (s.endHeating h r v) h := by
  unfold State.endHeating
  have hcut := (s.atHead_cut h).trans ((s.cut h).atHead_modHead h fun hd =>
    { hd with ctx := hd.ctx.map fun c => (c.appendSummary s.disp.timestamp).judgeWindow r })
  simp only
  split
  · exact hcut
  · split
    · exact (hcut.trans (State.atHead_drawFree _ h)).trans (State.atHead_modHead _ h _)
    · exact hcut.trans (State.atHead_finishCycle _ h _)

theorem State.atHead_completeOrRun (s : State) (h : HeadId) (c : Context) (r : Recipe) (g : Segment) (v sp : Nat) :
    s.AtHead (s.completeOrRun h c r g v sp) h := by
  have hset := s.atHead_modHead h fun hd => { hd with ctx := some c }
  unfold State.completeOrRun
  simp only
  split
  · split
    · exact hset.trans (State.atHead_endHeating _ h r v)
    · split
      · exact hset.trans (State.atHead_endHeating _ h r v)
      · exact (hset.trans (State.atHead_modHead _ h _)).trans (State.atHead_runLoop _ h r _ v _)
  · exact hset.trans (State.atHead_runLoop _ h r g v sp)

/-- A sample event reaches its own head, and of its front end the replay alone. -/
theorem State.atHead_sampleEvent (s : State) (h : HeadId) (v : Nat) (high : Bool) : s.AtHead (s.sampleEvent h v high) h := by
  unfold State.sampleEvent
  split
  · unfold State.heatSample
    simp only
    split
    · exact (s.atHead_modHead h _).trans (State.atHead_endCycle _ h _)
    · split
      · exact (s.atHead_modHead h _).trans (State.atHead_endCycle _ h _)
      · exact s.atHead_completeOrRun h _ _ _ v _
  · unfold State.holdSample
    have hdraw := fun f => (s.atHead_drawFree h).trans (s.drawFree.atHead_modHead h f)
    simp only
    split
    · exact (s.atHead_modHead h _).trans (State.atHead_endCycle _ h _)
    · split
      · exact (hdraw _).trans (State.atHead_endCycle _ h _)
      · exact hdraw _
  · exact .refl s h

theorem State.atHead_holdWeak (s : State) (h : HeadId) : s.AtHead (s.holdWeak h) h := by
  unfold State.holdWeak
  split
  · exact s.atHead_modHead h _
  · exact s.atHead_modHead h _
  · exact .refl s h

/-! ### Frames at the sensor input (R28, R30 to R33) -/

/-- What a front end makes of a status and a raw count, written out (R30 to R35). -/
theorem FrontEnd.sampled_eq (fe : FrontEnd) (status : SampleStatus) (raw : Word16) (timeout : Nat) :
    fe.sampled status raw timeout =
      let tableValue : Int := match status with
        | .ok => fe.calibration.point (raw.toNat / 4096) + (fe.calibration.point (raw.toNat / 4096 + 1)
            - fe.calibration.point (raw.toNat / 4096)) * (raw.toNat % 4096 : Nat) / 4096
        | .low => fe.calibration.point 0
        | .high => fe.calibration.point 16
        | .weak => 0
      if status = .weak then { fe with lastStatus := some .weak }
      else { fe with
        lastStatus := some status, sensor := .fresh
        temperature := some (max 0 (min 12000 (tableValue + fe.calibration.offset))).toNat
        timer := some timeout } := by
  cases status with
  | ok =>
    rw [← Calibration.interpolate_eq]
    rfl
  | _ => rfl

/-- A sample frame that is taken as a sample (R28). -/
theorem exec_sample_taken (hmode : s.sup.mode ≠ .starting) (hreplay : (s.fronts.get h).replayActive = false)
    (status : SampleStatus) (raw : Word16) :
    exec (.sample h (.good status raw)) s = .next ((s.modFront h fun fe => { fe with rx := none }).takeSample h status raw) := by
  have hoff : ((s.modFront h fun fe => { fe with rx := none }).fronts.get h).replayActive = false := by
    rw [State.modFront_fronts_same]; exact hreplay
  simp only [exec, execSample, State.sampleFrame, State.modFront_sup, if_neg hmode, hoff]
  rfl

/-- A frame that is no sample (R28). -/
theorem exec_sample_ignored {frame : SampleFrame}
    (hn : frame = .bad ∨ s.sup.mode = .starting ∨ (s.fronts.get h).replayActive = true) :
    exec (.sample h frame) s = .next (s.modFront h fun fe => { fe with rx := none }) := by
  simp only [exec, execSample]
  refine congrArg Host.Outcome.next ?_
  cases frame with
  | bad => rfl
  | good status raw =>
    rcases hn with hn | hn | hn
    · cases hn
    · exact if_pos hn
    · have hon : ((s.modFront h fun fe => { fe with rx := none }).fronts.get h).replayActive = true := by
        rw [State.modFront_fronts_same]; exact hn
      simp only [State.sampleFrame, hon, if_true, ite_self]

theorem State.takeSample_weak (s : State) (h : HeadId) (raw : Word16) :
    s.takeSample h .weak raw = (s.modFront h fun fe => { fe with lastStatus := some .weak }).holdWeak h := rfl

/-- A WEAK sample of a cycle in HEATING or HOLD sets SENSOR_HELD (R33). -/
theorem State.holdWeak_cycle (hst : (s.heads.get h).state = .heating ∨ (s.heads.get h).state = .hold)
    (hc : (s.heads.get h).ctx = some c) :
    s.holdWeak h = { s with
      heads := s.heads.set h { s.heads.get h with ctx := some { c with flags := { c.flags with sensorHeld := true } } } } := by
  unfold State.holdWeak
  rcases hst with hst | hst <;> rw [hst] <;>
    simp only [State.modFlags, State.modCtx, State.modHead, PerSix.modify, hc, Option.map_some, hst]

/-- Settles O15. -/
theorem sampleFramesOutsideHeating : Obligations.SampleFramesOutsideHeating := by
  refine ⟨fun h status raw s hmode hreplay hheat hhold => ?_, fun h frame s => ⟨exec_sample_ignored, ?_⟩⟩
  · intro fe tableValue fe'
    rw [exec_sample_taken hmode hreplay]
    refine congrArg Host.Outcome.next ((State.takeSample_outside (s := s.modFront h fun fe => { fe with rx := none })
      ⟨hheat, hhold⟩ status raw).trans ?_)
    have hfront : FrontEnd.sampled { fe with rx := none } status raw (s.store.inForce.get h).sensorTimeout = fe' :=
      FrontEnd.sampled_eq ..
    simp only [State.modFront, PerSix.modify, PerSix.set_set, PerSix.get_set_same]
    exact congrArg (fun x => { s with fronts := s.fronts.set h x }) hfront
  · rintro raw c rfl hmode hreplay hst hc
    rw [exec_sample_taken hmode hreplay]
    refine congrArg Host.Outcome.next ?_
    rw [State.takeSample_weak, State.holdWeak_cycle (s := (s.modFront h fun fe => { fe with rx := none }).modFront h fun fe =>
      { fe with lastStatus := some .weak }) hst hc]
    simp only [State.modFront, PerSix.modify, PerSix.set_set, PerSix.get_set_same]

/-! ### The end of heating (R58) -/

/-- The context of the last heating segment once it is complete (R58 steps 1 to 3). -/
def Context.heated (c : Context) (amount : Nat) (now : Word32) (r : Recipe) : Context :=
  ((c.accrue amount).appendSummary now).judgeWindow r

/-- The cut and the judgement of the energy window, in one update of the head. -/
theorem State.cut_heated (hc : (s.heads.get h).ctx = some c) (r : Recipe) :
    ((s.cut h).modCtx h fun c => (c.appendSummary s.disp.timestamp).judgeWindow r) =
      (s.cut h).modHead h fun hd => { hd with ctx := some (c.heated (s.cutEnergy h) s.disp.timestamp r) } := by
  simp only [State.modCtx, State.modHead, PerSix.modify, State.cut_heads_same, hc, Option.map_some, Context.heated]

/-- The last heating segment completes with a HOLD behind it (R58 step 4). -/
theorem State.endHeating_hold {g2 : Segment} (hc : (s.heads.get h).ctx = some c) (hnext : r.segments[c.segIndex + 1]? = some g2) :
    s.endHeating h r v = (s.cut h).drawFree.modHead h fun hd => { hd with
      state := .hold
      ctx := some ((c.heated (s.cutEnergy h) s.disp.timestamp r).enterHold (c.segIndex + 1) s.disp.timestamp v s.holdInBand) } := by
  unfold State.endHeating
  dsimp only
  rw [State.cut_heated hc]
  simp only [State.modHead_heads_same, show (c.heated (s.cutEnergy h) s.disp.timestamp r).segIndex = c.segIndex from rfl, hnext]
  simp only [State.modHead, State.drawFree, PerSix.modify, PerSix.set_set, PerSix.get_set_same]

/-- The last heating segment completes with no HOLD behind it (R58). -/
theorem State.endHeating_last (hc : (s.heads.get h).ctx = some c) (hnext : r.segments[c.segIndex + 1]? = none) :
    s.endHeating h r v = ((s.cut h).modHead h fun hd =>
      { hd with ctx := some (c.heated (s.cutEnergy h) s.disp.timestamp r) }).finishCycle h none := by
  unfold State.endHeating
  dsimp only
  rw [State.cut_heated hc]
  simp only [State.modHead_heads_same, show (c.heated (s.cutEnergy h) s.disp.timestamp r).segIndex = c.segIndex from rfl, hnext]

/-! ### A sample in HOLD (R59) -/

/-- The context at a sample in HOLD that is not over temperature, its in-band status free (R59, log entry 19). -/
def Context.waiting (c : Context) (now : Word32) (v : Nat) (b : Bool) : Context :=
  { c with peak := max c.peak v, inBand := c.inBand + c.bandInterval now, prev := some (now, b) }

theorem State.holdSample_hot (s : State) (h : HeadId) {high : Bool} (hot : high = true ∨ r.maxTemp < v) :
    s.holdSample h c r g v high = (s.modHead h fun hd =>
      { hd with ctx := some { c with peak := max c.peak v } }).endCycle h (some .overtemp) :=
  if_pos (by simpa [overtemp] using hot)

theorem State.holdSample_released (s : State) (h : HeadId) (hcool : v ≤ r.maxTemp)
    (hrel : g.duration ≤ c.elapsedSegment s.disp.timestamp ∧ v ≤ g.target) :
    s.holdSample h c r g v false = (s.drawFree.modHead h fun hd =>
      { hd with ctx := some (c.waiting s.disp.timestamp v s.holdInBand) }).endCycle h none :=
  (if_neg (by simp [overtemp, hcool])).trans (if_pos hrel)

theorem State.holdSample_waits (s : State) (h : HeadId) (hcool : v ≤ r.maxTemp)
    (hrel : ¬ (g.duration ≤ c.elapsedSegment s.disp.timestamp ∧ v ≤ g.target)) :
    s.holdSample h c r g v false = s.drawFree.modHead h fun hd =>
      { hd with ctx := some (c.waiting s.disp.timestamp v s.holdInBand) } :=
  (if_neg (by simp [overtemp, hcool])).trans (if_neg hrel)

theorem State.sampleEvent_hold (hst : (s.heads.get h).state = .hold) (hr : s.running h = some (c, r, g)) (high : Bool) :
    s.sampleEvent h v high = s.holdSample h c r g v high := by
  simp only [State.sampleEvent, hst, hr]

/-- Without a recipe copy and its segment no cycle acts on a sample. -/
theorem State.sampleEvent_stopped (hr : s.running h = none) (v : Nat) (high : Bool) : s.sampleEvent h v high = s := by
  unfold State.sampleEvent
  rw [hr]
  cases (s.heads.get h).state <;> rfl

/-! ### A replay in place of the sensor input (R39) -/

/-- The receiver and the replay of a head's front end set, all else as it was. -/
def State.tuned (s : State) (h : HeadId) (rx : Option (List Character)) (b : Bool) : State :=
  s.modFront h fun fe => { fe with rx := rx, replayActive := b }

theorem State.tuned_tuned (s : State) (h : HeadId) (rx rx' : Option (List Character)) (b b' : Bool) :
    (s.tuned h rx' b').tuned h rx b = s.tuned h rx b := by
  simp only [State.tuned, State.modFront, PerSix.modify, PerSix.set_set, PerSix.get_set_same]

@[simp] theorem State.tuned_disp (s : State) (h : HeadId) (rx : Option (List Character)) (b : Bool) :
    (s.tuned h rx b).disp = s.disp := rfl

section tuned
variable (rx : Option (List Character)) (b : Bool)

theorem State.watchDrain_tuned (s : State) (h : HeadId) : (s.tuned h rx b).watchDrain = s.watchDrain.tuned h rx b := by
  have e : (s.tuned h rx b).watchDrain =
      if s.sup.mode = .draining ∧ s.anyActive = false then (s.tuned h rx b).modSup fun u => { u with mode := .standby }
      else s.tuned h rx b := rfl
  rw [e]
  unfold State.watchDrain
  split <;> rfl

theorem State.closeCycle_tuned (s : State) (h : HeadId) (reason : Option Reason) (c : Context) :
    (s.tuned h rx b).closeCycle h reason c = (s.closeCycle h reason c).tuned h rx false := by
  unfold State.closeCycle
  rw [← State.watchDrain_tuned]
  refine congrArg State.watchDrain ?_
  simp only [State.tuned, State.modFront, PerSix.modify, PerSix.set_set, PerSix.get_set_same]

theorem State.closeCycle_inactive (s : State) (h : HeadId) (reason : Option Reason) (c : Context) :
    (s.closeCycle h reason c).isActive h = false := by
  unfold State.isActive
  rw [State.closeCycle_heads, PerSix.get_set_same]
  exact endState_inactive _

/-- A cycle finished ends the replay (R40, R62). -/
theorem State.finishCycle_tuned (reason : Option Reason) (hc : (s.heads.get h).ctx = some c) :
    (s.tuned h rx b).finishCycle h reason =
      (s.finishCycle h reason).tuned h rx (b && (s.finishCycle h reason).isActive h) := by
  rw [State.finishCycle_eq_closeCycle hc, State.finishCycle_eq_closeCycle (s := s.tuned h rx b) hc, State.closeCycle_inactive,
    Bool.and_false]
  exact State.closeCycle_tuned rx b s h reason _

theorem State.endCycle_tuned (reason : Option Reason) (ha : s.isActive h = true) (hc : (s.heads.get h).ctx = some c) :
    (s.tuned h rx b).endCycle h reason = (s.endCycle h reason).tuned h rx (b && (s.endCycle h reason).isActive h) := by
  have hleave : (s.tuned h rx b).leaveCycle h = (s.leaveCycle h).tuned h rx b := by
    unfold State.leaveCycle
    show (match (s.heads.get h).state with
      | .lookup => (s.tuned h rx b).dropLookup h
      | .heating => (s.tuned h rx b).cut h
      | _ => s.tuned h rx b) = _
    cases (s.heads.get h).state <;> rfl
  rw [State.endCycle_eq s h reason ha, State.endCycle_eq (s.tuned h rx b) h reason ha, hleave]
  exact State.finishCycle_tuned rx b reason (congrArg Head.ctx (State.leaveCycle_head hc))

/-- A run of the loop leaves its head active, and so its replay (R39). -/
theorem State.runLoop_tuned (ha : s.isActive h = true) (hc : (s.heads.get h).ctx = some c) (r : Recipe) (g : Segment)
    (v sp : Nat) :
    (s.tuned h rx b).runLoop h r g v sp = (s.runLoop h r g v sp).tuned h rx (b && (s.runLoop h r g v sp).isActive h) := by
  have hactive : (s.runLoop h r g v sp).isActive h = true := by
    rw [State.runLoop_of_ctx hc]
    unfold State.isActive
    rw [PerSix.get_set_same]
    exact ha
  rw [hactive, Bool.and_true, State.runLoop_of_ctx hc, State.runLoop_of_ctx (s := s.tuned h rx b) hc]
  rfl

/-- The end of heating (R58): HOLD goes on with the replay, the end of the cycle ends it. -/
theorem State.endHeating_tuned (hc : (s.heads.get h).ctx = some c) (r : Recipe) (v : Nat) :
    (s.tuned h rx b).endHeating h r v = (s.endHeating h r v).tuned h rx (b && (s.endHeating h r v).isActive h) := by
  cases hnext : r.segments[c.segIndex + 1]? with
  | some g2 =>
    have hactive : (s.endHeating h r v).isActive h = true := by
      rw [State.endHeating_hold hc hnext]
      unfold State.isActive
      rw [State.modHead_heads_same]
      rfl
    rw [hactive, Bool.and_true, State.endHeating_hold hc hnext, State.endHeating_hold (s := s.tuned h rx b) hc hnext]
    rfl
  | none =>
    rw [State.endHeating_last hc hnext, State.endHeating_last (s := s.tuned h rx b) hc hnext]
    exact State.finishCycle_tuned (s := (s.cut h).modHead h _) rx b none (congrArg Head.ctx (State.modHead_heads_same ..))

theorem State.setCtx_ctx (s : State) (h : HeadId) (c : Context) :
    ((s.modHead h fun hd => { hd with ctx := some c }).heads.get h).ctx = some c := congrArg Head.ctx (s.modHead_heads_same ..)

theorem State.setCtx_isActive (s : State) (h : HeadId) (c : Context) :
    (s.modHead h fun hd => { hd with ctx := some c }).isActive h = s.isActive h := by
  unfold State.isActive; rw [State.modHead_heads_same]

theorem State.completeOrRun_tuned (ha : s.isActive h = true) (c : Context) (r : Recipe) (g : Segment) (v sp : Nat) :
    (s.tuned h rx b).completeOrRun h c r g v sp =
      (s.completeOrRun h c r g v sp).tuned h rx (b && (s.completeOrRun h c r g v sp).isActive h) := by
  by_cases hdone : c.completes g s.disp.timestamp = true
  · by_cases hlast : ∀ g2, r.segments[c.segIndex + 1]? = some g2 → g2.kind = .hold
    · rw [State.completeOrRun_ends s h hdone hlast, State.completeOrRun_ends (s.tuned h rx b) h hdone hlast]
      exact State.endHeating_tuned rx b (s.setCtx_ctx h c) r v
    · push Not at hlast
      obtain ⟨g2, hnext, hkind⟩ := hlast
      rw [State.completeOrRun_next s h hdone hnext hkind, State.completeOrRun_next (s.tuned h rx b) h hdone hnext hkind]
      exact State.runLoop_tuned rx b ((s.setCtx_isActive ..).trans ha) (s.setCtx_ctx ..) r g2 v _
  · rw [State.completeOrRun_runs s h hdone, State.completeOrRun_runs (s.tuned h rx b) h hdone]
    exact State.runLoop_tuned rx b ((s.setCtx_isActive ..).trans ha) (s.setCtx_ctx h c) r g v sp

theorem State.heatSample_tuned (ha : s.isActive h = true) (c : Context) (r : Recipe) (g : Segment) (v : Nat) (high : Bool) :
    (s.tuned h rx b).heatSample h c r g v high =
      (s.heatSample h c r g v high).tuned h rx (b && (s.heatSample h c r g v high).isActive h) := by
  have ends : ∀ (c' : Context) (reason : Option Reason),
      ((s.tuned h rx b).modHead h fun hd => { hd with ctx := some c' }).endCycle h reason =
        ((s.modHead h fun hd => { hd with ctx := some c' }).endCycle h reason).tuned h rx
          (b && ((s.modHead h fun hd => { hd with ctx := some c' }).endCycle h reason).isActive h) := fun c' reason =>
    State.endCycle_tuned rx b reason ((s.setCtx_isActive ..).trans ha) (s.setCtx_ctx h c')
  rcases c.sample_cases r g s.disp.timestamp v high with hot | ⟨rfl, hcool, hk, hl, hlt, t0, ht0, hover⟩ | ⟨rfl, hcool, hlag⟩
  · rw [State.heatSample_hot s h hot, State.heatSample_hot (s.tuned h rx b) h hot]
    exact ends _ _
  · rw [State.heatSample_lags s h hcool hk hl hlt ht0 hover, State.heatSample_lags (s.tuned h rx b) h hcool hk hl hlt ht0 hover]
    exact ends _ _
  · rw [State.heatSample_goesOn s h hcool hlag, State.heatSample_goesOn (s.tuned h rx b) h hcool hlag]
    exact State.completeOrRun_tuned rx b ha ..

theorem State.holdSample_tuned (ha : s.isActive h = true) (c : Context) (r : Recipe) (g : Segment) (v : Nat) (high : Bool) :
    (s.tuned h rx b).holdSample h c r g v high =
      (s.holdSample h c r g v high).tuned h rx (b && (s.holdSample h c r g v high).isActive h) := by
  by_cases hot : high = true ∨ r.maxTemp < v
  · rw [State.holdSample_hot s h hot, State.holdSample_hot (s.tuned h rx b) h hot]
    exact State.endCycle_tuned rx b _ ((s.setCtx_isActive ..).trans ha) (s.setCtx_ctx ..)
  · obtain ⟨hhigh, hcool⟩ := not_or.mp hot
    rw [Bool.not_eq_true] at hhigh
    subst hhigh
    have hctx := s.drawFree.setCtx_ctx h (c.waiting s.disp.timestamp v s.holdInBand)
    have hactive := (s.drawFree.setCtx_isActive h (c.waiting s.disp.timestamp v s.holdInBand)).trans ha
    by_cases hrel : g.duration ≤ c.elapsedSegment s.disp.timestamp ∧ v ≤ g.target
    · rw [State.holdSample_released s h (not_lt.mp hcool) hrel,
        State.holdSample_released (s.tuned h rx b) h (not_lt.mp hcool) hrel]
      exact State.endCycle_tuned rx b none hactive hctx
    · rw [State.holdSample_waits s h (not_lt.mp hcool) hrel, State.holdSample_waits (s.tuned h rx b) h (not_lt.mp hcool) hrel,
        hactive, Bool.and_true]
      rfl

/-- A sample event where the samples come from a replay, which goes on while the cycle does (R34, R39, R40). -/
theorem State.sampleEvent_tuned (s : State) (h : HeadId) (v : Nat) (high : Bool) :
    (s.tuned h rx b).sampleEvent h v high = (s.sampleEvent h v high).tuned h rx
      (b && decide (s.isActive h = true → (s.sampleEvent h v high).isActive h = true)) := by
  have acts : ∀ {t : State}, s.isActive h = true → s.sampleEvent h v high = t →
      (s.tuned h rx b).sampleEvent h v high = t.tuned h rx (b && t.isActive h) →
      (s.tuned h rx b).sampleEvent h v high = (s.sampleEvent h v high).tuned h rx
        (b && decide (s.isActive h = true → (s.sampleEvent h v high).isActive h = true)) := fun ha e htuned => by
    rw [e, htuned, ha]
    simp
  have idle : s.sampleEvent h v high = s → (s.tuned h rx b).sampleEvent h v high = s.tuned h rx b →
      (s.tuned h rx b).sampleEvent h v high = (s.sampleEvent h v high).tuned h rx
        (b && decide (s.isActive h = true → (s.sampleEvent h v high).isActive h = true)) := fun e htuned => by
    rw [e, htuned]
    simp
  cases hrun : s.running h with
  | none => exact idle (State.sampleEvent_stopped hrun ..) (State.sampleEvent_stopped (s := s.tuned h rx b) hrun ..)
  | some x =>
    obtain ⟨c, r, g⟩ := x
    by_cases hheat : (s.heads.get h).state = .heating
    · have ha := (s.isActive_iff h).mpr (.inr (.inl hheat))
      refine acts ha (State.sampleEvent_heating hheat hrun high) ?_
      rw [State.sampleEvent_heating (s := s.tuned h rx b) hheat hrun high]
      exact State.heatSample_tuned rx b ha c r g v high
    · by_cases hhold : (s.heads.get h).state = .hold
      · have ha := (s.isActive_iff h).mpr (.inr (.inr hhold))
        refine acts ha (State.sampleEvent_hold hhold hrun high) ?_
        rw [State.sampleEvent_hold (s := s.tuned h rx b) hhold hrun high]
        exact State.holdSample_tuned rx b ha c r g v high
      · exact idle (State.sampleEvent_outside ⟨hheat, hhold⟩ v high)
          (State.sampleEvent_outside (s := s.tuned h rx b) ⟨hheat, hhold⟩ v high)

theorem State.holdWeak_tuned (s : State) (h : HeadId) :
    (s.tuned h rx b).holdWeak h = (s.holdWeak h).tuned h rx b ∧ (s.holdWeak h).isActive h = s.isActive h := by
  by_cases hst : (s.heads.get h).state = .heating ∨ (s.heads.get h).state = .hold
  · have flagged : ∀ u : State, u.heads = s.heads → u.holdWeak h = u.modFlags h fun f => { f with sensorHeld := true } :=
      fun u hu => by
        unfold State.holdWeak
        rw [hu]
        rcases hst with hst | hst <;> rw [hst]
    rw [flagged s rfl, flagged (s.tuned h rx b) rfl]
    refine ⟨rfl, ?_⟩
    unfold State.isActive State.modFlags
    rw [State.modCtx_heads_same]
  · obtain ⟨hheat, hhold⟩ := not_or.mp hst
    rw [State.holdWeak_outside (s := s) ⟨hheat, hhold⟩, State.holdWeak_outside (s := s.tuned h rx b) ⟨hheat, hhold⟩]
    exact ⟨rfl, rfl⟩

/-- A sample taken from a replay does what one from the sensor input does, and the replay goes on while the cycle does (R39, R40). -/
theorem State.takeSample_tuned (s : State) (h : HeadId) (status : SampleStatus) (raw : Word16) :
    (s.tuned h rx b).takeSample h status raw = (s.takeSample h status raw).tuned h rx
      (b && decide (s.isActive h = true → (s.takeSample h status raw).isActive h = true)) := by
  have commutes : ∀ f : FrontEnd → FrontEnd,
      (∀ fe : FrontEnd, f { fe with rx := rx, replayActive := b } = { f fe with rx := rx, replayActive := b }) →
      (s.tuned h rx b).modFront h f = (s.modFront h f).tuned h rx b := fun f hf => by
    simp only [State.tuned, State.modFront, PerSix.modify, PerSix.set_set, PerSix.get_set_same, hf]
  cases hc : (s.fronts.get h).calibration.convert status raw with
  | none =>
    have weak : ∀ u : State, (u.fronts.get h).calibration = (s.fronts.get h).calibration →
        u.takeSample h status raw = (u.modFront h fun fe => { fe with lastStatus := some status }).holdWeak h := fun u hu => by
      unfold State.takeSample
      rw [hu, hc]
    rw [weak s rfl, weak (s.tuned h rx b) (by simp [State.tuned]), commutes _ fun _ => rfl,
      (State.holdWeak_tuned rx b _ h).1, (State.holdWeak_tuned rx b _ h).2]
    simp [State.isActive]
  | some v =>
    have usable : ∀ u : State, (u.fronts.get h).calibration = (s.fronts.get h).calibration → u.store = s.store →
        u.takeSample h status raw = (u.modFront h fun fe =>
          { fe with lastStatus := some status }.usable v (s.store.inForce.get h).sensorTimeout).sampleEvent h v (status == .high) :=
      fun u hu hstore => by
        unfold State.takeSample
        rw [hu, hc]
        simp only [State.modFront, PerSix.modify, PerSix.set_set, PerSix.get_set_same, State.fields, hstore]
    rw [usable s rfl rfl, usable (s.tuned h rx b) (by simp [State.tuned]) rfl, commutes _ fun _ => rfl,
      State.sampleEvent_tuned]
    rfl

end tuned

/-! ### A replay step (R39) -/

theorem FrontEnd.sampled_some {fe : FrontEnd} {status : SampleStatus} {raw : Word16}
    (hc : fe.calibration.convert status raw = some v) (timeout : Nat) :
    fe.sampled status raw timeout =
      { fe with lastStatus := some status, temperature := some v, sensor := .fresh, timer := some timeout } := by
  simp only [FrontEnd.sampled, hc]
  rfl

theorem FrontEnd.sampled_weak (fe : FrontEnd) (raw : Word16) (timeout : Nat) :
    fe.sampled .weak raw timeout = { fe with lastStatus := some .weak } := rfl

/-- A sample taken reaches its head, and leaves its front end as the status and the raw count make it, but for a replay that ends. -/
theorem State.atHead_takeSample (s : State) (h : HeadId) (status : SampleStatus) (raw : Word16) :
    (s.modFront h fun fe => fe.sampled status raw (s.store.inForce.get h).sensorTimeout).AtHead (s.takeSample h status raw) h := by
  unfold State.takeSample
  cases hc : (s.fronts.get h).calibration.convert status raw with
  | none =>
    have he : (s.modFront h fun fe => fe.sampled status raw (s.store.inForce.get h).sensorTimeout) =
        s.modFront h fun fe => { fe with lastStatus := some status } := by
      simp only [State.modFront, PerSix.modify, FrontEnd.sampled, hc]
    rw [he]
    exact State.atHead_holdWeak _ h
  | some v =>
    have he : (s.modFront h fun fe => fe.sampled status raw (s.store.inForce.get h).sensorTimeout) =
        (s.modFront h fun fe => { fe with lastStatus := some status }).modFront h fun fe =>
          fe.usable v (s.store.inForce.get h).sensorTimeout := by
      simp only [State.modFront, PerSix.modify, FrontEnd.sampled, hc, PerSix.set_set, PerSix.get_set_same]
    rw [he]
    exact State.atHead_sampleEvent _ h v _

/-- The replay's position and next step as a step leaves them (R39). -/
def State.replayAdvanced (s : State) (h : HeadId) : State :=
  s.modFront h fun fe => { fe with replayPos := min (fe.replayPos + 1) 255, replayNext := fe.replayNext + 2 }

theorem State.stepReplay_eq (s : State) (h : HeadId) :
    let e := s.sup.replayTable.getD (min ((s.fronts.get h).replayPos + 1) 255) { raw := 0, status := .low }
    s.stepReplay h = (s.replayAdvanced h).takeSample h e.status e.raw := by
  have hpos : ((s.replayAdvanced h).fronts.get h).replayPos = min ((s.fronts.get h).replayPos + 1) 255 := by
    rw [State.replayAdvanced, State.modFront_fronts_same]
  unfold State.stepReplay State.takeReplay
  show (s.replayAdvanced h).takeSample h
    ((s.sup.replayTable.getD ((s.replayAdvanced h).fronts.get h).replayPos { raw := 0, status := .low }).status)
    ((s.sup.replayTable.getD ((s.replayAdvanced h).fronts.get h).replayPos { raw := 0, status := .low }).raw) = _
  rw [hpos]

/-- Settles O16. -/
theorem replayStepTakesTheNextEntry : Obligations.ReplayStepTakesTheNextEntry := by
  intro h s hactive hdue pos e
  have hstep : exec (.replayStep h) s = .next ((s.replayAdvanced h).takeSample h e.status e.raw) := by
    rw [← State.stepReplay_eq]
    exact if_pos ⟨hactive, hdue⟩
  let s1 := s.replayAdvanced h
  let fe1 : FrontEnd := { s.fronts.get h with replayPos := pos, replayNext := (s.fronts.get h).replayNext + 2 }
  have hs1 : s1.fronts.get h = fe1 := State.modFront_fronts_same ..
  obtain ⟨others, b, front⟩ := s1.atHead_takeSample h e.status e.raw
  rw [State.modFront_fronts_same, hs1] at front
  refine ⟨_, hstep, ?_, ?_, ?_, fun v hv => ?_, fun hweak => ?_, fun k hk => ?_, fun hmode => ?_, fun hst => ?_⟩
  · rw [front]; unfold FrontEnd.sampled; split <;> rfl
  · rw [front]; unfold FrontEnd.sampled; split <;> rfl
  · rw [front]; unfold FrontEnd.sampled; split <;> rfl
  · rw [front, FrontEnd.sampled_some (fe := fe1) hv]
    exact ⟨rfl, rfl, rfl⟩
  · rw [front, hweak, FrontEnd.sampled_weak]
    exact ⟨rfl, rfl, rfl⟩
  · refine State.headUntouched.trans ?_ (others k hk)
    exact ⟨rfl, ((State.modFront_fronts_other _ _ hk).trans (State.modFront_fronts_other _ _ hk)), rfl, rfl, rfl, rfl⟩
  · intro fe live
    let live1 := live.modFront h fun fe => { fe with rx := none }
    refine ⟨live1.takeSample h e.status e.raw, exec_sample_taken (s := live) hmode
      (congrArg FrontEnd.replayActive (PerSix.get_set_same ..)) _ _, ?_⟩
    have hs1 : s1 = live1.tuned h fe.rx true := by
      rw [← hactive]
      simp only [s1, State.replayAdvanced, live1, live, State.tuned, State.modFront, PerSix.modify, PerSix.set_set,
        PerSix.get_set_same]
      rfl
    show s1.takeSample h e.status e.raw = _
    rw [hs1, State.takeSample_tuned, Bool.true_and]
    rfl
  · have houtside : s1.takeSample h e.status e.raw =
        s1.modFront h fun fe => fe.sampled e.status e.raw (s1.fields h).sensorTimeout :=
      State.takeSample_outside (s := s1)
        ⟨fun hn => absurd (hst.symm.trans hn) (by decide), fun hn => absurd (hst.symm.trans hn) (by decide)⟩ _ _
    show (s1.takeSample h e.status e.raw).heads = _ ∧ _
    rw [houtside]
    refine ⟨rfl, rfl, rfl, rfl, rfl, rfl, rfl, rfl, ?_⟩
    rw [State.modFront_fronts_same, hs1]
    unfold FrontEnd.sampled
    split <;> exact hactive

end Sys2Proof.Machine
end

section
/-! PROOFS. A usable sample that ends heating or its cycle, HOLD, and the two timers (O21 to O24). -/

namespace Sys2Proof.Machine

variable {s u : State} {h k : HeadId} {c : Context} {r : Recipe} {g : Segment} {v : Nat}

/-! ### The end of heating (R58) -/

theorem CycleFlags.warns_iff (f : CycleFlags) :
    f.warns = true ↔ f.indexInHold = true ∨ f.hotRelease = true ∨ f.energyLow = true ∨ f.energyHigh = true := by
  simp [CycleFlags.warns, or_assoc]

theorem CycleFlags.judgeEnergy_energyLow (f : CycleFlags) (r : Recipe) (total : Nat) :
    (f.judgeEnergy r total).energyLow = true ↔ f.energyLow = true ∨ (r.energyMin ≠ 0 ∧ total / 10 < r.energyMin * 100) := by
  simp [CycleFlags.judgeEnergy]

theorem CycleFlags.judgeEnergy_energyHigh (f : CycleFlags) (r : Recipe) (total : Nat) :
    (f.judgeEnergy r total).energyHigh = true ↔ f.energyHigh = true ∨ (r.energyMax ≠ 0 ∧ r.energyMax * 100 < total / 10) := by
  simp [CycleFlags.judgeEnergy]

/-- The dispatcher and the drives when heating has ended (R58 step 1): those of one cut. -/
theorem State.endHeating_cut (hc : (s.heads.get h).ctx = some c) (r : Recipe) (v : Nat) :
    (s.endHeating h r v).disp = (s.cut h).disp ∧ (s.endHeating h r v).drives = (s.cut h).drives := by
  cases hnext : r.segments[c.segIndex + 1]? with
  | some g2 => rw [State.endHeating_hold hc hnext]; exact ⟨rfl, rfl⟩
  | none =>
    rw [State.endHeating_last hc hnext, State.finishCycle_disp, State.finishCycle_drives]
    exact ⟨rfl, rfl⟩

theorem State.cut_drives (s : State) (h : HeadId) :
    (s.cut h).drives = s.drives.set h ((s.drives.get h).cut (s.store.inForce.get h).driveType) := rfl

/-- The context of the completed last segment, written out (R58 steps 1 to 3). -/
theorem Context.heated_eq (c : Context) (amount : Nat) (now : Word32) (r : Recipe) :
    c.heated amount now r = { c with
      totalEnergy := c.totalEnergy + amount, segEnergy := c.segEnergy + amount
      summaries := c.summaries ++ [(c.accrue amount).summary now]
      flags := c.flags.judgeEnergy r (c.totalEnergy + amount) } := rfl

/-- The context that enters HOLD, written out (R58 step 4). -/
theorem Context.enterHold_eq (c : Context) (i : Nat) (now : Word32) (v : Nat) (b : Bool) :
    c.enterHold i now v b = { c with
      segIndex := i, clock := some now, inBand := 0, prev := some (now, b), lagStart := none, peak := v, segEnergy := 0
      loop := { c.loop with accumulator := 0, prevRequest := 0 } } := rfl

/-- The context of a cycle that ends with its last heating segment (R58, R62). -/
def Context.finished (c : Context) : Context :=
  { c with cycleTimer := none, result := some (cycleResult none c.flags), reason := none }

/-- The head when HOLD is entered (R58 step 4). -/
theorem State.endHeating_enters {g2 : Segment} (hc : (s.heads.get h).ctx = some c)
    (hnext : r.segments[c.segIndex + 1]? = some g2) (v : Nat) :
    ((s.endHeating h r v).heads.get h).state = .hold ∧ ((s.endHeating h r v).heads.get h).ctx = some
      ((c.heated (s.cutEnergy h) s.disp.timestamp r).enterHold (c.segIndex + 1) s.disp.timestamp v s.holdInBand) := by
  rw [State.endHeating_hold hc hnext, State.modHead_heads_same]
  exact ⟨rfl, rfl⟩

/-- A cycle that ends with its last heating segment (R58, R62): no second summary, its record appended. -/
theorem State.endHeating_over (hst : (s.heads.get h).state = .heating) (hc : (s.heads.get h).ctx = some c)
    (hnext : r.segments[c.segIndex + 1]? = none) (hlen : c.summaries.length = c.segIndex) (v : Nat) :
    let e := c.heated (s.cutEnergy h) s.disp.timestamp r
    ((s.endHeating h r v).heads.get h).ctx = some e.finished ∧
      (s.endHeating h r v).trace = s.trace.append h c.cycle (traceRecord h e.finished) ∧
      s.cycleOver (s.endHeating h r v) h c.cycle (cycleResult none e.flags) none := by
  intro e
  let u := (s.cut h).modHead h fun hd => { hd with ctx := some e }
  have hu : (u.heads.get h).ctx = some e := State.setCtx_ctx _ h e
  have hstate : (u.heads.get h).state = .heating := by
    simp only [u, State.modHead_heads_same, State.cut_heads_same]
    exact hst
  have hended : e.ended (u.heads.get h).state u.disp.timestamp none = e.finished := by
    rw [hstate, Context.ended_eq e rfl, if_neg]
    · rfl
    · have hlong : e.summaries.length = c.summaries.length + 1 := List.length_append
      have hindex : e.segIndex = c.segIndex := rfl
      rw [hlong, hindex, hlen]
      omega
  rw [State.endHeating_last hc hnext]
  have hover := u.finishCycle_cycleOver h none hu
  refine ⟨?_, ?_, hover⟩
  · rw [State.finishCycle_heads_same u h none hu, hended]
  · rw [State.finishCycle_trace u h none hu, hended]
    rfl

/-- Of the state before, the end of a cycle is told by the trace unit alone (R62). -/
theorem State.cycleOver_of_trace {t : State} {n : Word32} {result : CycleResult} {reason : Option Reason}
    (htrace : u.trace = s.trace) (hover : u.cycleOver t h n result reason) : s.cycleOver t h n result reason := by
  unfold State.cycleOver State.recorded at hover ⊢
  rw [htrace] at hover
  exact hover

/-- Settles O21. -/
theorem lastHeatingSegmentEndsHeating : Obligations.LastHeatingSegmentEndsHeating := by
  intro h status raw s c r g t start hmode hreplay hst hrun hlen hhigh hconv hcool hclock hlast now sp inBand hlag hdone
    total summary low high
  obtain ⟨hctx, hrecipe, hseg⟩ := (State.running_iff ..).mp hrun
  have hsp : c.sampleSetpoint g now t = sp := by
    rw [Context.sampleSetpoint, Context.atSample_running hclock]
    exact Context.setpoint_congr rfl rfl
  obtain ⟨d, hd⟩ : ∃ d, d = c.judged r g now t := ⟨_, rfl⟩
  obtain ⟨s1, hs1⟩ : ∃ s1 : State, s1 = { s with fronts := s.fronts.set h { s.fronts.get h with
            rx := none, lastStatus := some status, temperature := some t, sensor := .fresh
            timer := some (s.store.inForce.get h).sensorTimeout } } := ⟨_, rfl⟩
  obtain ⟨s2, hs2⟩ : ∃ s2, s2 = s1.modHead h fun hd => { hd with ctx := some d } := ⟨_, rfl⟩
  have hjudged := hd
  rw [Context.judged_eq, hclock, if_neg (by simp)] at hjudged
  have hcompletes : d.completes g now = true := by
    rw [Context.completes_iff, Context.elapsedSegment_of_clock (start := start) (by rw [hjudged]; rfl), hjudged]
    exact hdone
  have hexec : exec (.sample h (.good status raw)) s = .next (s2.endHeating h r t) := by
    rw [exec_sample_usable s h status raw t hconv hmode hreplay hhigh, ← hs1,
      State.sampleEvent_heating (s := s1) (by rw [hs1]; exact hst) (by rw [hs1]; exact hrun),
      State.heatSample_goesOn s1 h hcool fun hk hl hlt => by
        rw [hs1] at hlt ⊢
        exact hlag hk hl (show t + g.band < sp by rw [← hsp]; exact hlt)]
    have htime : s1.disp.timestamp = now := by rw [hs1]
    rw [htime, ← hd, State.completeOrRun_ends s1 h (by rw [htime]; exact hcompletes) (by rw [hjudged]; exact hlast), ← hs2]
  have hctx2 : (s2.heads.get h).ctx = some d := by rw [hs2]; exact s1.setCtx_ctx h d
  have hst2 : (s2.heads.get h).state = .heating := by rw [hs2, State.modHead_heads_same, hs1]; exact hst
  have hs : s2.trace = s.trace ∧ s2.disp = s.disp ∧ s2.drives = s.drives ∧ s2.store = s.store ∧ s2.cutEnergy h = s.cutEnergy h ∧
      s2.holdInBand = s.holdInBand := by
    rw [hs2, hs1]; exact ⟨rfl, rfl, rfl, rfl, rfl, rfl⟩
  obtain ⟨htrace2, hdisp2, hdrives2, hstore2, hcut2, hfree2⟩ := hs
  have others : ∀ k, k ≠ h → s.headUntouched (s2.endHeating h r t) k := fun k hk => by
    have hs2 : s.headUntouched s2 k := by
      rw [hs2, hs1]
      exact ⟨PerSix.get_modify_other _ _ hk, PerSix.get_set_other _ _ hk, rfl, rfl, rfl, rfl⟩
    exact hs2.trans ((s2.atHead_endHeating h r t).others k hk)
  obtain ⟨hdisp, hdrives⟩ := State.endHeating_cut hctx2 r t
  rw [State.cut_disp, hdisp2] at hdisp
  rw [State.cut_drives, hdrives2, hstore2] at hdrives
  have hsummary : (d.accrue (s.cutEnergy h)).summary now = summary := by
    rw [Context.summary_running (r := r) (g := g) (start := start) (by rw [hjudged]; exact hrecipe)
      (by rw [hjudged]; exact hseg) (by rw [hjudged]; rfl), hjudged]
    rfl
  obtain ⟨e, he⟩ : ∃ e, e = d.heated (s.cutEnergy h) now r := ⟨_, rfl⟩
  have hheated := he
  rw [Context.heated_eq, hsummary, hjudged] at hheated
  have window : (e.flags.energyLow = true ↔ c.flags.energyLow = true ∨ low) ∧
      (e.flags.energyHigh = true ↔ c.flags.energyHigh = true ∨ high) := by
    rw [hheated]
    exact ⟨CycleFlags.judgeEnergy_energyLow .., CycleFlags.judgeEnergy_energyHigh ..⟩
  obtain ⟨hlow, hhigh⟩ := window
  have hindex : d.segIndex = c.segIndex := by rw [hjudged]
  cases hnext : r.segments[c.segIndex + 1]? with
  | some g2 =>
    obtain ⟨hstate, hctx'⟩ := State.endHeating_enters hctx2 (r := r) (g2 := g2) (by rw [hindex]; exact hnext) t
    rw [hdisp2, hcut2, hfree2, ← he, hindex, Context.enterHold_eq] at hctx'
    refine ⟨_, _, hexec, hctx', by rw [hheated], by rw [hheated], by rw [hheated], hlow, hhigh, hdisp, hdrives, others,
      fun g2' _ => ?_, fun hn => by cases hn⟩
    exact ⟨hstate, rfl, rfl, rfl, rfl, ⟨_, rfl⟩, rfl, rfl, by rw [hheated], by rw [hheated]⟩
  | none =>
    obtain ⟨hhead, htrace, hover⟩ := State.endHeating_over hst2 hctx2 (r := r) (by rw [hindex]; exact hnext)
      (by rw [hjudged]; exact hlen) t
    rw [hdisp2, hcut2, ← he] at hhead htrace hover
    have hcycle : d.cycle = c.cycle := by rw [hjudged]
    have hresult : cycleResult none e.flags = if c.flags.indexInHold ∨ c.flags.hotRelease ∨ e.finished.flags.energyLow ∨
        e.finished.flags.energyHigh then .warn else .good := by
      refine (if_congr (CycleFlags.warns_iff _) rfl rfl).trans ?_
      rw [Context.finished, hheated]
      rfl
    rw [hcycle, htrace2] at htrace
    rw [hcycle, hresult] at hover
    refine ⟨_, e.finished, hexec, hhead, by rw [Context.finished, hheated], by rw [Context.finished, hheated],
      by rw [Context.finished, hheated], hlow, hhigh, hdisp, hdrives, others, fun g2' hn => (by cases hn), fun _ => ⟨?_, fun w hw => ?_⟩⟩
    · exact State.cycleOver_of_trace htrace2 hover
    · rw [htrace]
      exact s.trace.append_get hw c.cycle (traceRecord h e.finished)

/-! ### Judgements that end the cycle (R55, R56) -/

/-- A usable sample of any status: the front end follows it, then its cycle's sample event runs (R28, R35). -/
theorem exec_sample_event {status : SampleStatus} {raw : Word16} (hc : (s.fronts.get h).calibration.convert status raw = some v)
    (hmode : s.sup.mode ≠ .starting) (hreplay : (s.fronts.get h).replayActive = false) :
    exec (.sample h (.good status raw)) s = .next
      (({ s with fronts := s.fronts.set h { s.fronts.get h with
            rx := none, lastStatus := some status, temperature := some v, sensor := .fresh
            timer := some (s.store.inForce.get h).sensorTimeout } }).sampleEvent h v (status == SampleStatus.high)) := by
  rw [exec_sample_taken hmode hreplay]
  unfold State.takeSample
  simp only [hc, State.modFront, PerSix.modify, PerSix.set_set, PerSix.get_set_same]
  rfl

/-- A run of the loop leaves the state of its head. -/
theorem State.runLoop_state (s : State) (h : HeadId) (r : Recipe) (g : Segment) (v sp : Nat) :
    ((s.runLoop h r g v sp).heads.get h).state = (s.heads.get h).state := by
  cases hc : (s.heads.get h).ctx with
  | none => simp only [State.runLoop, hc]
  | some c => rw [State.runLoop_of_ctx hc, PerSix.get_set_same]

/-- A cycle that ends with no reason leaves its head DONE (R61, R62). -/
theorem endState_finished (f : CycleFlags) : endState (cycleResult none f) = .done := by
  simp only [cycleResult]
  split <;> rfl

/-- The end of heating leaves the head in HOLD or, with no reason, DONE (R58, R61). -/
theorem State.endHeating_not_faulted (hc : (s.heads.get h).ctx = some c) (r : Recipe) (v : Nat) :
    ((s.endHeating h r v).heads.get h).state ≠ .faulted := by
  cases hnext : r.segments[c.segIndex + 1]? with
  | some g2 =>
    rw [(State.endHeating_enters hc hnext v).1]
    decide
  | none =>
    rw [State.endHeating_last hc hnext, State.finishCycle_heads_same _ h none (State.setCtx_ctx ..), endState_finished]
    exact nofun

theorem State.completeOrRun_not_faulted (hst : (s.heads.get h).state = .heating) (c : Context) (r : Recipe) (g : Segment)
    (v sp : Nat) : ((s.completeOrRun h c r g v sp).heads.get h).state ≠ .faulted := by
  have hset : ∀ (u : State) (c' : Context), ((u.modHead h fun hd => { hd with ctx := some c' }).heads.get h).state =
      (u.heads.get h).state := fun u c' => by rw [State.modHead_heads_same]
  by_cases hdone : c.completes g s.disp.timestamp = true
  · by_cases hlast : ∀ g2, r.segments[c.segIndex + 1]? = some g2 → g2.kind = .hold
    · rw [State.completeOrRun_ends s h hdone hlast]
      exact State.endHeating_not_faulted (s.setCtx_ctx h c) r v
    · push Not at hlast
      obtain ⟨g2, hnext, hkind⟩ := hlast
      rw [State.completeOrRun_next s h hdone hnext hkind, State.runLoop_state, hset, hst]
      decide
  · rw [State.completeOrRun_runs s h hdone, State.runLoop_state, hset, hst]
    decide

/-- A sample in HEATING that leaves its head FAULTED has cut it: the end of heating without a reason leaves it DONE or in HOLD. -/
theorem State.heatSample_faulted (hst : (s.heads.get h).state = .heating) (c : Context) (r : Recipe) (g : Segment) (v : Nat)
    (high : Bool) (hfault : ((s.heatSample h c r g v high).heads.get h).state = .faulted) :
    let t := s.heatSample h c r g v high
    t.disp.request.get h = none ∧ t.disp.grant.get h = { grant := 0, served := 0 } ∧
      (t.drives.get h).output = (s.store.inForce.get h).driveType.zero := by
  intro t
  have ends : ∀ (c' : Context) (reason : Option Reason), t = (s.modHead h fun hd => { hd with ctx := some c' }).endCycle h reason →
      t.disp.request.get h = none ∧ t.disp.grant.get h = { grant := 0, served := 0 } ∧
        (t.drives.get h).output = (s.store.inForce.get h).driveType.zero := fun c' reason ht => by
    obtain ⟨hreq, hgrant, hdrive⟩ := (s.modHead h fun hd => { hd with ctx := some c' }).endCycle_cut reason
      (h := h) (by rw [State.modHead_heads_same]; exact hst)
    rw [ht, hdrive, DriveUnit.cut_output]
    exact ⟨hreq, hgrant, rfl⟩
  rcases c.sample_cases r g s.disp.timestamp v high with hot | ⟨rfl, hcool, hk, hl, hlt, t0, ht0, hover⟩ | ⟨rfl, hcool, hlag⟩
  · exact ends _ _ (State.heatSample_hot s h hot)
  · exact ends _ _ (State.heatSample_lags s h hcool hk hl hlt ht0 hover)
  · rw [State.heatSample_goesOn s h hcool hlag] at hfault
    exact (State.completeOrRun_not_faulted hst _ _ _ _ _ hfault).elim

/-- Settles O22. -/
theorem sampleJudgementsEndTheCycle : Obligations.SampleJudgementsEndTheCycle := by
  intro h status raw s c r g t hmode hreplay hrun hconv now
  obtain ⟨s1, hs1⟩ : ∃ s1 : State, s1 = { s with fronts := s.fronts.set h { s.fronts.get h with
            rx := none, lastStatus := some status, temperature := some t, sensor := .fresh
            timer := some (s.store.inForce.get h).sensorTimeout } } := ⟨_, rfl⟩
  have hheads : s1.heads = s.heads ∧ s1.trace = s.trace ∧ s1.store = s.store ∧ s1.disp = s.disp ∧ s1.running h = s.running h := by
    rw [hs1]; exact ⟨rfl, rfl, rfl, rfl, rfl⟩
  obtain ⟨hheads, htrace, hstore, hdisp, hruns⟩ := hheads
  have hexec : exec (.sample h (.good status raw)) s = .next (s1.sampleEvent h t (status == SampleStatus.high)) := by
    rw [hs1]; exact exec_sample_event hconv hmode hreplay
  have hhigh : (status == SampleStatus.high) = true ↔ status = .high := beq_iff_eq
  have ends : ∀ (c' : Context) (reason : Reason), ((s.heads.get h).state = .heating ∨ (s.heads.get h).state = .hold) →
      c'.cycle = c.cycle → s.cycleOver ((s1.modHead h fun hd => { hd with ctx := some c' }).endCycle h (some reason)) h c.cycle
        .aborted (some reason) := fun c' reason hst hc' => by
    have hactive : (s1.modHead h fun hd => { hd with ctx := some c' }).isActive h = true := by
      rw [State.setCtx_isActive, State.isActive_iff, hheads]
      exact .inr hst
    rw [← hc']
    exact State.cycleOver_of_trace (u := s1.modHead h _) htrace (State.endCycle_cycleOver _ h reason hactive (s1.setCtx_ctx h c'))
  have heats : (s.heads.get h).state = .heating →
      s1.sampleEvent h t (status == SampleStatus.high) = s1.heatSample h c r g t (status == SampleStatus.high) := fun hst =>
    State.sampleEvent_heating (by rw [hheads]; exact hst) (hruns.trans hrun) _
  refine ⟨_, hexec, fun hst hot => ?_, fun t0 hst hnot hcool hk hl hclock hlt ht0 hover => ?_, fun hst hfault => ?_, fun k hk => ?_⟩
  · have hot' : (status == SampleStatus.high) = true ∨ r.maxTemp < t := by rwa [hhigh]
    rcases hst with hst | hst
    · rw [heats hst, State.heatSample_hot s1 h hot']
      exact ends _ _ (.inl hst) (by rw [Context.atSample_eq])
    · rw [State.sampleEvent_hold (by rw [hheads]; exact hst) (hruns.trans hrun), State.holdSample_hot s1 h hot']
      exact ends _ _ (.inr hst) rfl
  · obtain ⟨start, hstart⟩ := Option.ne_none_iff_exists'.mp hclock
    have hsp : c.sampleSetpoint g s1.disp.timestamp t = c.setpoint g now := by
      rw [hdisp, Context.sampleSetpoint, Context.atSample_running hstart]
      exact Context.setpoint_congr rfl rfl
    have hlow : (status == SampleStatus.high) = false := by rw [← Bool.not_eq_true, hhigh]; exact hnot
    rw [heats hst, hlow, State.heatSample_lags s1 h hcool hk hl (by rw [hsp]; exact hlt) ht0 (by rw [hdisp]; exact hover)]
    exact ends _ _ (.inl hst) (by rw [Context.recorded_eq])
  · rw [heats hst] at hfault ⊢
    have hcut := State.heatSample_faulted (by rw [hheads]; exact hst) c r g t _ hfault
    rw [hstore] at hcut
    exact hcut
  · have hs : s.headUntouched s1 k := by
      rw [hs1]
      exact ⟨rfl, PerSix.get_set_other _ _ hk, rfl, rfl, rfl, rfl⟩
    exact hs.trans ((s1.atHead_sampleEvent h t _).others k hk)

/-! ### HOLD and the cycle-time timer (R59, R60) -/

/-- A cycle in HOLD that ends with no reason (R61, R62). -/
theorem State.endCycle_hold_over (hst : (s.heads.get h).state = .hold) (hc : (s.heads.get h).ctx = some c) :
    s.cycleOver (s.endCycle h none) h c.cycle (if c.flags.warns then .warn else .good) none := by
  have he : s.endCycle h none = s.finishCycle h none := by simp only [State.endCycle, hst]
  rw [he]
  exact s.finishCycle_cycleOver h none hc

/-- Settles O23. -/
theorem holdReleasesOrWaits : Obligations.HoldReleasesOrWaits := by
  intro h status raw s c r g t start hmode hreplay hst hrun hconv hhigh hcool hclock released
  obtain ⟨s1, hs1⟩ : ∃ s1 : State, s1 = { s with fronts := s.fronts.set h { s.fronts.get h with
            rx := none, lastStatus := some status, temperature := some t, sensor := .fresh
            timer := some (s.store.inForce.get h).sensorTimeout } } := ⟨_, rfl⟩
  have hkept : s1.heads = s.heads ∧ s1.trace = s.trace ∧ s1.disp = s.disp ∧ s1.drives = s.drives ∧
      s1.running h = s.running h := by
    rw [hs1]; exact ⟨rfl, rfl, rfl, rfl, rfl⟩
  obtain ⟨hheads, htrace, hdisp, hdrives, hruns⟩ := hkept
  have hexec : exec (.sample h (.good status raw)) s = .next (s1.sampleEvent h t false) := by
    rw [hs1]; exact exec_sample_usable s h status raw t hconv hmode hreplay hhigh
  have hwait : c.waiting s1.disp.timestamp t s1.holdInBand = { c with
      peak := max c.peak t, inBand := c.inBand + c.bandInterval s.disp.timestamp
      prev := some (s.disp.timestamp, s1.holdInBand) } := by rw [hdisp]; rfl
  have hrel : released ↔ g.duration ≤ c.elapsedSegment s1.disp.timestamp ∧ t ≤ g.target := by
    rw [Context.elapsedSegment_of_clock hclock, hdisp]
  let s2 := s1.drawFree.modHead h fun hd => { hd with ctx := some (c.waiting s1.disp.timestamp t s1.holdInBand) }
  have hst2 : (s2.heads.get h).state = .hold := by
    show ((s1.drawFree.modHead h _).heads.get h).state = _
    rw [State.modHead_heads_same]
    show (s1.heads.get h).state = _
    rw [hheads, hst]
  have hsample : s1.sampleEvent h t false = s1.holdSample h c r g t false :=
    State.sampleEvent_hold (by rw [hheads]; exact hst) (hruns.trans hrun) false
  refine ⟨_, hexec, fun k hk => ?_, ?_⟩
  · have hs : s.headUntouched s1 k := by
      rw [hs1]
      exact ⟨rfl, PerSix.get_set_other _ _ hk, rfl, rfl, rfl, rfl⟩
    exact hs.trans ((s1.atHead_sampleEvent h t _).others k hk)
  · by_cases hr : released
    · have hends : s1.sampleEvent h t false = s2.endCycle h none :=
        hsample.trans (State.holdSample_released s1 h hcool (hrel.mp hr))
      obtain ⟨hdisp2, hdrives2⟩ := s2.endCycle_uncut (h := h) none (by rw [hst2]; decide)
      rw [hends]
      refine ⟨hdisp2.trans hdisp, hdrives2.trans hdrives, fun _ => ?_, fun hn => absurd hr hn⟩
      have hover := State.endCycle_hold_over hst2 (s1.drawFree.setCtx_ctx h (c.waiting s1.disp.timestamp t s1.holdInBand))
      exact State.cycleOver_of_trace (u := s2) htrace hover
    · have hwaits : s1.sampleEvent h t false = s2 := hsample.trans (State.holdSample_waits s1 h hcool (mt hrel.mpr hr))
      rw [hwaits]
      refine ⟨hdisp, hdrives, fun hn => absurd hn hr, fun _ => ⟨hst2, s1.holdInBand, ?_⟩⟩
      show (s1.drawFree.modHead h _).heads.get h = _
      rw [State.modHead_heads_same, hwait]
      have hdrawn : s1.drawFree.heads = s.heads := hheads
      rw [hdrawn]
      rfl

/-! ### The sensor timer (R36) -/

/-- The sensor lost at a head with no cycle in HEATING or HOLD. -/
theorem State.sensorLost_outside (hheat : (s.heads.get h).state ≠ .heating) (hhold : (s.heads.get h).state ≠ .hold) :
    s.sensorLost h = s.modFront h fun fe => { fe with timer := none, sensor := .stale } := by
  unfold State.sensorLost
  split
  · next e => exact absurd e hheat
  · next e => exact absurd e hhold
  · rfl

theorem State.sensorLost_cycle (hst : (s.heads.get h).state = .heating ∨ (s.heads.get h).state = .hold) :
    s.sensorLost h = (s.modFront h fun fe => { fe with timer := none, sensor := .stale }).endCycle h (some .sensorLost) := by
  unfold State.sensorLost
  rcases hst with hst | hst <;> rw [hst]

theorem exec_sensorTimerExpiry (hdue : (s.fronts.get h).timer = some 0) :
    exec (.sensorTimerExpiry h) s = .next (s.sensorLost h) := if_pos hdue

/-- The timer at a head whose sensor is lost, in HEATING or HOLD. -/
theorem sensorTimerExpires (hdue : (s.fronts.get h).timer = some 0)
    (hst : (s.heads.get h).state = .heating ∨ (s.heads.get h).state = .hold) (hc : (s.heads.get h).ctx = some c) :
    ∃ t, exec (.sensorTimerExpiry h) s = .next t ∧
      t = State.endCycle { s with fronts := s.fronts.set h { s.fronts.get h with timer := none, sensor := .stale } } h
        (some .sensorLost) ∧
      s.cycleOver t h c.cycle .aborted (some .sensorLost) ∧
      t.fronts.get h = { s.fronts.get h with timer := none, sensor := .stale, replayActive := false } ∧
      ∀ k, k ≠ h → s.headUntouched t k := by
  let s1 : State := { s with fronts := s.fronts.set h { s.fronts.get h with timer := none, sensor := .stale } }
  have hover : s1.cycleOver (s1.endCycle h (some .sensorLost)) h c.cycle .aborted (some .sensorLost) :=
    s1.endCycle_cycleOver h .sensorLost ((s1.isActive_iff h).mpr (.inr hst)) hc
  have hfront := s1.endCycle_fronts h h (some .sensorLost)
  obtain ⟨-, hreplay, -⟩ := id hover
  refine ⟨s1.endCycle h (some .sensorLost), ?_, rfl, State.cycleOver_of_trace (u := s1) rfl hover, ?_, fun k hk => ?_⟩
  · rw [exec_sensorTimerExpiry hdue, State.sensorLost_cycle hst]
    rfl
  · rw [hfront, hreplay]
    show { (s.fronts.set h _).get h with replayActive := false } = _
    rw [PerSix.get_set_same]
  · have hs : s.headUntouched s1 k := ⟨rfl, PerSix.get_set_other _ _ hk, rfl, rfl, rfl, rfl⟩
    exact hs.trans (s1.endCycle_untouched h _ hk)

/-- The expiry of a cycle-time timer in HEATING (R60). -/
theorem State.cycleTimeUp_heating (hst : (s.heads.get h).state = .heating) :
    s.cycleTimeUp h = (s.modCtx h fun c => { c with cycleTimer := none }).endCycle h (some .cycleTime) := by
  unfold State.cycleTimeUp
  rw [hst]

theorem exec_cycleTimeExpiry (hc : (s.heads.get h).ctx = some c) (hdue : c.cycleTimer = some 0) :
    exec (.cycleTimeExpiry h) s = .next (s.cycleTimeUp h) := by
  refine if_pos ?_
  simp [State.cycleTimeDue, hc, hdue]

/-- The other heads at the expiry of a cycle-time timer. -/
theorem State.cycleTimeUp_untouched (s : State) (hk : k ≠ h) : s.headUntouched (s.cycleTimeUp h) k := by
  have hs : ∀ f, s.headUntouched (s.modCtx h f) k := fun f => (s.atHead_modHead h _).others k hk
  unfold State.cycleTimeUp
  split
  · exact (hs _).trans (State.endCycle_untouched _ h _ hk)
  · exact ((hs _).trans ((State.atHead_modHead _ h _).others k hk)).trans (State.endCycle_untouched _ h _ hk)
  · exact hs _

/-- The context of a cycle in HOLD whose time is up (R60). -/
def Context.timeUp (c : Context) (hot : Bool) : Context :=
  { c with cycleTimer := none, flags := { c.flags with hotRelease := c.flags.hotRelease || hot } }

/-- The expiry of a cycle-time timer in HOLD, the last usable temperature judged against the HOLD target (R60). -/
theorem State.cycleTimeUp_hold (hst : (s.heads.get h).state = .hold) (hrun : s.running h = some (c, r, g))
    (ht : (s.fronts.get h).temperature = some v) :
    s.cycleTimeUp h = (s.modHead h fun hd => { hd with ctx := some (c.timeUp (decide (g.target < v))) }).endCycle h none := by
  unfold State.cycleTimeUp
  rw [hst, hrun]
  simp only [hotRelease, ht, State.modFlags, State.modCtx, State.modHead, PerSix.modify, PerSix.set_set, PerSix.get_set_same,
    State.running_ctx hrun, Option.map_some, hst]
  rfl

theorem Context.timeUp_warns (c : Context) (hot : Bool) :
    (c.timeUp hot).flags.warns = true ↔ c.flags.warns = true ∨ hot = true := by
  simp only [Context.timeUp, CycleFlags.warns_iff, Bool.or_eq_true]
  tauto

/-- Settles O24. -/
theorem timerExpiriesEndTheCycle : Obligations.TimerExpiriesEndTheCycle := by
  refine ⟨fun h s c hdue => ⟨fun hheat hhold => ?_, sensorTimerExpires hdue⟩, fun h s c hc hdue => ?_⟩
  · rw [exec_sensorTimerExpiry hdue, State.sensorLost_outside hheat hhold]
    rfl
  · refine ⟨_, exec_cycleTimeExpiry hc hdue, fun k hk => s.cycleTimeUp_untouched hk, fun hst => ?_, fun r g t hst hrun ht => ?_⟩
    · let s1 : State := { s with heads := s.heads.set h { s.heads.get h with ctx := some { c with cycleTimer := none } } }
      have hs1 : s.modCtx h (fun c => { c with cycleTimer := none }) = s1 := by
        simp only [State.modCtx, State.modHead, PerSix.modify, hc, Option.map_some]
        rfl
      have hhead : s1.heads.get h = { s.heads.get h with ctx := some { c with cycleTimer := none } } := PerSix.get_set_same ..
      have hst1 : (s1.heads.get h).state = .heating := by rw [hhead]; exact hst
      obtain ⟨hreq, -, hdrive⟩ := s1.endCycle_cut (some .cycleTime) hst1
      have hover := s1.endCycle_cycleOver h .cycleTime ((s1.isActive_iff h).mpr (.inr (.inl hst1))) (congrArg Head.ctx hhead)
      rw [State.cycleTimeUp_heating hst, hs1]
      refine ⟨rfl, State.cycleOver_of_trace (u := s1) rfl hover, hreq, ?_⟩
      rw [hdrive, DriveUnit.cut_output]
    · let s1 := s.modHead h fun hd => { hd with ctx := some (c.timeUp (decide (g.target < t))) }
      have hst1 : (s1.heads.get h).state = .hold := by
        show ((s.modHead h _).heads.get h).state = _
        rw [State.modHead_heads_same, hst]
      have hctx1 := s.setCtx_ctx h (c.timeUp (decide (g.target < t)))
      have hover := State.endCycle_hold_over hst1 hctx1
      obtain ⟨c', hc', hflags, -⟩ := s1.endCycle_ctx none ((s1.isActive_iff h).mpr (.inr (.inr hst1))) hctx1
      rw [State.cycleTimeUp_hold hst hrun ht]
      refine ⟨?_, c', hc', ?_⟩
      · rw [← if_congr ((Context.timeUp_warns ..).trans (or_congr Iff.rfl decide_eq_true_iff)) rfl rfl]
        exact State.cycleOver_of_trace (u := s1) rfl hover
      · rw [hflags]
        simp [Context.timeUp]

end Sys2Proof.Machine
end

section
/-! PROOFS. Characters on a station link and the judgement of a taken unit (O34, O36). -/

namespace Sys2Proof.Machine

variable {s : State} {l : LinkId} {k : StationLink} {c : Character}

/-! ### Characters stored (R124 to R127, R130) -/

theorem StationLink.judgeStored_eq (k : StationLink) (high : Nat) :
    k.judgeStored high = { k with holdOut := if high ≤ k.fifoCount then true else k.holdOut } := by
  unfold StationLink.judgeStored
  split <;> rfl

/-- A lead stored, written out (R124 case 4). -/
theorem StationLink.storeLead_eq (k : StationLink) (set : Settings) (c : Character) :
    k.storeLead set c = { k with
      closed := k.closed ++ k.opened.toList, opened := some [fifoCharOf c], interTimer := some (gapTimer set)
      holdOut := if set.holdHigh ≤ k.fifoCount + 1 then true else k.holdOut } := by
  have hcount : ({ k.closeUnit with opened := some [fifoCharOf c], interTimer := some (gapTimer set) } : StationLink).fifoCount =
      k.fifoCount + 1 := by
    rw [← k.storeLead_fifoCount set c, StationLink.storeLead, StationLink.judgeStored_fifoCount]
  rw [StationLink.storeLead, StationLink.judgeStored_eq, hcount, StationLink.closeUnit_eq]

/-- The size a unit's second character gives, and the rules that close a unit by it (R125, R126). -/
theorem unitComplete_iff (u : List FifoChar) :
    unitComplete u = true ↔ 2 ≤ u.length ∧ u.length = 3 + ((u.map FifoChar.data).getD 1 0).toNat := by
  unfold unitComplete
  split
  · simp
  · next hn =>
    refine iff_of_false (by decide) ?_
    rintro ⟨h2, -⟩
    match u, h2 with
    | a :: b :: rest, _ => exact hn a b rest rfl

theorem lengthOutOfRange_iff (u : List FifoChar) :
    lengthOutOfRange u = true ↔ 2 ≤ u.length ∧ 14 < ((u.map FifoChar.data).getD 1 0).toNat := by
  unfold lengthOutOfRange
  split
  · simp
  · next hn =>
    refine iff_of_false (by decide) ?_
    rintro ⟨h2, -⟩
    match u, h2 with
    | a :: b :: rest, _ => exact hn a b rest rfl

/-- A character of the frame in reception stored, written out (R124 case 5, R126). -/
theorem StationLink.storeOther_eq {u : List FifoChar} (hu : k.opened = some u) (set : Settings) (c : Character) :
    let u' := u ++ [fifoCharOf c]
    let size : Byte := (u'.map FifoChar.data).getD 1 0
    let hold := if set.holdHigh ≤ k.fifoCount + 1 then true else k.holdOut
    k.storeOther set u c =
      if (2 ≤ u'.length ∧ u'.length = 3 + size.toNat) ∨ (2 ≤ u'.length ∧ 14 < size.toNat) then
        { k with closed := k.closed ++ [u'], opened := none, interTimer := none, holdOut := hold }
      else { k with opened := some u', interTimer := some (gapTimer set), holdOut := hold } := by
  intro u' size hold
  have hcloses : (unitComplete u' || lengthOutOfRange u') = true ↔
      (2 ≤ u'.length ∧ u'.length = 3 + size.toNat) ∨ (2 ≤ u'.length ∧ 14 < size.toNat) := by
    rw [Bool.or_eq_true, unitComplete_iff, lengthOutOfRange_iff]
  have hcount := k.storeOther_fifoCount set u c hu
  unfold StationLink.storeOther at hcount ⊢
  rw [StationLink.judgeStored_fifoCount] at hcount
  rw [StationLink.judgeStored_eq, hcount]
  by_cases hc : (unitComplete u' || lengthOutOfRange u') = true
  · rw [if_pos hc, if_pos (hcloses.mp hc)]; rfl
  · rw [if_neg hc, if_neg (mt hcloses.mpr hc)]

/-! ### Overrun and discard (R128, R129) -/

/-- A change of the last of a list. -/
theorem modify_last {α : Type} (xs : List α) (x : α) (f : α → α) :
    (xs ++ [x]).modify ((xs ++ [x]).length - 1) f = xs ++ [f x] := by
  rw [List.length_append, List.length_singleton, Nat.add_sub_cancel]
  induction xs with
  | nil => rfl
  | cons y ys ih => exact congrArg (y :: ·) ih

/-- The newest character of a unit tagged (R128). -/
theorem tagLast_eq (u : List FifoChar) :
    tagLast u = u.dropLast ++ (u.getLast?.map fun x => { x with tag := .overrunFollow }).toList := by
  rcases List.eq_nil_or_concat u with rfl | ⟨v, x, rfl⟩
  · rfl
  · rw [List.concat_eq_append, tagLast, modify_last]
    simp

theorem StationLink.overrun_opened {u : List FifoChar} (hu : k.opened = some u) :
    k.overrun = { k with closed := k.closed ++ [tagLast u], opened := none, interTimer := none, discard := true } := by
  simp only [StationLink.overrun, hu, StationLink.closeUnit]

theorem StationLink.overrun_closed {older : List (List FifoChar)} {u : List FifoChar} (hn : k.opened = none)
    (hc : k.closed = older ++ [u]) : k.overrun = { k with closed := older ++ [tagLast u], discard := true } := by
  simp only [StationLink.overrun, hn, StationLink.closeUnit, hc, modify_last]

theorem StationLink.fifoFull_iff : k.fifoFull = true ↔ 64 ≤ k.fifoCount := decide_eq_true_iff

theorem StationLink.fifoFull_false : k.fifoFull = false ↔ k.fifoCount < 64 := by
  rw [← Bool.not_eq_true, StationLink.fifoFull_iff, Nat.not_le]

/-! ### What a link makes of a character (R124) -/

/-- A character on a RUNNING link that is not the abort-all character (R124 cases 2 to 6). -/
theorem exec_stationCharacter (hrun : (s.links.get l).state = .running) (hsp : (s.links.get l).spoiled = false)
    (hab : isAbortAll c = false) {k' : StationLink} (hk : (s.links.get l).receive s.store.settings c = k') :
    exec (.stationCharacter l c) s = .next { s with links := s.links.set l k' } := by
  have hquiet : (s.modLink l fun k => { k with spoiled := false }) = s := by
    have hk : ({ s.links.get l with spoiled := false } : StationLink) = s.links.get l := by rw [← hsp]
    rw [State.modLink, PerSix.modify, hk, set_get_self]
  simp only [exec, execStationCharacter, hquiet]
  rw [hrun, hsp]
  simp only [taken_false, hab, Bool.false_eq_true, if_false, State.modLink, PerSix.modify, hk]

theorem exec_stationCharacter_halted (hst : (s.links.get l).state = .halted) : exec (.stationCharacter l c) s = .next s := by
  simp only [exec, execStationCharacter, hst]

theorem StationLink.receive_stores (hd : k.discard = false) (hroom : k.fifoCount < 64) (set : Settings) (c : Character) :
    k.receive set c = if c.mark then k.storeLead set c else match k.opened with
      | some u => k.storeOther set u c
      | none => k := by
  unfold StationLink.receive
  rw [hd, StationLink.fifoFull_false.mpr hroom]
  rfl

theorem StationLink.receive_overruns (hd : k.discard = false) (hfull : 64 ≤ k.fifoCount) (set : Settings) (c : Character) :
    k.receive set c = k.overrun := by
  unfold StationLink.receive
  rw [hd, StationLink.fifoFull_iff.mpr hfull]
  rfl

theorem StationLink.receive_discards (hd : k.discard = true) (hn : c.mark = false ∨ 64 ≤ k.fifoCount) (set : Settings) :
    k.receive set c = k := by
  unfold StationLink.receive
  rw [hd]
  rcases hn with hn | hn
  · rw [hn]; rfl
  · rw [StationLink.fifoFull_iff.mpr hn, Bool.not_true, Bool.and_false]; rfl

/-- In discard, a lead that finds room is stored as on a link that was not in discard (R129). -/
theorem StationLink.receive_resumes (hd : k.discard = true) (hm : c.mark = true) (hroom : k.fifoCount < 64) (set : Settings) :
    k.receive set c = { k with discard := false }.receive set c := by
  have hroom' : ({ k with discard := false } : StationLink).fifoCount < 64 := hroom
  rw [StationLink.receive_stores rfl hroom', hm]
  unfold StationLink.receive
  rw [hd, hm, StationLink.fifoFull_false.mpr hroom]
  rfl

/-- Settles O34. -/
theorem charactersAreStoredInUnits : Obligations.CharactersAreStoredInUnits := by
  refine ⟨fun l c s => ?_, fun l c s => ?_, fun l c s hrun hsp => ?_⟩
  · intro k set x hold timer
    refine ⟨exec_stationCharacter_halted, fun hrun hsp hab hd hroom => ⟨fun hm => ?_, fun hm hn => ?_, fun u hm hu => ?_⟩⟩
    · refine exec_stationCharacter hrun hsp hab ?_
      rw [StationLink.receive_stores hd hroom, hm, if_pos rfl, StationLink.storeLead_eq]
      rfl
    · rw [exec_stationCharacter (k' := k) hrun hsp hab, set_get_self]
      rw [StationLink.receive_stores hd hroom, hm, hn]
      rfl
    · intro u' size complete tooLong k'
      refine exec_stationCharacter hrun hsp hab ?_
      rw [StationLink.receive_stores hd hroom, hm, hu]
      exact StationLink.storeOther_eq hu set c
  · intro k tagged hrun hsp hab
    have htagged : ∀ u, tagged u = tagLast u := fun u => (tagLast_eq u).symm
    refine ⟨fun u hd hfull hu _ => ?_, fun older u hd hfull hn hc _ => ?_, fun hd hn => ?_, fun hd hm hroom => ?_⟩
    · refine exec_stationCharacter hrun hsp hab ?_
      rw [StationLink.receive_overruns hd hfull, StationLink.overrun_opened hu, htagged]
    · refine exec_stationCharacter hrun hsp hab ?_
      rw [StationLink.receive_overruns hd hfull, StationLink.overrun_closed hn hc, htagged]
    · rw [exec_stationCharacter (k' := k) hrun hsp hab (StationLink.receive_discards hd hn _), set_get_self]
    · rw [exec_stationCharacter hrun hsp hab (StationLink.receive_resumes hd hm hroom _),
        exec_stationCharacter (s := { s with links := s.links.set l { k with discard := false } }) (l := l)
          (by rw [PerSix.get_set_same]; exact hrun) (by rw [PerSix.get_set_same]; exact hsp) hab rfl]
      simp only [PerSix.get_set_same, PerSix.set_set]
  · have hclean : taken { c with framing := true } false = taken c true := by simp [taken]
    simp only [exec, execStationCharacter, hrun, hsp, PerSix.get_set_same, hclean, State.modLink, PerSix.modify, PerSix.set_set]

/-! ### The judgement of a taken unit (Table 7.2) -/

/-- The 8-bit sum as a number (R161). -/
theorem byteSum_toNat (bs : List Byte) : (byteSum bs).toNat = (bs.map BitVec.toNat).sum % 256 := by
  have from_ : ∀ (bs : List Byte) (a : Byte), (bs.foldl (· + ·) a).toNat = (a.toNat + (bs.map BitVec.toNat).sum) % 256 := by
    intro bs
    induction bs with
    | nil => exact fun a => (Nat.mod_eq_of_lt a.isLt).symm
    | cons b bs ih =>
      intro a
      rw [List.foldl_cons, ih, BitVec.toNat_add, List.map_cons, List.sum_cons]
      omega
  simpa [byteSum] using from_ bs 0

theorem byteSum_ne_zero_iff (bs : List Byte) : (byteSum bs != 0) = true ↔ (bs.map BitVec.toNat).sum % 256 ≠ 0 := by
  rw [bne_iff_ne, Ne, Ne, ← byteSum_toNat]
  exact not_congr ⟨fun h => by rw [h]; rfl, fun h => BitVec.eq_of_toNat_eq h⟩

theorem any_tag_iff (u : List FifoChar) (t : ErrorTag) : (u.any fun c => c.tag == t) = true ↔ ∃ x ∈ u, x.tag = t := by
  simp [List.any_eq_true]

/-- A unit that is no good frame is answered LINK_ERROR, and is no request (R133, R134). -/
theorem exec_of_judged_error {u : List FifoChar} {reason : LinkErrorReason} (hs : s.serves l u)
    (hj : judgeUnit u = .error reason) :
    exec (.linkError l) s = .next (s.answer l (.linkError reason (unitLead u))) ∧ exec (.start l) s = .next s ∧
      exec (.abort l) s = .next s ∧ exec (.release l) s = .next s ∧ exec (.query l) s = .next s := by
  simp only [exec, execLinkError, execStart, execAbort, execRelease, execQuery, State.nextUnit_of_serves hs, hj,
    State.takeUnit_placeFrame, and_self]

/-- A unit that is a request gets no LINK_ERROR (R133). -/
theorem exec_linkError_of_request {u : List FifoChar} (hs : s.serves l u) (hj : ∀ reason, judgeUnit u ≠ .error reason) :
    exec (.linkError l) s = .next s := by
  simp only [exec, execLinkError, State.nextUnit_of_serves hs]

/-- The payload of a complete unit has the length its second character gives. -/
theorem unitPayload_length (u : List FifoChar) : (unitPayload u).length = u.length - 3 := by
  simp only [unitPayload, List.length_map, List.length_dropLast, List.length_drop]
  omega

/-- Tests 1 to 4 of Table 7.2. -/
theorem judgeUnit_error {u : List FifoChar} :
    ((∃ x ∈ u, x.tag = .overrunFollow) → judgeUnit u = .error .overrun) ∧
    (¬ (∃ x ∈ u, x.tag = .overrunFollow) → unitComplete u = false → judgeUnit u = .error .format) ∧
    (¬ (∃ x ∈ u, x.tag = .overrunFollow) → unitComplete u = true →
      ((∃ x ∈ u, x.tag = .framing) ∨ (byteSum (u.map FifoChar.data) != 0) = true) → judgeUnit u = .error .check) := by
  unfold judgeUnit
  refine ⟨fun h1 => if_pos ((any_tag_iff ..).mpr h1), fun h1 h2 => ?_, fun h1 h2 h3 => ?_⟩
  · rw [if_neg (mt (any_tag_iff ..).mp h1), h2]
    rfl
  · rw [if_neg (mt (any_tag_iff ..).mp h1), h2]
    by_cases h4 : ∃ x ∈ u, x.tag = .framing
    · rw [if_pos ((any_tag_iff ..).mpr h4)]; rfl
    · rw [if_neg (mt (any_tag_iff ..).mp h4), if_pos (h3.resolve_left h4)]; rfl

/-- A unit that passes tests 1 to 4 is judged by its kind and length (Table 7.2 tests 5 and 6). -/
theorem judgeUnit_good {u : List FifoChar} (h1 : ¬ ∃ x ∈ u, x.tag = .overrunFollow) (h2 : unitComplete u = true)
    (h3 : ¬ ∃ x ∈ u, x.tag = .framing) (h4 : ¬ (byteSum (u.map FifoChar.data) != 0) = true) :
    judgeUnit u = requestOfUnit (unitLead u).toNat (unitPayload u) := by
  unfold judgeUnit
  rw [if_neg (mt (any_tag_iff ..).mp h1), h2, if_neg (mt (any_tag_iff ..).mp h3), if_neg h4]
  rfl

/-- The four kinds of request and the length of each (Table 7.2). -/
theorem requestOfUnit_unknown {lead : Byte} (hn : ¬ (lead = 0x10 ∨ lead = 0x11 ∨ lead = 0x12 ∨ lead = 0x13)) (p : List Byte) :
    requestOfUnit lead.toNat p = .error .unknownKind := by
  have ne : ∀ b : Byte, lead ≠ b → lead.toNat ≠ b.toNat := fun b hb he => hb (BitVec.eq_of_toNat_eq he)
  simp only [not_or] at hn
  obtain ⟨h0, h1, h2, h3⟩ := hn
  unfold requestOfUnit
  split
  · next he => exact absurd he (ne 0x10 h0)
  · next he => exact absurd he (ne 0x11 h1)
  · next he => exact absurd he (ne 0x12 h2)
  · next he => exact absurd he (ne 0x13 h3)
  · rfl

theorem requestOfUnit_length {lead : Byte} (hr : lead = 0x10 ∨ lead = 0x11 ∨ lead = 0x12 ∨ lead = 0x13) (p : List Byte) :
    (p.length ≠ (if lead = 0x10 then 7 else 1) → requestOfUnit lead.toNat p = .error .format) ∧
      (p.length = (if lead = 0x10 then 7 else 1) → ∀ reason, requestOfUnit lead.toNat p ≠ .error reason) := by
  have judged : ∀ {n : Nat} {j : Judged}, requestOfUnit lead.toNat p = (if p.length = n then j else .error .format) →
      (∀ reason, j ≠ .error reason) → (p.length ≠ n → requestOfUnit lead.toNat p = .error .format) ∧
        (p.length = n → ∀ reason, requestOfUnit lead.toNat p ≠ .error reason) := fun he hj =>
    ⟨fun hl => he.trans (if_neg hl), fun hl => by rw [he, if_pos hl]; exact hj⟩
  rcases hr with rfl | rfl | rfl | rfl
  · exact judged (j := .start p) rfl fun _ => nofun
  · exact judged (j := .abort p) rfl fun _ => nofun
  · exact judged (j := .release p) rfl fun _ => nofun
  · exact judged (j := .query p) rfl fun _ => nofun

/-- Settles O36. -/
theorem takenUnitsAreJudgedInOrder : Obligations.TakenUnitsAreJudgedInOrder := by
  intro l s u hs bytes lead size overrun complete damaged request length fails
  have hfails : ∀ reason, judgeUnit u = .error reason → fails reason := fun reason => exec_of_judged_error hs
  obtain ⟨hoverrun, hformat, hcheck⟩ := judgeUnit_error (u := u)
  have hcomplete : unitComplete u = true ↔ complete := unitComplete_iff u
  have good : ¬overrun → complete → ¬damaged → judgeUnit u = requestOfUnit lead.toNat (unitPayload u) := fun h1 h2 h3 =>
    judgeUnit_good h1 (hcomplete.mpr h2) (fun hn => h3 (.inl hn)) fun hn => h3 (.inr ((byteSum_ne_zero_iff _).mp hn))
  have hsize : complete → (unitPayload u).length = size := fun h2 => by
    rw [unitPayload_length, h2.2]
    omega
  refine ⟨fun h1 => hfails _ (hoverrun h1), fun h1 h2 => hfails _ (hformat h1 ?_), fun h1 h2 h3 => hfails _ (hcheck h1 ?_ ?_),
    fun h1 h2 h3 h4 => hfails _ ?_, fun h1 h2 h3 h4 h5 => hfails _ ?_, fun h1 h2 h3 h4 h5 => exec_linkError_of_request hs ?_⟩
  · rw [← Bool.not_eq_true, hcomplete]; exact h2
  · exact hcomplete.mpr h2
  · exact h3.imp_right (byteSum_ne_zero_iff _).mpr
  · rw [good h1 h2 h3, requestOfUnit_unknown h4]
  · rw [good h1 h2 h3, (requestOfUnit_length h4 _).1 (by rw [hsize h2]; exact h5)]
  · rw [good h1 h2 h3]
    exact (requestOfUnit_length h4 _).2 (by rw [hsize h2]; exact h5)

end Sys2Proof.Machine
end

section
/-! PROOFS. START refused and accepted (O37, O38). -/

namespace Sys2Proof.Machine

variable {s : State} {l : LinkId} {h k : HeadId}

/-! ### The conditions of a START, in order (Table 3.3) -/

theorem firstRefusal_cons (reason : StationRefusal) (b : Bool) (rest : List (StationRefusal × Bool)) :
    (((reason, b) :: rest).find? fun t => !t.2).map Prod.fst =
      if b = true then (rest.find? fun t => !t.2).map Prod.fst else some reason := by
  cases b <;> rfl

/-- The first of conditions 1 to 8 that fails, condition by condition (R45). -/
theorem State.startFailure_eq (s : State) (l : LinkId) (h : HeadId) :
    s.startFailure l h =
      if s.sup.mode = .production ∨ s.sup.mode = .service then
      if (s.store.inForce.get h).owner = some l then
      if s.sup.enable.get h = true then
      if (s.heads.get h).state = .idle then
      if (s.fronts.get h).calValid = true then
      if (s.fronts.get h).sensor = .fresh ∨ (s.sup.mode = .service ∧ (s.store.inForce.get h).source = .replay) then
      if s.sup.mode = .production → s.cabinet = .ready then
      if s.sup.mode = .production → (s.drives.get h).state = .ready then none
      else some .driveNotReady else some .cabinetDown else some .noSensor else some .calInvalid else some .busy
      else some .headDisabled else some .notOwner else some .mode := by
  have implies : ∀ (a b : Bool), (!a || b) = true ↔ (a = true → b = true) := by decide
  simp only [State.startFailure, State.startConditions, firstRefusal_cons, State.sensorAccepts, implies, Bool.or_eq_true,
    Bool.and_eq_true, beq_iff_eq, State.fields]
  rfl

/-! ### Condition 9: the trace unit (R144) -/

theorem TraceUnit.filling_none {u : TraceUnit} (ha : u.a.state ≠ .filling) (hb : u.b.state ≠ .filling) : u.filling = none := by
  simp only [TraceUnit.filling, if_neg ha, if_neg hb]

/-- With room in the FILLING buffer nothing changes (R144 case 1). -/
theorem TraceUnit.judgeStart_room {u : TraceUnit} {i : BufferId} (hi : u.filling = some i) (hroom : 48 ≤ (u.get i).free) :
    u.judgeStart = (u, some i) := by
  simp only [TraceUnit.judgeStart, hi]
  exact if_pos hroom

theorem TraceUnit.judgeStart_none {u : TraceUnit} (hn : u.filling = none) : u.judgeStart = (u, none) := by
  simp only [TraceUnit.judgeStart, hn]

theorem TraceBuffer.closed_not_filling (x : TraceBuffer) : x.closed.state ≠ .filling := by
  unfold TraceBuffer.closed
  split <;> exact nofun

/-- A full FILLING buffer with no EMPTY one behind it stops filling, and no buffer fills (R144 case 2). -/
theorem TraceUnit.judgeStart_stops {u : TraceUnit} {i : BufferId} (hi : u.filling = some i) (hfull : (u.get i).free < 48)
    (hother : (u.get i.other).state = .closing ∨ (u.get i.other).state = .full) :
    u.judgeStart = (u.set i (u.get i).closed, none) := by
  have hnot : ¬ Config.reservationWords ≤ (u.get i).free := Nat.not_le.mpr hfull
  have hkept := TraceUnit.get_other_set u i (u.get i).closed
  have hclosed : (u.set i (u.get i).closed).get i = (u.get i).closed := TraceUnit.get_set_same ..
  have hclose : u.closeFilling i = u.set i (u.get i).closed := TraceUnit.closeFilling_of_other_not_empty fun hn => by
    rcases hother with e | e <;> cases e.symm.trans hn
  have hnone : (u.set i (u.get i).closed).filling = none := by
    have h1 : ((u.set i (u.get i).closed).get i).state ≠ .filling := by rw [hclosed]; exact TraceBuffer.closed_not_filling _
    have h2 : ((u.set i (u.get i).closed).get i.other).state ≠ .filling := by
      rw [hkept]
      rcases hother with e | e <;> rw [e] <;> decide
    cases i
    · exact TraceUnit.filling_none h1 h2
    · exact TraceUnit.filling_none h2 h1
  simp only [TraceUnit.judgeStart, hi, if_neg hnot, hclose, hnone]

/-- A full FILLING buffer hands over to an EMPTY one (R144 case 2). -/
theorem TraceUnit.judgeStart_handsOver {u : TraceUnit} {i : BufferId} (hi : u.filling = some i) (hfull : (u.get i).free < 48)
    (hother : (u.get i.other).state = .empty) :
    u.judgeStart =
      ((u.set i (u.get i).closed).set i.other { u.get i.other with state := .filling }, some i.other) := by
  have hnot : ¬ Config.reservationWords ≤ (u.get i).free := Nat.not_le.mpr hfull
  have hclose := TraceUnit.closeFilling_of_other_empty hother
  have hfills : ((u.set i (u.get i).closed).set i.other { u.get i.other with state := .filling }).filling = some i.other := by
    have h1 := TraceBuffer.closed_not_filling (u.get i)
    cases i
    · exact (if_neg h1).trans (if_pos rfl)
    · exact if_pos rfl
  simp only [TraceUnit.judgeStart, hi, if_neg hnot, hclose, hfills]

/-! ### START refused (R45) -/

theorem State.takeUnit_startFailure (s : State) (l : LinkId) (h : HeadId) :
    (s.takeUnit l).startFailure l h = s.startFailure l h := rfl

/-- A START with bad fields (R45). -/
theorem exec_start_badRequest {u : List FifoChar} {p : List Byte} (hs : s.serves l u) (hu : judgeUnit u = .start p)
    (hbad : 5 < (p.headD 0).toNat ∨ u16At p 1 = 0 ∨ u16At p 1 = 65535) :
    exec (.start l) s = .next (s.answer l (.refuse (p.headD 0) .badRequest)) := by
  have hrefuse : (s.takeUnit l).handleStart l p = (s.takeUnit l).placeFrame l (refuseFrame p .badRequest) := by
    unfold State.handleStart
    cases hh : headOf (byteAt p 0) with
    | none => rfl
    | some h =>
      rcases hbad with hhead | hcode
      · rw [headOf_first_none hhead] at hh; cases hh
      · exact if_pos hcode
  rw [exec_start hs hu, hrefuse, State.takeUnit_placeFrame]
  rfl

/-- A START with good fields is judged by its conditions (R45). -/
theorem exec_start_judged {u : List FifoChar} {p : List Byte} (hs : s.serves l u) (hu : judgeUnit u = .start p)
    (hh : (p.headD 0).toNat = h.val) (h0 : u16At p 1 ≠ 0) (h1 : u16At p 1 ≠ 65535) :
    exec (.start l) s = .next ((s.takeUnit l).judgeStart l p h (u16At p 1) (BitVec.ofNat 32 (u32At p 3))) := by
  have hgood : ¬ (u16At p 1 = 0 ∨ u16At p 1 = 65535) := by rintro (e | e); exacts [h0 e, h1 e]
  rw [exec_start hs hu]
  unfold State.handleStart
  rw [headOf_first hh]
  exact congrArg Host.Outcome.next (if_neg hgood)

theorem State.judgeStart_refused {reason : StationRefusal} (hf : s.startFailure l h = some reason) (p : List Byte) (code : Nat)
    (joint : Word32) :
    (s.takeUnit l).judgeStart l p h code joint = s.answer l (.refuse (p.headD 0) reason) := by
  unfold State.judgeStart
  rw [State.takeUnit_startFailure, hf]
  exact State.takeUnit_placeFrame ..

/-- No room in the trace buffers (R45 condition 9). -/
theorem State.judgeStart_full (hf : s.startFailure l h = none) {u : TraceUnit} (hj : s.trace.judgeStart = (u, none))
    (p : List Byte) (code : Nat) (joint : Word32) :
    (s.takeUnit l).judgeStart l p h code joint = { s.answer l (.refuse (p.headD 0) .traceFull) with trace := u } := by
  unfold State.judgeStart
  rw [State.takeUnit_startFailure, hf, show (s.takeUnit l).trace.judgeStart = (u, none) from hj, ← State.takeUnit_placeFrame]
  rfl

/-- Settles O37. -/
theorem startRefusedByItsFirstFailure : Obligations.StartRefusedByItsFirstFailure := by
  rintro l s u p head hs hu rfl code refused
  refine ⟨exec_start_badRequest hs hu, fun h hh h0 h1 => ?_⟩
  intro driven c1 c2 c3 c4 c5 c6 c7 c8
  have hexec := exec_start_judged hs hu hh h0 h1
  have hfirst := s.startFailure_eq l h
  have refuses : ∀ reason, s.startFailure l h = some reason → refused reason := fun reason hf => by
    show exec (.start l) s = _
    rw [hexec, State.judgeStart_refused hf]
  have passes : c1 → c2 → c3 → c4 → c5 → c6 → c7 → c8 → s.startFailure l h = none := fun g1 g2 g3 g4 g5 g6 g7 g8 => by
    rw [hfirst, if_pos g1, if_pos g2, if_pos g3, if_pos g4, if_pos g5, if_pos g6, if_pos g7, if_pos g8]
  refine ⟨fun n => refuses _ ?_, fun g1 n => refuses _ ?_, fun g1 g2 n => refuses _ ?_, fun g1 g2 g3 n => refuses _ ?_,
    fun g1 g2 g3 g4 n => refuses _ ?_, fun g1 g2 g3 g4 g5 n => refuses _ ?_, fun g1 g2 g3 g4 g5 g6 n => refuses _ ?_,
    fun g1 g2 g3 g4 g5 g6 g7 n => refuses _ ?_, fun g1 g2 g3 g4 g5 g6 g7 g8 na nb => ?_,
    fun i g1 g2 g3 g4 g5 g6 g7 g8 hi hfull hother => ?_⟩
  · rw [hfirst, if_neg n]
  · rw [hfirst, if_pos g1, if_neg n]
  · rw [hfirst, if_pos g1, if_pos g2, if_neg n]
  · rw [hfirst, if_pos g1, if_pos g2, if_pos g3, if_neg n]
  · rw [hfirst, if_pos g1, if_pos g2, if_pos g3, if_pos g4, if_neg n]
  · rw [hfirst, if_pos g1, if_pos g2, if_pos g3, if_pos g4, if_pos g5, if_neg n]
  · rw [hfirst, if_pos g1, if_pos g2, if_pos g3, if_pos g4, if_pos g5, if_pos g6, if_neg n]
  · rw [hfirst, if_pos g1, if_pos g2, if_pos g3, if_pos g4, if_pos g5, if_pos g6, if_pos g7, if_neg n]
  · show exec (.start l) s = _
    rw [hexec, State.judgeStart_full (passes g1 g2 g3 g4 g5 g6 g7 g8)
      (TraceUnit.judgeStart_none (TraceUnit.filling_none na nb))]
    rfl
  · rw [hexec, State.judgeStart_full (passes g1 g2 g3 g4 g5 g6 g7 g8) (TraceUnit.judgeStart_stops hi hfull hother)]
    rfl

/-! ### The reservation of a START (R144, R145) -/

/-- What a START's reservation makes of the trace unit `u` (R144, R145): `w` holds it in buffer `n` for cycle `cycle` of head `h`. -/
structure TraceUnit.Reserved (u w : TraceUnit) (h : HeadId) (i n : BufferId) (cycle : Word32) : Prop where
  reservation : w.reservation = u.reservation.set h (some { buffer := n, cycle := cycle })
  records : ∀ j, (w.get j).records = (u.get j).records
  reserved : (w.get n).reserved = (u.get n).reserved + 48
  filling : (w.get n).state = .filling
  other : n = i → w.get i.other = u.get i.other
  closed : n ≠ i → (w.get i).state = if 0 < (u.get i).reserved then .closing else .full

/-- Condition 9 met: the FILLING buffer has room, or hands over to an EMPTY one (R144). -/
theorem TraceUnit.judgeStart_reserves {u : TraceUnit} {i n : BufferId} (hi : u.filling = some i)
    (hroom : (48 ≤ (u.get i).free ∧ n = i) ∨ ((u.get i).free < 48 ∧ n = i.other ∧ (u.get n).state = .empty)) :
    ∃ w, u.judgeStart = (w, some n) ∧ ∀ h cycle, u.Reserved (w.reserve h n cycle) h i n cycle := by
  have hstate := TraceUnit.filling_state hi
  rcases hroom with ⟨hfree, rfl⟩ | ⟨hfull, rfl, hempty⟩
  · refine ⟨u, TraceUnit.judgeStart_room hi hfree, fun h cycle => ?_⟩
    cases n <;> exact ⟨rfl, fun j => by cases j <;> rfl, rfl, hstate, fun _ => rfl, fun hn => absurd rfl hn⟩
  · refine ⟨_, TraceUnit.judgeStart_handsOver hi hfull hempty, fun h cycle => ?_⟩
    cases i <;> exact ⟨rfl, fun j => by cases j <;> rfl, rfl, rfl, nofun, fun _ => rfl⟩

/-! ### START accepted (R46) -/

/-- The front end of a replay that begins, written out (R38, R39). -/
theorem FrontEnd.replaying_eq (fe : FrontEnd) (next : Word32) (timeout : Nat) (e : ReplayEntry) :
    let read := fe.calibration.convert e.status e.raw
    fe.replaying next timeout e = { fe with
      replayActive := true, replayPos := 0, replayNext := next, timer := some timeout, lastStatus := some e.status
      temperature := match read with
        | some v => some v
        | none => fe.temperature
      sensor := match read with
        | some _ => .fresh
        | none => fe.sensor } := by
  simp only [FrontEnd.replaying, FrontEnd.sampled]
  cases fe.calibration.convert e.status e.raw <;> rfl

/-- A sample is unusable when it is WEAK, and then alone (R33). -/
theorem Calibration.convert_none_iff (cal : Calibration) (status : SampleStatus) (raw : Word16) :
    cal.convert status raw = none ↔ status = .weak := by
  cases status <;> simp [Calibration.convert, Calibration.tableValue]

/-- The front ends when a START is accepted: a dry cycle on a REPLAY source begins its replay (R38). -/
def State.startFronts (s : State) (h : HeadId) : PerSix FrontEnd :=
  if (s.sup.mode == .service) && (s.fields h).source == .replay then
    s.fronts.modify h fun fe => fe.replaying (later s.disp.timestamp Config.replayPace) (s.fields h).sensorTimeout
      (s.sup.replayTable.getD 0 { raw := 0, status := .low })
  else s.fronts

/-- A START accepted, its lookup not yet arrived (R46 steps 1 to 6). -/
def State.accepted (s : State) (l : LinkId) (h : HeadId) (w : TraceUnit) (c : Context) : State :=
  { s.answer l (.accept (BitVec.ofNat 8 h.val) c.cycle) with
    trace := w
    disp := { s.disp with cycleCounter := c.cycle }
    heads := s.heads.set h { s.heads.get h with state := .lookup, ctx := some c }
    fronts := s.startFronts h }

theorem State.judgeStart_accepted {w : TraceUnit} {n : BufferId} (hf : s.startFailure l h = none)
    (hj : s.trace.judgeStart = (w, some n)) (p : List Byte) (code : Nat) (joint : Word32) :
    let c := s.startContext l code joint
    (s.takeUnit l).judgeStart l p h code joint =
      (s.accepted l h (w.reserve h n c.cycle) c).arriveLookup { head := h, cycle := c.cycle, code := code } := by
  intro c
  have hidle : (s.heads.get h).state = .idle :=
    of_decide_eq_true (State.startFailure_none hf (x := (.busy, (s.heads.get h).state == .idle)) (by simp [State.startConditions]))
  unfold State.judgeStart
  rw [State.takeUnit_startFailure, hf, show (s.takeUnit l).trace.judgeStart = (w, some n) from hj]
  show ((s.takeUnit l).modTrace fun _ => w).acceptStart l h code joint n = _
  rw [State.acceptStart_eq (s := s.takeUnit l) w hidle]
  refine congrArg (fun u : State => u.arriveLookup { head := h, cycle := c.cycle, code := code }) ?_
  rw [State.accepted, State.startFronts, ← State.takeUnit_placeFrame]
  simp only
  by_cases hr : ((s.sup.mode == .service) && (s.fields h).source == .replay) = true
  · rw [if_pos hr]
    refine (congrArg (fun u : State => u.placeFrame l _) (if_pos hr)).trans ?_
    rw [State.beginReplay_outside (by simp [State.beginCycle])]
    rfl
  · rw [if_neg hr]
    refine (congrArg (fun u : State => u.placeFrame l _) (if_neg hr)).trans ?_
    rfl

/-- Of the state before, the end of a cycle is told by its reservation and the records that stand (R62). -/
theorem State.cycleOver_of_records {u t : State} {n : Word32} {result : CycleResult} {reason : Option Reason}
    (hres : u.trace.reservation.get h = s.trace.reservation.get h)
    (hrec : ∀ j, (u.trace.get j).records = (s.trace.get j).records) (hover : u.cycleOver t h n result reason) :
    s.cycleOver t h n result reason := by
  unfold State.cycleOver State.recorded at hover ⊢
  simp only [hres, hrec] at hover
  exact hover

/-- What an arriving lookup comes to (R13): it starts, it ends the cycle of a code that is not in the index, or it waits. -/
theorem State.arriveLookup_starts {e : LookupEntry} {slot : Nat}
    (hfree : s.store.port = .idle ∧ s.store.queue = [] ∧ s.store.supervisor = none) (hslot : s.store.slotOf e.code = some slot) :
    s.arriveLookup e = s.modStore fun st => { st with port := .lookup e slot } := by
  unfold State.arriveLookup State.startLookup
  rw [if_pos hfree, hslot]

theorem State.arriveLookup_waits {e : LookupEntry}
    (hbusy : ¬ (s.store.port = .idle ∧ s.store.queue = [] ∧ s.store.supervisor = none)) :
    s.arriveLookup e = s.modStore fun st => { st with queue := st.queue ++ [e] } := if_neg hbusy

theorem State.arriveLookup_ends {e : LookupEntry}
    (hfree : s.store.port = .idle ∧ s.store.queue = [] ∧ s.store.supervisor = none) (hslot : s.store.slotOf e.code = none)
    (ht : s.takesLookup e = true) :
    s.arriveLookup e =
      (s.modFlags e.head fun f => { f with eccCorrected := f.eccCorrected || false }).endCycle e.head (some .noRecipe) := by
  unfold State.arriveLookup State.startLookup
  rw [if_pos hfree, hslot]
  exact State.deliverLookup_taken ht ..

theorem nextCycle_ne_zero (n : Word32) : nextCycle n ≠ 0 := by
  unfold nextCycle
  split
  · decide
  · assumption

theorem State.startFronts_other (s : State) {k : HeadId} (hk : k ≠ h) : (s.startFronts h).get k = s.fronts.get k := by
  unfold State.startFronts
  split
  · exact PerSix.get_modify_other _ _ hk
  · rfl

theorem State.startFronts_eq (s : State) (h : HeadId) :
    s.startFronts h = if s.sup.mode = .service ∧ (s.store.inForce.get h).source = .replay then
      s.fronts.set h ((s.fronts.get h).replaying (s.disp.timestamp + 2) (s.store.inForce.get h).sensorTimeout
        (s.sup.replayTable.getD 0 { raw := 0, status := .low })) else s.fronts := by
  have hcond : ((s.sup.mode == .service) && (s.fields h).source == .replay) = true ↔
      s.sup.mode = .service ∧ (s.store.inForce.get h).source = .replay := by
    simp [State.fields]
  unfold State.startFronts
  split
  · next hr => rw [if_pos (hcond.mp hr)]; rfl
  · next hr => rw [if_neg (mt hcond.mpr hr)]

/-- A START accepted touches its own head. -/
theorem State.accepted_untouched (s : State) (l : LinkId) (w : TraceUnit) (c : Context) (hk : k ≠ h)
    (hw : w.reservation.get k = s.trace.reservation.get k) : s.headUntouched (s.accepted l h w c) k :=
  ⟨PerSix.get_set_other _ _ hk, s.startFronts_other hk, rfl, rfl, rfl, hw⟩

/-- The lookup of a START accepted, where its code is not in the index (R13, R47): the cycle ends NO_RECIPE, and nothing else of the
other blocks changes. -/
theorem State.accepted_endsNoRecipe {v : State} {c : Context} {e : LookupEntry} (hhead : e.head = h) (hcycle : e.cycle = c.cycle)
    (hst : (v.heads.get h).state = .lookup) (hc : (v.heads.get h).ctx = some c)
    (hmode : v.sup.mode ≠ .draining)
    (hfree : v.store.port = .idle ∧ v.store.queue = [] ∧ v.store.supervisor = none) (hslot : v.store.slotOf e.code = none) :
    let t := v.arriveLookup e
    t.disp = v.disp ∧ t.links = v.links ∧ t.sup = v.sup ∧ t.line = v.line ∧ t.drives = v.drives ∧ t.store = v.store ∧
      v.cycleOver t h c.cycle .aborted (some .noRecipe) ∧ (∀ k, k ≠ h → v.headUntouched t k) ∧
      t.fronts.get h = { v.fronts.get h with replayActive := (t.fronts.get h).replayActive } := by
  intro t
  subst hhead
  have htakes : v.takesLookup e = true := by
    simp only [State.takesLookup, hst, hc, hcycle, beq_self_eq_true]
  obtain ⟨v1, hv1⟩ : ∃ v1, v1 = v.modFlags e.head fun f => { f with eccCorrected := f.eccCorrected || false } := ⟨_, rfl⟩
  have ht : t = v1.endCycle e.head (some .noRecipe) := by rw [hv1]; exact State.arriveLookup_ends hfree hslot htakes
  have hhead1 : v1.heads.get e.head = { v.heads.get e.head with
      ctx := some { c with flags := { c.flags with eccCorrected := c.flags.eccCorrected || false } } } := by
    rw [hv1, State.modFlags, State.modCtx_heads_same, hc]
    rfl
  have hkept : v1.disp = v.disp ∧ v1.links = v.links ∧ v1.sup = v.sup ∧ v1.line = v.line ∧ v1.drives = v.drives ∧
      v1.store = v.store ∧ v1.trace = v.trace ∧ v1.fronts = v.fronts := by
    rw [hv1]; exact ⟨rfl, rfl, rfl, rfl, rfl, rfl, rfl, rfl⟩
  obtain ⟨hdisp, hlinks, hsup, hline, hdrives, hstore, htrace, hfronts⟩ := hkept
  have hlookup : (v1.heads.get e.head).state = .lookup := by rw [hhead1]; exact hst
  obtain ⟨hdisp1, hdrives1⟩ := v1.endCycle_uncut (h := e.head) (some .noRecipe) (by rw [hlookup]; decide)
  have hover := v1.endCycle_cycleOver e.head .noRecipe ((v1.isActive_iff _).mpr (.inl hlookup)) (congrArg Head.ctx hhead1)
  have hsup1 := v1.endCycle_sup_of_not_draining e.head (some .noRecipe) (by rw [hsup]; exact hmode)
  have hstore1 : (v1.endCycle e.head (some .noRecipe)).store = v.store := by
    obtain ⟨-, hq, -⟩ := hfree
    rw [State.endCycle_store, hlookup, if_pos rfl, hstore, hq]
    exact congrArg (fun q => { v.store with queue := q }) hq.symm
  rw [ht]
  refine ⟨hdisp1.trans hdisp, (v1.endCycle_links ..).trans hlinks, hsup1.trans hsup, (v1.endCycle_line ..).trans hline,
    hdrives1.trans hdrives, hstore1, State.cycleOver_of_trace htrace hover, fun k hk => ?_, ?_⟩
  · have h1 : v.headUntouched v1 k := by rw [hv1]; exact (v.atHead_modHead e.head _).others k hk
    exact h1.trans (v1.endCycle_untouched e.head _ hk)
  · rw [State.endCycle_fronts, hfronts]

/-- Settles O38. -/
theorem startAcceptedBeginsACycle : Obligations.StartAcceptedBeginsACycle := by
  intro l s u p h hs hu hh h0 h1 hf i i' hi hroom n code dry replays c e free reserved
  obtain ⟨w, hj, hw⟩ := TraceUnit.judgeStart_reserves hi hroom
  have hexec := exec_start_judged hs hu hh h0 h1
  rw [State.judgeStart_accepted hf hj] at hexec
  have hc : s.startContext l code (BitVec.ofNat 32 (u32At p 3)) = c := by
    have hdry : (s.sup.mode == .service) = dry := by
      rw [Bool.eq_iff_iff, beq_iff_eq]; exact decide_eq_true_iff.symm
    unfold State.startContext
    rw [hdry]
    rfl
  have hhead : p.headD 0 = BitVec.ofNat 8 h.val := by
    refine BitVec.eq_of_toNat_eq ?_
    rw [hh, BitVec.toNat_ofNat, Nat.mod_eq_of_lt (by have := h.isLt; omega)]
  rw [hc] at hexec
  obtain ⟨v, hv⟩ : ∃ v, v = s.accepted l h (w.reserve h i' n) c := ⟨_, rfl⟩
  have hexec : exec (.start l) s = .next (v.arriveLookup e) := by rw [hv]; exact hexec
  have hkept : v.disp = { s.disp with cycleCounter := n } ∧ v.links = (s.answer l (.accept (p.headD 0) n)).links ∧ v.sup = s.sup ∧
      v.line = s.line ∧ v.drives = s.drives ∧ v.store = s.store ∧ v.trace = w.reserve h i' n ∧ v.fronts = s.startFronts h := by
    rw [hv, hhead]; exact ⟨rfl, rfl, rfl, rfl, rfl, rfl, rfl, rfl⟩
  obtain ⟨hdisp, hlinks, hsup, hline, hdrives, hstore, htrace, hfronts⟩ := hkept
  have hheadv : v.heads.get h = { state := .lookup, ctx := some c, notice := (s.heads.get h).notice } := by
    rw [hv]; exact PerSix.get_set_same ..
  obtain ⟨hres, hrec, hreserved, hfilling, hother, hclosed⟩ := hw h n
  have others : ∀ k, k ≠ h → s.headUntouched v k := fun k hk => by
    rw [hv]; exact s.accepted_untouched l _ c hk (by rw [hres]; exact PerSix.get_set_other _ _ hk)
  have hn : n ≠ 0 := nextCycle_ne_zero _
  have front : ∀ t : State, t.fronts.get h = { v.fronts.get h with replayActive := (t.fronts.get h).replayActive } → replays →
      let front := s.fronts.get h
      let entry := s.sup.replayTable.getD 0 { raw := 0, status := .low }
      let read := front.calibration.convert entry.status entry.raw
      (read = none ↔ entry.status = .weak) ∧
      t.fronts.get h = { front with
        replayActive := (t.fronts.get h).replayActive, replayPos := 0, replayNext := s.disp.timestamp + 2
        timer := some (s.store.inForce.get h).sensorTimeout, lastStatus := some entry.status
        temperature := match read with
          | some v => some v
          | none => front.temperature
        sensor := match read with
          | some _ => .fresh
          | none => front.sensor } := fun t ht hr => by
    intro front entry read
    refine ⟨Calibration.convert_none_iff .., ?_⟩
    rw [ht, hfronts, State.startFronts_eq, if_pos ⟨of_decide_eq_true hr.1, hr.2⟩, PerSix.get_set_same,
      FrontEnd.replaying_eq]
  have starts : ∀ (t : State) (f : Store → Store), t = v.modStore f →
      t.heads.get h = { state := .lookup, ctx := some c, notice := (s.heads.get h).notice } ∧
        t.trace.reservation.get h = some { buffer := i', cycle := n } ∧
        (t.trace.get i').reserved = (s.trace.get i').reserved + 48 ∧
        (t.trace.get i').state = .filling ∧ (t.trace.get i').records = (s.trace.get i').records ∧
        (i' = i → t.trace.get i.other = s.trace.get i.other) ∧
        (i' ≠ i → (t.trace.get i).state = if 0 < (s.trace.get i).reserved then .closing else .full) ∧
        (¬replays → t.fronts = s.fronts) ∧
        (replays → (t.fronts.get h).replayActive = true) := fun t f ht => by
    have ht' : t.heads = v.heads ∧ t.trace = v.trace ∧ t.fronts = v.fronts := by rw [ht]; exact ⟨rfl, rfl, rfl⟩
    obtain ⟨h1, h2, h3⟩ := ht'
    rw [h1, h2, h3, htrace, hfronts, hheadv]
    refine ⟨rfl, by rw [hres]; exact PerSix.get_set_same .., hreserved, hfilling, hrec i', hother, hclosed, fun hr => ?_, fun hr => ?_⟩
    · rw [State.startFronts_eq, if_neg fun hn => hr ⟨decide_eq_true hn.1, hn.2⟩]
    · rw [State.startFronts_eq, if_pos ⟨of_decide_eq_true hr.1, hr.2⟩, PerSix.get_set_same, FrontEnd.replaying_eq]
  have hfreev : free ↔ v.store.port = .idle ∧ v.store.queue = [] ∧ v.store.supervisor = none := by rw [hstore]
  by_cases hfree : free
  · cases hslot : s.store.slotOf code with
    | some slot =>
      have ht : v.arriveLookup e = v.modStore fun st => { st with port := .lookup e slot } :=
        State.arriveLookup_starts (hfreev.mp hfree) (by rw [hstore]; exact hslot)
      refine ⟨_, hexec, ?_⟩
      rw [ht]
      refine ⟨hdisp, hn, hlinks, hsup, hline, hdrives, others, fun slot' _ hs' => ?_, fun _ hnone => (nomatch hnone),
        fun hb => absurd hfree hb, front _ rfl, fun _ => starts _ _ rfl⟩
      cases hs'
      exact congrArg (fun st : Store => { st with port := .lookup e slot }) hstore
    | none =>
      have hdriving : v.sup.mode ≠ .draining := by
        rw [hsup]
        intro hd
        have hrefused : s.startFailure l h = some .mode := by
          rw [s.startFailure_eq l h, if_neg (by rw [hd]; decide)]
        rw [hf] at hrefused
        cases hrefused
      obtain ⟨hdisp', hlinks', hsup', hline', hdrives', hstore', hover, hothers, hfront⟩ :=
        State.accepted_endsNoRecipe (v := v) (h := h) (c := c) (e := e) rfl rfl (by rw [hheadv]) (by rw [hheadv]) hdriving
          (hfreev.mp hfree) (by rw [hstore]; exact hslot)
      refine ⟨_, hexec, hdisp'.trans hdisp, hn, hlinks'.trans hlinks, hsup'.trans hsup, hline'.trans hline,
        hdrives'.trans hdrives, fun k hk => (others k hk).trans (hothers k hk), fun _ _ hs' => (nomatch hs'),
        fun _ _ => ⟨hstore'.trans hstore, ?_⟩, fun hb => absurd hfree hb, front _ hfront, fun hne => absurd rfl (hne hfree)⟩
      refine State.cycleOver_of_records (u := v) ?_ (fun j => ?_) hover
      · rw [htrace, hres]
      · rw [htrace, hrec]
        cases j <;> rfl
  · have ht : v.arriveLookup e = v.modStore fun st => { st with queue := st.queue ++ [e] } :=
      State.arriveLookup_waits (mt hfreev.mpr hfree)
    refine ⟨_, hexec, ?_⟩
    rw [ht]
    refine ⟨hdisp, hn, hlinks, hsup, hline, hdrives, others, fun slot' hb => absurd hb hfree, fun hb => absurd hb hfree,
      fun _ => ?_, front _ rfl, fun _ => starts _ _ rfl⟩
    exact congrArg (fun st : Store => { st with queue := st.queue ++ [e] }) hstore

end Sys2Proof.Machine
end

section
/-! PROOFS. ABORT, RELEASE and QUERY, FINISHED, and the transmitter (O39, O40). -/

namespace Sys2Proof.Machine

variable {s : State} {l : LinkId} {h k : HeadId} {p : List Byte}

/-! ### Requests on a head (R67, R69, R70) -/

theorem State.takeUnit_refuse (s : State) (l : LinkId) (p : List Byte) (reason : StationRefusal) :
    (s.takeUnit l).placeFrame l (refuseFrame p reason) = s.answer l (.refuse (p.headD 0) reason) :=
  State.takeUnit_placeFrame ..

/-- A reply placed after the end of a cycle is one placed before it (R67). -/
theorem State.endCycle_answer (s : State) (l : LinkId) (h : HeadId) (reason : Option Reason) (f : StationFrame) :
    ((s.takeUnit l).endCycle h reason).placeFrame l f = (s.answer l f).endCycle h reason := by
  rw [← State.takeUnit_placeFrame]
  generalize s.takeUnit l = u
  refine Eq.trans ?_ (State.endCycle_with_links u h reason (u.links.modify l fun k => k.place f)).symm
  exact congrArg (fun L : PerSix StationLink => { u.endCycle h reason with links := L.modify l fun k => k.place f })
    (u.endCycle_links h reason)

/-- What an ABORT comes to (R67). -/
theorem State.handleAbort_head (hh : (p.headD 0).toNat = h.val) :
    (s.takeUnit l).handleAbort l p =
      if (s.store.inForce.get h).owner ≠ some l then s.answer l (.refuse (p.headD 0) .notOwner)
      else (s.answer l (.accept (p.headD 0) (s.cycleOf h))).endCycle h (some .station) := by
  unfold State.handleAbort
  rw [headOf_first hh]
  by_cases howner : (s.store.inForce.get h).owner ≠ some l
  · rw [if_pos howner, ← State.takeUnit_refuse]
    exact if_pos howner
  · rw [if_neg howner, ← State.endCycle_answer]
    exact if_neg howner

/-- What a RELEASE comes to (R69). -/
theorem State.handleRelease_head (hh : (p.headD 0).toNat = h.val) :
    (s.takeUnit l).handleRelease l p =
      if (s.store.inForce.get h).owner ≠ some l then s.answer l (.refuse (p.headD 0) .notOwner)
      else if (s.heads.get h).state = .done ∨ (s.heads.get h).state = .faulted then
        ((s.takeUnit l).releaseHead h).placeFrame l (.accept (p.headD 0) (s.cycleOf h))
      else s.answer l (.refuse (p.headD 0) .state) := by
  unfold State.handleRelease
  rw [headOf_first hh, ← State.takeUnit_refuse, ← State.takeUnit_refuse]
  rfl

/-- A head released with no deferred fields (R69). -/
theorem State.release_plain {c : Context} (hdef : s.store.deferred.get h = false) :
    ((s.takeUnit l).releaseHead h).placeFrame l (.accept (p.headD 0) c.cycle) =
      { s.answer l (.accept (p.headD 0) c.cycle) with
        heads := s.heads.set h { state := .idle, ctx := none, notice := (s.heads.get h).notice } } := by
  rw [State.releaseHead_eq, if_neg (by rw [show (s.takeUnit l).store = s.store from rfl, hdef]; decide), ← State.takeUnit_placeFrame]
  rfl

/-- A head released with deferred fields takes them (R69, R109). -/
theorem State.release_deferred {c : Context} (hdef : s.store.deferred.get h = true) :
    let fields := s.store.settings.heads.get h
    ((s.takeUnit l).releaseHead h).placeFrame l (.accept (p.headD 0) c.cycle) =
      { s.answer l (.accept (p.headD 0) c.cycle) with
        heads := s.heads.set h { state := .idle, ctx := none, notice := (s.heads.get h).notice }
        store := { s.store with inForce := s.store.inForce.set h fields, deferred := s.store.deferred.set h false }
        drives := if (s.store.inForce.get h).driveType = fields.driveType then s.drives
          else s.drives.set h ((s.drives.get h).command fields.driveType.zero) } := by
  intro fields
  rw [State.releaseHead_eq, if_pos (show (s.takeUnit l).store.deferred.get h = true from hdef), ← State.takeUnit_placeFrame]
  unfold State.applyFields
  by_cases hty : (s.store.inForce.get h).driveType = fields.driveType
  · rw [if_pos hty]
    refine (congrArg (fun u : State => u.placeFrame l _) (if_pos hty)).trans ?_
    rfl
  · rw [if_neg hty]
    refine (congrArg (fun u : State => u.placeFrame l _) (if_neg hty)).trans ?_
    rfl

/-- Settles O39. -/
theorem stationRequestsActOnTheirHead : Obligations.StationRequestsActOnTheirHead := by
  refine ⟨?_, ?_, ?_⟩
  · rintro l s u p head hs hu rfl
    have hexec := exec_abort hs hu
    refine ⟨fun hbad => ?_, fun h hh => ?_⟩
    · rw [hexec, State.handleAbort, headOf_first_none hbad, ← State.takeUnit_refuse]
    · rw [State.handleAbort_head hh] at hexec
      refine ⟨fun howner => by rw [hexec, if_pos howner], fun howner hidle => ?_, fun c howner hactive hc => ?_⟩
      · rw [hexec, if_neg (not_not.mpr howner)]
        exact congrArg Host.Outcome.next ((s.answer l _).endCycle_of_inactive h _ hidle)
      · have hcycle : s.cycleOf h = c.cycle := by simp only [State.cycleOf, hc]
        rw [if_neg (not_not.mpr howner), hcycle] at hexec
        let v := s.answer l (.accept (p.headD 0) c.cycle)
        have hover : v.cycleOver (v.endCycle h (some .station)) h c.cycle .aborted (some .station) :=
          v.endCycle_cycleOver h .station hactive hc
        refine ⟨_, hexec, rfl, State.cycleOver_of_trace (u := v) rfl hover, v.endCycle_links .., fun hst e he => ?_, fun k hk => ?_⟩
        · exact ((v.mem_endCycle_queue h _ e).mp he).2 hst
        · have hv : s.headUntouched v k := ⟨rfl, rfl, rfl, rfl, rfl, rfl⟩
          exact hv.trans (v.endCycle_untouched h _ hk)
  · rintro l s u p head hs hu rfl
    have hexec := exec_release hs hu
    refine ⟨fun hbad => ?_, fun h hh => ?_⟩
    · rw [hexec, State.handleRelease, headOf_first_none hbad, ← State.takeUnit_refuse]
    · intro done fields
      rw [State.handleRelease_head hh] at hexec
      refine ⟨fun howner => by rw [hexec, if_pos howner], fun howner hn => ?_, fun c howner hdone hc => ?_⟩
      · rw [hexec, if_neg (not_not.mpr howner), if_neg hn]
      · have hcycle : s.cycleOf h = c.cycle := by simp only [State.cycleOf, hc]
        rw [if_neg (not_not.mpr howner), if_pos hdone, hcycle] at hexec
        refine ⟨fun hdef => ?_, fun hdef => ?_⟩
        · rw [hexec, State.release_plain hdef]
        · rw [hexec, State.release_deferred hdef]
  · rintro l s u p head hs hu rfl
    have hexec := exec_query hs hu
    refine ⟨fun hbad => ?_, fun h hh => ?_⟩
    · rw [hexec, State.handleQuery, headOf_first_none hbad, ← State.takeUnit_refuse]
    · intro hd t grant
      rw [State.handleQuery, headOf_first hh] at hexec
      have hframe : (s.takeUnit l).placeFrame l ((s.takeUnit l).stateFrame (p.headD 0) h) =
          s.answer l (s.stateFrame (p.headD 0) h) := State.takeUnit_placeFrame ..
      have hexec : exec (.query l) s = .next (s.answer l (s.stateFrame (p.headD 0) h)) :=
        hexec.trans (congrArg Host.Outcome.next hframe)
      have hstate : s.stateFrame (p.headD 0) h = match hd.ctx with
          | none => .state (p.headD 0) hd.state 0 t grant 0 none none
          | some c => .state (p.headD 0) hd.state c.segIndex t grant c.cycle c.result c.reason := by
        have hgrant : grant = match hd.state with
            | .heating => (s.disp.grant.get h).grant
            | _ => 0 := by
          show (if hd.state = .heating then _ else 0) = _
          cases hd.state <;> rfl
        rw [hgrant]
        rfl
      rw [hexec, hstate]
      exact ⟨fun hc => by rw [hc], fun c hc => by rw [hc]⟩

/-! ### FINISHED (R71, R132) -/

theorem StationLink.canPlace_of {k : StationLink} (hrun : k.state = .running) (hroom : k.txQueue.length < 8) : k.canPlace = true := by
  simp [StationLink.canPlace, hrun, Config.transmitSize, hroom]

theorem exec_finished_queues {c : Context} (hrun : (s.links.get l).state = .running) (hroom : (s.links.get l).txQueue.length < 8)
    (hn : s.nextNotice l = some h) (hc : (s.heads.get h).ctx = some c) :
    exec (.finished l) s = .next { s with
      heads := s.heads.set h { s.heads.get h with notice := false }
      links := s.links.set l ((s.links.get l).queued (.finished h c.cycle c.result c.reason)) } := by
  simp only [exec, execFinished, StationLink.canPlace_of hrun hroom, if_true, hn, hc]
  simp only [State.placeFrame, State.modHead, State.modLink, PerSix.modify, StationLink.place_eq, hc]

theorem exec_finished_none (hn : s.nextNotice l = none) : exec (.finished l) s = .next s := by
  simp only [exec, execFinished, hn, ite_self]

/-! ### The transmitter (R137, R138) -/

theorem StationLink.kick_eq (k : StationLink) :
    k.kick = { k with sending := if k.sending = none ∧ k.txQueue ≠ [] ∧ k.paused = false then some 0 else k.sending } := by
  unfold StationLink.kick
  split <;> rfl

section transmitter
variable {k : StationLink} {f : StationFrame} {rest : List StationFrame} {n position : Nat}

theorem StationLink.frameCanEnd_iff (hq : k.txQueue = f :: rest) (hn : k.sending = some n) :
    k.frameCanEnd = true ↔ k.state = .running ∧ (k.paused = false ∨ n + 1 = f.characters.length) := by
  simp only [StationLink.frameCanEnd, hq, hn, Bool.and_eq_true, Bool.or_eq_true, beq_iff_eq, Bool.not_eq_true']

/-- The oldest frame sent, written out (R137). -/
theorem StationLink.frameSent_eq (hq : k.txQueue = f :: rest) :
    k.frameSent = { k with txQueue := rest, sending := if rest ≠ [] ∧ k.paused = false then some 0 else none } := by
  simp only [StationLink.frameSent, StationLink.kick_eq, hq, List.drop_one, List.tail_cons, true_and]

theorem StationLink.setHold_halted (hst : k.state = .halted) (asserted : Bool) (position : Nat) :
    k.setHold asserted position = { k with holdIn := asserted } := by
  simp only [StationLink.setHold, hst]

theorem StationLink.setHold_asserted (hst : k.state = .running) (position : Nat) :
    k.setHold true position =
      { k with holdIn := true, paused := true, sending := if k.paused then k.sending else k.progress position } := by
  simp only [StationLink.setHold, hst, if_true]

theorem StationLink.setHold_released (hst : k.state = .running) (position : Nat) :
    k.setHold false position =
      { k with holdIn := false, paused := false, sending := if k.paused then k.resume position else k.sending }.kick := by
  simp only [StationLink.setHold, hst]
  rfl

/-- A link on which nothing is being sent has made no progress, and resumes nothing. -/
theorem StationLink.progress_of_none (hn : k.sending = none) (position : Nat) : k.progress position = none := by
  unfold StationLink.progress
  rw [hn]
  cases k.txQueue <;> rfl

theorem StationLink.resume_of_none (hn : k.sending = none) (position : Nat) : k.resume position = none := by
  unfold StationLink.resume
  rw [hn]
  cases k.txQueue <;> rfl

/-- The position a pause keeps (log entry 8). -/
theorem StationLink.progress_of_sending (hq : k.txQueue = f :: rest) (hn : k.sending = some n) (hle : n ≤ position)
    (hlt : position < f.characters.length) : k.progress position = some position := by
  simp only [StationLink.progress, hq, hn]
  congr 1
  omega

theorem StationLink.resume_of_empty (hq : k.txQueue = []) (position : Nat) : k.resume position = k.sending := by
  simp only [StationLink.resume, hq]

end transmitter

/-- Settles O40. -/
theorem noticesAndTransmitter : Obligations.NoticesAndTransmitter := by
  refine ⟨fun l s hrun hroom => ⟨fun h c hnotice hc hl hlow => ?_, fun hnone => ?_⟩, fun l s => ?_⟩
  · have hnotices : s.noticeFor l h = true := by
      simp only [State.noticeFor, hnotice, hc, hl, Bool.true_and, beq_self_eq_true]
    exact exec_finished_queues hrun hroom (sixInOrder_find_some hnotices hlow) hc
  · exact exec_finished_none (sixInOrder_find_none hnone)
  · intro k
    have hold : ∀ asserted position k', k.setHold asserted position = k' →
        exec (.holdInputChange l asserted position) s = .next { s with links := s.links.set l k' } := fun a p k' hk => by
      rw [← hk]; rfl
    have asserts : ∀ x : Option Nat, x = k.sending →
        ({ k with holdIn := true, paused := true, sending := x } : StationLink) = { k with holdIn := true, paused := true } :=
      fun x hx => by rw [hx]
    have released : ∀ x y : Option Nat, x = y → ({ k with holdIn := false, paused := false, sending := x } : StationLink) =
        { k with holdIn := false, paused := false, sending := y } := fun x y hxy => by rw [hxy]
    refine ⟨fun f rest n hrun hq hn hend => ?_, fun f rest n hq hn hp hnot => ?_, fun f rest n position hrun hp hq hn hle hlt => ?_,
      fun position hrun hn => ?_, fun position hrun hp hn => ?_, fun position hrun hp => ?_,
      fun f rest n position hrun hp hq hn => ?_, fun n position hrun hp hn => ?_, fun a position hst => ?_⟩
    · intro k'
      have hcan : (s.links.get l).frameCanEnd = true := (StationLink.frameCanEnd_iff hq hn).mpr ⟨hrun, hend⟩
      have hsent : (s.links.get l).frameSent = k' := StationLink.frameSent_eq hq
      simp only [exec, execTransmitFrameSent, hcan, if_true, State.modLink, PerSix.modify, hsent]
    · have hcan : ¬ (s.links.get l).frameCanEnd = true := by
        rw [StationLink.frameCanEnd_iff hq hn]
        rintro ⟨-, hpaused | hlast⟩
        · exact absurd (hp.symm.trans hpaused) (by decide)
        · exact hnot hlast
      simp only [exec, execTransmitFrameSent, if_neg hcan]
    · refine hold _ _ _ ?_
      rw [StationLink.setHold_asserted hrun, hp, StationLink.progress_of_sending hq hn hle hlt]
      rfl
    · refine hold _ _ _ ?_
      rw [StationLink.setHold_released hrun, StationLink.resume_of_none hn, hn, ite_self, StationLink.kick_eq]
      refine released _ _ ?_
      by_cases hq : k.txQueue = [] <;> simp [hq]
    · refine hold _ _ _ ((StationLink.setHold_asserted hrun position).trans (asserts _ ?_))
      rw [StationLink.progress_of_none hn, hn, ite_self]
    · refine hold _ _ _ ((StationLink.setHold_asserted hrun position).trans ?_)
      rw [hp]
      rfl
    · refine hold _ _ _ ?_
      rw [StationLink.setHold_released hrun, hp, StationLink.resume_of_sending hq hn, StationLink.kick_eq]
      exact released _ _ (if_neg fun hnone => nomatch hnone.1)
    · refine hold _ _ _ ?_
      have hkeep : (if k.paused = true then k.resume position else k.sending) = some n := by
        rcases hp with hp | hq
        · rw [hp, hn]; rfl
        · rw [StationLink.resume_of_empty hq, hn, ite_self]
      rw [StationLink.setHold_released hrun, hkeep, StationLink.kick_eq]
      exact released _ _ ((if_neg fun hnone => nomatch hnone.1).trans hn.symm)
    · exact hold _ _ _ (StationLink.setHold_halted hst ..)

end Sys2Proof.Machine
end

section
/-! PROOFS. A command frame lost, dropped, or refused by the first gate it fails (O41). -/

namespace Sys2Proof.Machine

/-! ## The gates (R165) -/

theorem CommandKind.writeRecipe_lengthOk (n : Nat) :
    CommandKind.writeRecipe.lengthOk n = true ↔ ∃ m, 1 ≤ m ∧ m ≤ 8 ∧ n = 20 + 13 * m := by
  simp only [CommandKind.lengthOk, Bool.and_eq_true, within_iff, beq_iff_eq]
  constructor
  · rintro ⟨⟨hlo, hhi⟩, hmod⟩
    exact ⟨(n - 20) / 13, by omega, by omega, by omega⟩
  · rintro ⟨m, hlo, hhi, rfl⟩
    omega

theorem CommandKind.loadReplay_lengthOk (n : Nat) :
    CommandKind.loadReplay.lengthOk n = true ↔ ∃ m, 1 ≤ m ∧ m ≤ 40 ∧ n = 3 + 3 * m := by
  simp only [CommandKind.lengthOk, Bool.and_eq_true, within_iff, beq_iff_eq]
  constructor
  · rintro ⟨⟨hlo, hhi⟩, hmod⟩
    exact ⟨(n - 3) / 3, by omega, by omega, by omega⟩
  · rintro ⟨m, hlo, hhi, rfl⟩
    omega

theorem CommandKind.inStarting_iff (k : CommandKind) : k.inStarting = true ↔ k = .status ∨ k = .setBudget := by
  cases k <;> simp [CommandKind.inStarting]

theorem CommandKind.gate_false (k : CommandKind) (m : Mode) :
    k.gate m = false ↔ (k = .writeSettings ∧ m ≠ .standby ∧ m ≠ .service) ∨ (k = .loadReplay ∧ m ≠ .service) := by
  cases k <;> simp [CommandKind.gate]

theorem gateFailure_format {k : CommandKind} {n : Nat} (m : Mode) (h : ¬k.lengthOk n = true) :
    gateFailure k n m = some (.format, k.code) := by
  simp [gateFailure, h]

theorem gateFailure_starting {k : CommandKind} {n : Nat} (h : k.lengthOk n = true) (hs : k.inStarting = false) :
    gateFailure k n .starting = some (.starting, 0) := by
  simp [gateFailure, h, hs]

theorem gateFailure_mode {k : CommandKind} {n : Nat} {m : Mode} (h : k.lengthOk n = true) (hm : m ≠ .starting)
    (hg : k.gate m = false) : gateFailure k n m = some (.mode, BitVec.ofNat 8 m.code) := by
  simp [gateFailure, h, hm, hg, modeDetail]

/-! ## Kinds that name no command (R165 test 1) -/

theorem CommandKind.mem_all (k : CommandKind) : k ∈ CommandKind.all := by cases k <;> decide

theorem commandOf_eq_none {kind : Byte} : commandOf kind = none ↔ ∀ k ∈ CommandKind.all, k.code ≠ kind := by
  simp [commandOf, List.find?_eq_none]

/-- A good frame to the strap address is never the index snoop's (R162). -/
theorem State.wholeFrame_strap {s : State} (h : s.takes) (kind : Byte) (p : List Byte) :
    s.wholeFrame s.line.strap.toNat kind p = (s.modLine LineLink.dropFrame).commandFrame kind p := by
  obtain ⟨htx, hspoiled, hstrap, hreply⟩ := h
  rw [State.wholeFrame_taken htx hspoiled]
  have hsnoop : ¬((s.modLine LineLink.dropFrame).snoopOn = true ∧
      s.line.strap.toNat = (s.modLine LineLink.dropFrame).store.settings.indexer) :=
    fun h => ((State.snoopOn_iff _).mp h.1).1 h.2.symm
  unfold State.routeFrame
  rw [if_neg hsnoop, if_pos ⟨hstrap, rfl⟩]

/-- Settles O41. -/
theorem framesAreTakenAndGated : Obligations.FramesAreTakenAndGated := by
  unfold Obligations.FramesAreTakenAndGated
  intro k p s n fits outside dropped
  have fits_iff : fits ↔ k.lengthOk p.length = true := by
    cases k
    case writeRecipe => exact (CommandKind.writeRecipe_lengthOk _).symm
    case loadReplay => exact (CommandKind.loadReplay_lengthOk _).symm
    all_goals exact beq_iff_eq.symm
  have lost (h : ¬s.takes) {t : State} (ht : (if s.line.txEnable then s
      else if s.line.spoiled then s.modLine LineLink.loseFrame else s.modLine LineLink.dropFrame) = t) :
      exec (k.instr p) s = .next t := by
    rw [exec_instr, State.supervisorFrame_not_taken s k _ p h, ht]
  refine ⟨fun htx => ?_, fun htx hspoiled => ?_, fun htx hspoiled hdrop => ?_, fun ht hno => ?_, fun ht hfit hm hstatus hbudget => ?_,
    fun ht hfit hout => ?_, fun kind hk ht => ?_⟩
  · exact lost (fun h => by simp [h.1] at htx) (by rw [htx]; rfl)
  · exact lost (fun h => by simp [h.2.1] at hspoiled) (by rw [htx, hspoiled]; rfl)
  · exact lost (fun h => hdrop.elim h.2.2.1 fun hr => hr h.2.2.2) (by rw [htx, hspoiled]; rfl)
  · exact exec_gated k p _ _ ht (gateFailure_format _ fun h => hno (fits_iff.mpr h))
  · have hs : k.inStarting = false :=
      Bool.eq_false_iff.mpr fun h => ((CommandKind.inStarting_iff k).mp h).elim hstatus hbudget
    exact exec_gated k p _ _ ht (hm ▸ gateFailure_starting (fits_iff.mp hfit) hs)
  · exact exec_gated k p _ _ ht.1 (gateFailure_mode (fits_iff.mp hfit) ht.2 ((CommandKind.gate_false k _).mpr hout))
  · rw [show exec (.unknownKind kind p) s = .next (s.wholeFrame s.line.strap.toNat kind p) from rfl,
      State.wholeFrame_strap ht, State.commandFrame_unknown (commandOf_eq_none.mpr hk) ht]

end Sys2Proof.Machine
end

section
/-! PROOFS. The reading commands: each answers with its items and changes nothing else (O42). -/

namespace Sys2Proof.Machine

/-- The members' items in number order (R179). -/
theorem PerSix.map_toList {α β : Type} (p : PerSix α) (f : α → β) : (p.map f).toList = sixInOrder.map fun i => f (p.get i) := rfl

theorem headOf_ofNat (h : HeadId) : headOf (byteAt [BitVec.ofNat 8 h.val] 0) = some h :=
  headOf_first (by
    have := h.isLt
    simp only [List.headD_cons, BitVec.toNat_ofNat]
    omega)

/-- A reading command: the items in the reply, and nothing else changed. -/
theorem exec_answered {s : State} {k : CommandKind} {p q : List Byte} (h : s.takes)
    (hgate : gateFailure k p.length s.sup.mode = none) (hperform : k.perform p s.owing = (s.owing, .success q)) :
    exec (k.instr p) s = .next (s.replies (k.code + 0x80) q) :=
  exec_success (t := s.owing) k p q h hgate hperform rfl

theorem gateFailure_started {s : State} (h : s.takesStarted) {k : CommandKind} {p : List Byte}
    (hlength : k.lengthOk p.length = true) (hgate : k.gate s.sup.mode = true) : gateFailure k p.length s.sup.mode = none :=
  gateFailure_none k _ _ hlength h.2 hgate

/-! ## The items in the order their rules list them -/

theorem gateFailure_status (m : Mode) : gateFailure .status 0 m = none := by cases m <;> rfl

theorem StationLink.fifoCount_eq (k : StationLink) :
    k.fifoCount = (k.closed.map List.length).sum + (k.opened.getD []).length := by
  unfold StationLink.fifoCount
  cases k.opened <;> rfl

/-! ## READ_TRACE (R152) -/

/-- READ_TRACE takes the longest run of whole records its room holds. -/
theorem takeRecords_longest (ws : List (List Word16)) (room : Nat) :
    ∃ m, takeRecords ws room = ((ws.take m).map recordBytes).flatten ∧ ((ws.take m).map fun w => 2 * w.length).sum ≤ room ∧
      ∀ w, ws[m]? = some w → room < ((ws.take m).map fun w => 2 * w.length).sum + 2 * w.length := by
  induction ws generalizing room with
  | nil => exact ⟨0, rfl, Nat.zero_le _, fun _ h => nomatch h⟩
  | cons w ws ih =>
    by_cases hfits : 2 * w.length ≤ room
    · obtain ⟨m, heq, hle, hnext⟩ := ih (room - 2 * w.length)
      refine ⟨m + 1, ?_, ?_, fun v hv => ?_⟩
      · simp only [takeRecords, if_pos hfits, heq, List.take_succ_cons, List.map_cons, List.flatten_cons]
      · simp only [List.take_succ_cons, List.map_cons, List.sum_cons]
        omega
      · have := hnext v hv
        simp only [List.take_succ_cons, List.map_cons, List.sum_cons]
        omega
    · refine ⟨0, by simp [takeRecords, hfits], Nat.zero_le _, fun v hv => ?_⟩
      obtain rfl : w = v := Option.some.inj hv
      simpa using hfits

/-- Settles O42. -/
theorem readingCommandsChangeNothing : Obligations.ReadingCommandsChangeNothing := by
  unfold Obligations.ReadingCommandsChangeNothing
  intro s one two four yes heads signed
  refine ⟨fun ht => ?status, fun ht h => ?head, fun ht b hb => ?noHead, fun ht position => ?codes, fun ht => ?settings,
    fun ht => ?info, fun ht b lo hi hb => ?noBuffer, fun i lo hi ht => ?records⟩
  case status =>
    intro st linkItems items
    have hitems : items = s.statusSupervision ++ s.store.statusItems ++ s.disp.statusItems ++ le8 (cabinetCode s.cabinet)
        ++ (s.links.map StationLink.statusItems).toList.flatten := by
      have hlink : linkItems = fun l => (s.links.get l).statusItems := by
        funext l
        simp only [StationLink.statusItems, StationLink.fifoCount_eq]
        rfl
      have hlisten : decide (s.line.strap = 0) = (s.line.strap == 0) := rfl
      simp only [items, hlink, hlisten, st, State.statusSupervision, Store.statusItems, Store.stateCode, Dispatcher.statusItems,
        PerSix.map_toList, List.append_assoc]
      rcases s.store.supervisor with _ | op <;> rcases s.store.lastError with _ | ⟨slot, kind⟩ <;> rfl
    refine ⟨?_, ?_⟩
    · rw [hitems]
      rcases herror : s.store.lastError with _ | ⟨slot, kind⟩
      all_goals
        simp only [State.statusSupervision, Store.statusItems, herror]
        rfl
    rw [hitems]
    exact exec_answered (k := .status) (p := []) ht (gateFailure_status _) rfl
  case head =>
    intro hd fe u f gr loop
    refine ⟨?_, ?_⟩
    · refine exec_answered (k := .readHead) (p := [BitVec.ofNat 8 h.val]) ht.1 (gateFailure_started ht rfl rfl) ?_
      simp only [CommandKind.perform, performReadHead, headOf_ofNat, Head.readItems, State.loopItems, Head.loopState,
        FrontEnd.readItems, DriveUnit.readItems, State.owing_heads, State.owing_disp, State.owing_drives, State.owing_sup,
        State.owing_fronts, State.owing_store, State.owing_fields, List.append_assoc, loop, hd, fe, u, f, gr]
      rcases (s.heads.get h).ctx with _ | c <;> rcases s.disp.request.get h with _ | e <;>
        rcases (s.drives.get h).output with p | on <;> rfl
    refine exec_answered (k := .readCal) (p := [BitVec.ofNat 8 h.val]) ht.1 (gateFailure_started ht rfl rfl) ?_
    simp only [CommandKind.perform, performReadCal, headOf_ofNat]
    rfl
  case noHead =>
    have hnone := headOf_first_none (p := [b]) hb
    refine ⟨exec_refused_unchanged (k := .readHead) (p := [b]) (r := .invalid) ht.1 (gateFailure_started ht rfl rfl) ?_,
      exec_refused_unchanged (k := .readCal) (p := [b]) (r := .invalid) ht.1 (gateFailure_started ht rfl rfl) ?_⟩
    · simp only [CommandKind.perform, performReadHead, hnone]
      rfl
    · simp only [CommandKind.perform, performReadCal, hnone]
      rfl
  case codes => exact exec_answered (k := .listCodes) (p := [position]) ht.1 (gateFailure_started ht rfl rfl) rfl
  case settings =>
    intro set
    refine exec_answered (k := .readSettings) (p := []) ht.1 (gateFailure_started ht rfl rfl) ?_
    simp only [CommandKind.perform, performReadSettings, Settings.bytes, PerSix.map_toList]
    rfl
  case info =>
    intro info held
    have hheld : held = fun h => le8 (reservationCode (s.trace.reservation.get h)) := by
      funext h
      simp only [held]
      rcases s.trace.reservation.get h with _ | ⟨_ | _, _⟩ <;> rfl
    refine exec_answered (k := .traceInfo) (p := []) ht.1 (gateFailure_started ht rfl rfl) ?_
    simp only [CommandKind.perform, performTraceInfo, PerSix.map_toList, hheld]
    rfl
  case noBuffer =>
    refine exec_refused_unchanged (k := .readTrace) (p := [b, lo, hi]) (r := .invalid) ht.1 (gateFailure_started ht rfl rfl) ?_
    simp only [CommandKind.perform, performReadTrace]
    rw [show bufferOf (byteAt [b, lo, hi] 0) = none from bufferOf_eq_none hb]
    rfl
  case records =>
    intro x first bytes
    have hbuffer : bufferOf (byteAt [BitVec.ofNat 8 i.code, lo, hi] 0) = some i := by cases i <;> rfl
    have hgate := gateFailure_started ht (k := .readTrace) (p := [BitVec.ofNat 8 i.code, lo, hi]) rfl rfl
    refine ⟨fun hle => ?_, fun hlt => ?_⟩
    · refine exec_refused_unchanged (k := .readTrace) (r := .noRecord) ht.1 hgate ?_
      simp only [CommandKind.perform, performReadTrace, hbuffer]
      exact if_pos hle
    · obtain ⟨m, heq, hfit, hnext⟩ := takeRecords_longest (x.records.drop first) 128
      refine ⟨m, ?_, hfit, hnext⟩
      rw [show ((x.records.drop first).take m).map bytes = ((x.records.drop first).take m).map recordBytes from rfl, ← heq]
      refine exec_answered (k := .readTrace) ht.1 hgate ?_
      simp only [CommandKind.perform, performReadTrace, hbuffer]
      exact if_neg (by exact Nat.not_le.mpr hlt)

end Sys2Proof.Machine
end

section
/-! PROOFS. The frames the HD6 sends: mark bit, check, kind, length, items and codes (O43). -/

namespace Sys2Proof.Machine

/-! ## A body and its check on the wire (R137, R161, R184) -/

theorem sum_with_check (body : List Byte) : ((body ++ [checkByte body]).map BitVec.toNat).sum % 256 = 0 := by
  have hcheck : (checkByte body).toNat = (256 - (byteSum body).toNat) % 256 := by
    simp [checkByte, BitVec.toNat_neg]
  rw [List.map_append, List.sum_append, List.map_singleton, List.sum_singleton, hcheck, byteSum_toNat]
  omega

theorem asCharacters_mark {bs : List Byte} (hbs : bs ≠ []) :
    (asCharacters bs).map (fun c => c.mark) = true :: List.replicate (bs.length - 1) false := by
  obtain ⟨b, rest, rfl⟩ := List.exists_cons_of_ne_nil hbs
  simp [asCharacters, Function.comp_def]

theorem asCharacters_framing (bs : List Byte) : ∀ c ∈ asCharacters bs, c.framing = false := by
  cases bs with
  | nil => exact fun _ hc => nomatch hc
  | cons b rest => simp [asCharacters]

/-- Settles O43. -/
theorem framesSentHaveTheirLayouts : Obligations.FramesSentHaveTheirLayouts := by
  unfold Obligations.FramesSentHaveTheirLayouts
  intro two four onWire
  have wire (body : List Byte) : onWire (asCharacters (body ++ [checkByte body])) (body ++ [checkByte body]) :=
    ⟨asCharacters_data _, asCharacters_mark (by simp), asCharacters_framing _, sum_with_check body⟩
  refine ⟨fun f => wire _, fun k f rest n hq hs => ?inProgress, fun head cycle => ⟨_, rfl⟩, fun head reason => ⟨_, rfl⟩,
    fun head st segment temperature grant cycle result reason => ⟨_, rfl⟩, fun head cycle result reason => ⟨_, rfl⟩,
    fun reason lead => ⟨_, rfl⟩, fun r => ⟨wire _, _, rfl⟩, fun v => wire _, fun p => ⟨_, rfl⟩, fun on => ?gate, ?codes⟩
  case inProgress =>
    unfold StationLink.characterInProgress
    rw [hq, hs]
  case gate => cases on <;> exact ⟨_, rfl⟩
  case codes =>
    refine ⟨rfl, rfl, rfl, rfl, rfl, rfl, rfl, rfl, rfl, rfl, rfl, rfl, rfl, fun l => rfl, rfl, rfl, rfl, rfl, rfl, rfl, rfl, rfl,
      rfl, rfl⟩

end Sys2Proof.Machine
end

section
/-! PROOFS. The field tests of WRITE_RECIPE, WRITE_CAL and WRITE_SETTINGS, bound by bound (O47). -/

namespace Sys2Proof.Machine

/-! ## Tests in checking order, their numbers rising -/

section rising
variable {tests : List (Nat × Bool)} {field : Nat → Prop}

/-- The first failing of tests whose numbers rise is the one whose field fails behind fields that all pass. -/
theorem firstFailing_of_rising {n : Nat} (hrise : (tests.map Prod.fst).Pairwise (· < ·))
    (hfield : ∀ t ∈ tests, t.2 = true ↔ field t.1) (hn : n ∈ tests.map Prod.fst)
    (hpass : ∀ m ∈ tests.map Prod.fst, m < n → field m) (hfail : ¬field n) : firstFailing tests = some n := by
  induction tests with
  | nil => exact nomatch hn
  | cons t rest ih =>
    obtain ⟨m, b⟩ := t
    rw [List.map_cons, List.pairwise_cons] at hrise
    have head : b = true ↔ field m := hfield (m, b) List.mem_cons_self
    rcases List.mem_cons.mp hn with rfl | hlater
    · exact firstFailing_fail (Bool.eq_false_iff.mpr fun hb => hfail (head.mp hb)) rest
    · rw [firstFailing_pass (head.mpr (hpass m List.mem_cons_self (hrise.1 n hlater)))]
      exact ih hrise.2 (fun t ht => hfield t (List.mem_cons_of_mem _ ht)) hlater
        fun k hk => hpass k (List.mem_cons_of_mem _ hk)

theorem firstFailing_of_pass (hfield : ∀ t ∈ tests, t.2 = true ↔ field t.1) (hpass : ∀ m ∈ tests.map Prod.fst, field m) :
    firstFailing tests = none := by
  simp only [firstFailing, Option.map_eq_none_iff, List.find?_eq_none]
  intro t ht
  simp [(hfield t ht).mpr (hpass t.1 (List.mem_map_of_mem ht))]

end rising

/-- Groups of tests, the first of which to fail is group `i`. -/
theorem firstFailing_groups_fail {count i n : Nat} {group : Nat → List (Nat × Bool)} (hi : i < count)
    (hpass : ∀ k, k < i → firstFailing (group k) = none) (hfail : firstFailing (group i) = some n) :
    firstFailing ((List.range count).map group).flatten = some n := by
  induction count generalizing i group with
  | zero => exact absurd hi (Nat.not_lt_zero i)
  | succ count ih =>
    rw [List.range_succ_eq_map, List.map_cons, List.flatten_cons, List.map_map]
    cases i with
    | zero => exact firstFailing_append_fail hfail _
    | succ i =>
      rw [firstFailing_append (hpass 0 (Nat.zero_lt_succ i))]
      exact ih (Nat.lt_of_succ_lt_succ hi) (fun k hk => hpass (k + 1) (Nat.succ_lt_succ hk)) hfail

theorem firstFailing_groups_pass {count : Nat} {group : Nat → List (Nat × Bool)}
    (hpass : ∀ k, k < count → firstFailing (group k) = none) : firstFailing ((List.range count).map group).flatten = none := by
  induction count generalizing group with
  | zero => rfl
  | succ count ih =>
    rw [List.range_succ_eq_map, List.map_cons, List.flatten_cons, List.map_map,
      firstFailing_append (hpass 0 (Nat.zero_lt_succ count))]
    exact ih fun k hk => hpass (k + 1) (Nat.succ_lt_succ hk)

/-! ## The numbers of the tests (Tables 1.3, 11.7, 11.8) -/

theorem headerTests_numbers (b : List Byte) (held : Nat) : (headerTests b held).map Prod.fst = [0, 1, 2, 3, 5, 6, 7, 8] := rfl

theorem segmentTests_numbers (b : List Byte) (count i : Nat) :
    (segmentTests b count i).map Prod.fst = (List.range 7).map (16 + 8 * i + ·) := rfl

theorem settingsTests_numbers (p : List Byte) : (settingsTests p).map Prod.fst = List.range 52 := rfl

theorem ownerOf_isSome (n : Nat) : (ownerOf n).isSome = true ↔ n ≤ 5 ∨ n = 255 := by
  unfold ownerOf
  split
  · simp; omega
  · split <;> simp <;> omega

/-- The first segment test to fail is numbered by its segment and its place in it. -/
theorem segmentTests_first {b : List Byte} {count i j : Nat} {field : Nat → Prop}
    (hfield : ∀ t ∈ segmentTests b count i, t.2 = true ↔ field (t.1 - (16 + 8 * i))) (hj : j ≤ 6)
    (hpass : ∀ m, m < j → field m) (hfail : ¬field j) : firstFailing (segmentTests b count i) = some (16 + 8 * i + j) := by
  refine firstFailing_of_rising (field := fun n => field (n - (16 + 8 * i))) ?_ hfield ?_ (fun m hm hlt => hpass _ ?_) ?_
  · rw [segmentTests_numbers, List.pairwise_map]
    exact List.pairwise_lt_range.imp fun h => Nat.add_lt_add_left h _
  · rw [segmentTests_numbers]
    exact List.mem_map_of_mem (List.mem_range.mpr (by omega))
  · rw [segmentTests_numbers] at hm
    obtain ⟨m', -, rfl⟩ := List.mem_map.mp hm
    omega
  · rwa [Nat.add_sub_cancel_left]

/-- Settles O47. -/
theorem fieldTestsNameTheFirstFailure : Obligations.FieldTestsNameTheFirstFailure := by
  unfold Obligations.FieldTestsNameTheFirstFailure
  refine ⟨fun slot b held hlen => ?recipe, fun b => ?calibration, fun p => ?settings⟩
  case recipe =>
    intro code count maxTemp cycleTime header segment total
    have hheader : ∀ t ∈ headerTests b held, t.2 = true ↔ header t.1 := by
      simp only [headerTests, List.forall_mem_cons, header]
      refine ⟨within_iff .., ?_, within_iff .., within_iff .., ?_, ?_, ?_, ?_, fun _ h => nomatch h⟩
      · simp [within_iff, bodyCount, count, and_assoc]
      · simp only [Bool.or_eq_true, beq_iff_eq, decide_eq_true_eq]
        tauto
      all_goals exact decide_eq_true_iff
    have hsegment (i : Nat) : ∀ t ∈ segmentTests b count i, t.2 = true ↔ segment i (t.1 - (16 + 8 * i)) := by
      simp only [segmentTests, List.forall_mem_cons, Nat.add_sub_cancel_left, Nat.sub_self, segment]
      refine ⟨?_, decide_eq_true_iff, within_iff .., ?_, decide_eq_true_iff, within_iff .., ?_, fun _ h => nomatch h⟩
      · show _ = true ↔ byteAt b (segmentAt i) ≤ 3 ∧ (byteAt b (segmentAt i) = 3 → i + 1 = count ∧ 2 ≤ count)
        simp only [Bool.and_eq_true, Bool.or_eq_true, Bool.not_eq_true', beq_eq_false_iff_ne, decide_eq_true_eq, beq_iff_eq]
        tauto
      · show _ = true ↔ if byteAt b (segmentAt i) = 3 then _ else _
        by_cases hold : byteAt b (segmentAt i) = 3
        · rw [if_pos hold, if_pos (beq_iff_eq.mpr hold)]
          exact beq_iff_eq
        · rw [if_neg hold, if_neg (mt beq_iff_eq.mp hold)]
          exact within_iff ..
      · simp only [Bool.or_eq_true, beq_iff_eq]
        exact or_iff_not_imp_left
    refine ⟨fun hslot => if_pos hslot, fun hslot => ?_⟩
    have hheld : recipeFailure slot b = firstFailing (recipeTests b held) := by
      have hentries : entriesHeld b.length = held := by
        simp only [entriesHeld, hlen, recipeHeaderBytes, segmentBytes]
        omega
      rw [recipeFailure, if_neg (Nat.not_lt.mpr hslot), hentries]
    rw [hheld, recipeTests, List.append_assoc]
    refine ⟨fun f hf hpass hfail => firstFailing_append_fail ?_ _, fun hpass => ?_⟩
    · have hnumber : f ∈ (headerTests b held).map Prod.fst := by
        have hfour : f ≠ 4 := fun h => hfail (h ▸ trivial)
        simp only [headerTests_numbers, List.mem_cons, List.not_mem_nil, or_false]
        omega
      exact firstFailing_of_rising (by rw [headerTests_numbers]; decide) hheader hnumber (fun m _ => hpass m) hfail
    · have hheaders : firstFailing (headerTests b held) = none :=
        firstFailing_of_pass hheader fun m hm => hpass m (by
          simp only [headerTests_numbers, List.mem_cons, List.not_mem_nil, or_false] at hm
          omega)
      have hpasses {i : Nat} (hall : ∀ j, j ≤ 6 → segment i j) : firstFailing (segmentTests b count i) = none :=
        firstFailing_of_pass (field := fun n => segment i (n - (16 + 8 * i))) (hsegment i) fun m hm => by
          rw [segmentTests_numbers] at hm
          obtain ⟨j, hj, rfl⟩ := List.mem_map.mp hm
          have hj := List.mem_range.mp hj
          exact hall _ (by omega)
      rw [firstFailing_append hheaders]
      refine ⟨fun i j hi hj hpass hfail => firstFailing_append_fail (firstFailing_groups_fail hi (fun k hk => ?_) ?_) _,
        fun hall => ?_⟩
      · exact hpasses fun m hm => hpass k m hm (.inl hk)
      · exact segmentTests_first (hsegment i) hj (fun m hm => hpass i m (by omega) (.inr ⟨rfl, hm⟩)) hfail
      · have hgroups : firstFailing ((List.range (bodyCount b)).map (segmentTests b (bodyCount b))).flatten = none :=
          firstFailing_groups_pass fun k hk => hpasses fun m hm => hall k m hk hm
        rw [firstFailing_append hgroups]
        exact ⟨fun hlong => firstFailing_fail (decide_eq_false (Nat.not_le.mpr hlong)) [],
          fun hfits => firstFailing_pass (decide_eq_true hfits) []⟩
  case calibration =>
    intro point offset
    have hpoint (k : Nat) : (decide (u16At b (2 * k) ≤ 12000) &&
        (k == 0 || decide (u16At b (2 * (k - 1)) ≤ u16At b (2 * k)))) = true ↔ point k := by
      simp only [Bool.and_eq_true, Bool.or_eq_true, beq_iff_eq, decide_eq_true_eq, point,
        Nat.one_le_iff_ne_zero, or_iff_not_imp_left, Ne]
    refine ⟨fun k hk hpass hfail => firstFailing_append_fail ?_ _, fun hpass => ?_⟩
    · exact firstFailing_range_fail (Nat.lt_succ_of_le hk) (Bool.eq_false_iff.mpr (mt (hpoint k).mp hfail))
        fun i hi => (hpoint i).mpr (hpass i hi)
    · rw [calibrationTests,
        firstFailing_append (firstFailing_range_pass fun k hk => (hpoint k).mpr (hpass k (Nat.le_of_lt_succ hk)))]
      have hoffset : (decide (-500 ≤ s16At b 34) && decide (s16At b 34 ≤ 500)) = true ↔ -500 ≤ offset ∧ offset ≤ 500 := by
        rw [Bool.and_eq_true, decide_eq_true_eq, decide_eq_true_eq]
        rfl
      refine ⟨fun hout => firstFailing_fail (Bool.eq_false_iff.mpr fun h => ?_) _,
        fun hlo hhi => firstFailing_pass (hoffset.mpr ⟨hlo, hhi⟩) _⟩
      have := hoffset.mp h
      omega
  case settings =>
    intro field
    have hfield : ∀ t ∈ settingsTests p, t.2 = true ↔ field t.1 := by
      have hhead (n : Nat) (hn : n < 6) : ∀ t ∈ headFieldTests p n, t.2 = true ↔ field t.1 := by
        have hdiv (j : Nat) (hj : j < 7) : (7 * n + j) / 7 = n := by omega
        have hmod (j : Nat) (hj : j < 7) : (7 * n + j) % 7 = j := by omega
        have hlow (j : Nat) (hj : j < 7) : 7 * n + j < 42 := by omega
        have hfirst : field (7 * n) = field (7 * n + 0) := rfl
        simp only [headFieldTests, List.forall_mem_cons, hfirst]
        simp only [field, hdiv, hmod, hlow, Nat.reduceLT, if_true]
        exact ⟨ownerOf_isSome _, decide_eq_true_iff, within_iff .., decide_eq_true_iff, within_iff .., within_iff ..,
          decide_eq_true_iff, fun _ h => nomatch h⟩
      have hglobal : ∀ t ∈ globalFieldTests p, t.2 = true ↔ field t.1 := by
        simp only [globalFieldTests, List.forall_mem_cons, field, Nat.reduceLT, if_false]
        refine ⟨decide_eq_true_iff, ?_, within_iff .., within_iff .., decide_eq_true_iff, within_iff ..,
          decide_eq_true_iff, decide_eq_true_iff, decide_eq_true_iff, within_iff .., fun _ h => nomatch h⟩
        simp
      intro t ht
      rcases List.mem_append.mp ht with hmem | hmem
      · obtain ⟨group, hgroup, ht⟩ := List.mem_flatten.mp hmem
        obtain ⟨n, hn, rfl⟩ := List.mem_map.mp hgroup
        exact hhead n (List.mem_range.mp hn) t ht
      · exact hglobal t hmem
    refine ⟨fun f hf hpass hfail => ?_, fun hpass => ?_⟩
    · refine firstFailing_of_rising ?_ hfield ?_ (fun m _ => hpass m) hfail
      · rw [settingsTests_numbers]
        exact List.pairwise_lt_range
      · rw [settingsTests_numbers]
        exact List.mem_range.mpr (by omega)
    · refine firstFailing_of_pass hfield fun m hm => hpass m ?_
      rw [settingsTests_numbers] at hm
      exact Nat.le_of_lt_succ (List.mem_range.mp hm)

end Sys2Proof.Machine
end

section
/-! PROOFS. The store's commands take the supervisor slot, or are refused in their order (O48). -/

namespace Sys2Proof.Machine

variable {s : State} {k : CommandKind} {p : List Byte} {op : SupervisorOp}

/-! ## The slot taken, and BUSY (R10, R11) -/

/-- The port is free: no operation on it and no lookup waiting (R10, R12). -/
def Store.portFree (st : Store) : Prop := st.port = .idle ∧ st.queue = []

/-- An operation in the supervisor slot, and on the port where that is free (R11). -/
def Store.holding (st : Store) (op : SupervisorOp) : Store :=
  if st.port = .idle ∧ st.queue = [] then { st with supervisor := some { op := op, started := true }, port := .supervisor }
  else { st with supervisor := some { op := op, started := false } }

/-- An operation that does not complete at its start is accepted (R11). -/
theorem State.acceptOp_holds (hstart : s.store.portFree → s.startSupervisor op = s.occupyPort op) :
    s.acceptOp op = { s with store := s.store.holding op } := by
  unfold State.acceptOp Store.holding
  split
  · next hfree => exact hstart hfree
  · rfl

theorem Store.holding_settings (st : Store) : (st.holding op).settings = st.settings := by
  unfold Store.holding
  split <;> rfl

/-- A command whose operation takes the slot: answered at once, some front ends changed with it (R11). -/
theorem exec_holds (fr : PerSix FrontEnd) (ht : s.takes) (hgate : gateFailure k p.length s.sup.mode = none)
    (hperform : k.perform p s.owing = ({ s.owing with fronts := fr }.acceptOp op, .success []))
    (hstart : s.store.portFree → { s.owing with fronts := fr }.startSupervisor op = { s.owing with fronts := fr }.occupyPort op) :
    exec (k.instr p) s = .next ({ s with store := s.store.holding op, fronts := fr }.replies (k.code + 0x80) []) := by
  have hline : (s.replies (k.code + 0x80) []).line =
      ({ s with store := s.store.holding op, fronts := fr }.replies (k.code + 0x80) []).line := by
    simp only [State.replies, State.turnaroundTimer, Store.holding_settings]
  rw [State.acceptOp_holds (s := { s.owing with fronts := fr }) hstart] at hperform
  rw [exec_success k p [] ht hgate hperform rfl, hline]
  rfl

theorem exec_busy (ht : s.takes) (hgate : gateFailure k p.length s.sup.mode = none)
    (hperform : k.perform p s.owing = s.owing.refuseBusy) :
    exec (k.instr p) s =
      .next ({ s with freeCount := s.freeCount + 1 }.replies 0xFF [5, Config.busyDetail s.freeCount]) :=
  exec_refused (t := s.owing.drawFree) k p .busy _ ht hgate hperform rfl

/-- While the slot is held the five commands that take it are BUSY before any other test (R11). -/
theorem perform_busy (hheld : s.store.supervisor.isSome = true)
    (hk : k = .writeRecipe ∨ k = .eraseRecipe ∨ k = .writeCal ∨ k = .readRecipe ∨ k = .writeSettings) :
    k.perform p s = s.refuseBusy := by
  rcases hk with rfl | rfl | rfl | rfl | rfl <;> exact if_pos hheld

/-- A free store is as one whose operation has completed leaves it. -/
theorem Store.settled_eq {st : Store} (hnone : st.supervisor = none) (hidle : st.port = .idle) :
    { st with supervisor := none, port := .idle } = st := by
  cases st
  cases hnone
  cases hidle
  rfl

theorem u16At_drop_one (p : List Byte) : u16At (p.drop 1) 0 = u16At p 1 := by
  cases p <;> rfl

/-! ## Each command with the slot free -/

section free
variable (hnone : s.store.supervisor = none)
include hnone

theorem performWriteRecipe_invalid {field : Nat} (hfail : recipeFailure (byteAt p 0) (p.drop 1) = some field) :
    performWriteRecipe p s = (s, invalid field) := by
  simp only [performWriteRecipe, hnone, Option.isSome_none, Bool.false_eq_true, if_false, hfail]

theorem performWriteRecipe_duplicate {other : Nat} (hpass : recipeFailure (byteAt p 0) (p.drop 1) = none)
    (hslot : s.store.slotOf (u16At p 1) = some other) (hother : other ≠ byteAt p 0) :
    performWriteRecipe p s = (s, .refused .duplicateCode (BitVec.ofNat 8 other)) := by
  simp only [performWriteRecipe, hnone, Option.isSome_none, Bool.false_eq_true, if_false, hpass, u16At_drop_one, hslot,
    if_neg hother]

theorem performWriteRecipe_accepted (hpass : recipeFailure (byteAt p 0) (p.drop 1) = none)
    (hslot : ∀ other, s.store.slotOf (u16At p 1) = some other → other = byteAt p 0) :
    performWriteRecipe p s = (s.acceptOp (.recipeWrite (byteAt p 0) (p.drop 1)), .success []) := by
  simp only [performWriteRecipe, hnone, Option.isSome_none, Bool.false_eq_true, if_false, hpass, u16At_drop_one]
  cases hcode : s.store.slotOf (u16At p 1) with
  | none => rfl
  | some other => exact if_pos (hslot other hcode)

theorem performEraseRecipe_eq :
    performEraseRecipe p s =
      if 47 < byteAt p 0 then (s, invalid 255) else (s.acceptOp (.recipeErase (byteAt p 0)), .success []) := by
  simp only [performEraseRecipe, hnone, Option.isSome_none, Bool.false_eq_true, if_false]

theorem performReadRecipe_eq :
    performReadRecipe p s =
      if 47 < byteAt p 0 then (s, invalid 255) else (s.acceptOp (.recipeRead (byteAt p 0)), .forming) := by
  simp only [performReadRecipe, hnone, Option.isSome_none, Bool.false_eq_true, if_false]

theorem performWriteCal_no_head (hh : 5 < byteAt p 0) : performWriteCal p s = (s, invalid 255) := by
  have hhead : headOf (byteAt p 0) = none := dif_neg (by omega)
  simp only [performWriteCal, hnone, Option.isSome_none, Bool.false_eq_true, if_false, hhead]

theorem performWriteSettings_active {h : HeadId} (hactive : s.lowestActive = some h) :
    performWriteSettings p s = (s, .refused .inUse (BitVec.ofNat 8 h.val)) := by
  simp only [performWriteSettings, hnone, Option.isSome_none, Bool.false_eq_true, if_false, hactive]

theorem performWriteSettings_invalid {field : Nat} (hidle : s.lowestActive = none)
    (hfail : firstFailing (settingsTests p) = some field) :
    performWriteSettings p s = (s, invalid field) := by
  simp only [performWriteSettings, hnone, Option.isSome_none, Bool.false_eq_true, if_false, hidle, hfail]

theorem performWriteSettings_accepted (hidle : s.lowestActive = none) (hpass : firstFailing (settingsTests p) = none) :
    performWriteSettings p s = (s.acceptOp (.settingsWrite p), .success []) := by
  simp only [performWriteSettings, hnone, Option.isSome_none, Bool.false_eq_true, if_false, hidle, hpass]

section calibration
variable {h : HeadId} (hh : byteAt p 0 = h.val)
include hh

theorem performWriteCal_active (hactive : s.isActive h = true) :
    performWriteCal p s = (s, .refused .inUse (BitVec.ofNat 8 h.val)) := by
  have hhead : headOf (byteAt p 0) = some h := by simp [headOf, hh]
  simp only [performWriteCal, hnone, Option.isSome_none, Bool.false_eq_true, if_false, hhead, hactive, if_true]

theorem performWriteCal_invalid {field : Nat} (hidle : s.isActive h = false)
    (hfail : firstFailing (calibrationTests (p.drop 1)) = some field) : performWriteCal p s = (s, invalid field) := by
  have hhead : headOf (byteAt p 0) = some h := by simp [headOf, hh]
  simp only [performWriteCal, hnone, Option.isSome_none, Bool.false_eq_true, if_false, hhead, hidle, hfail]

theorem performWriteCal_accepted (hidle : s.isActive h = false) (hpass : firstFailing (calibrationTests (p.drop 1)) = none) :
    performWriteCal p s =
      ((s.modFront h fun fe => { fe with calValid := false }).acceptOp (.calibrationWrite h (p.drop 1)), .success []) := by
  have hhead : headOf (byteAt p 0) = some h := by simp [headOf, hh]
  simp only [performWriteCal, hnone, Option.isSome_none, Bool.false_eq_true, if_false, hhead, hidle, hpass]

end calibration

end free

/-- Settles O48. -/
theorem storeCommandsTakeTheSupervisorSlot : Obligations.StoreCommandsTakeTheSupervisorSlot := by
  unfold Obligations.StoreCommandsTakeTheSupervisorSlot
  intro s p ht free holding slot status
  refine ⟨fun hheld k hk hlength => ?busy, fun hnone => ⟨fun hlength => ?writeRecipe, fun hlength hslot => ?badSlot,
    fun hlength hslot => ?recipeSlot, fun hlength => ?writeCal, fun hlength hmode => ?writeSettings⟩⟩
  case busy =>
    have hgate : k.gate s.sup.mode = true := by
      rcases hk with rfl | rfl | rfl | rfl | ⟨-, hgate⟩
      exacts [rfl, rfl, rfl, rfl, hgate]
    refine exec_busy ht.1 (gateFailure_started ht hlength hgate) (perform_busy (Option.isSome_iff_ne_none.mpr hheld) ?_)
    exact hk.imp_right (Or.imp_right (Or.imp_right (Or.imp_right And.left)))
  case writeRecipe =>
    have hgate := gateFailure_started ht (k := .writeRecipe) hlength rfl
    refine ⟨fun field hfail => ?_, fun other hpass hcode hother => ?_, fun hpass hcode => ?_⟩
    · exact exec_refused_unchanged (k := .writeRecipe) (r := .invalid) ht.1 hgate
        (performWriteRecipe_invalid (s := s.owing) hnone hfail)
    · exact exec_refused_unchanged (k := .writeRecipe) (r := .duplicateCode) ht.1 hgate
        (performWriteRecipe_duplicate (s := s.owing) hnone hpass hcode hother)
    · exact exec_holds s.fronts (k := .writeRecipe) ht.1 hgate
        (performWriteRecipe_accepted (s := s.owing) hnone hpass hcode) fun _ => rfl
  case badSlot =>
    have hone : p.length = 1 := hlength
    refine ⟨exec_refused_unchanged (k := .eraseRecipe) (r := .invalid) ht.1 (gateFailure_started ht (beq_iff_eq.mpr hone) rfl) ?_,
      exec_refused_unchanged (k := .readRecipe) (r := .invalid) ht.1 (gateFailure_started ht (beq_iff_eq.mpr hone) rfl) ?_⟩
    · exact (performEraseRecipe_eq (s := s.owing) hnone).trans (if_pos hslot)
    · exact (performReadRecipe_eq (s := s.owing) hnone).trans (if_pos hslot)
  case recipeSlot =>
    have herase := gateFailure_started ht (k := .eraseRecipe) (p := p) (beq_iff_eq.mpr hlength) rfl
    have hread := gateFailure_started ht (k := .readRecipe) (p := p) (beq_iff_eq.mpr hlength) rfl
    have hperformErase : performEraseRecipe p s.owing = (s.owing.acceptOp (.recipeErase slot), .success []) :=
      (performEraseRecipe_eq (s := s.owing) hnone).trans (if_neg (Nat.not_lt.mpr hslot))
    have hperformRead : performReadRecipe p s.owing = (s.owing.acceptOp (.recipeRead slot), .forming) :=
      (performReadRecipe_eq (s := s.owing) hnone).trans (if_neg (Nat.not_lt.mpr hslot))
    have hanswer (hfree : free) (hstatus : status ≠ .valid) {r : LineReply} (hr : (if status = .empty
        then { kind := 0x90, payload := [BitVec.ofNat 8 slot, 0, 0, 0] }
        else { kind := 0xFF, payload := [9, BitVec.ofNat 8 slot] }) = r) :
        exec (.readRecipe p) s = .next (s.replies r.kind r.payload) := by
      have hstart : s.owing.acceptOp (.recipeRead slot) = _ :=
        (if_pos hfree).trans (State.startSupervisor_read (s := s.owing) hstatus rfl)
      exact (exec_forming .readRecipe p ht.1 hread (hperformRead.trans (Prod.ext hstart rfl))).trans
        (congrArg₂ (fun st r => Host.Outcome.next { s.owing with store := st, line := s.owing.line.form r })
          (Store.settled_eq hnone hfree.1) hr)
    refine ⟨fun hholds => ?_, fun hfree hempty => ?_, fun hfree hempty => ?_, fun hfree hdamaged => ?_, fun hholds => ?_⟩
    · exact exec_holds s.fronts (k := .eraseRecipe) ht.1 herase hperformErase fun hfree =>
        if_neg (hholds.resolve_left (not_not_intro hfree))
    · have hstart : s.owing.acceptOp (.recipeErase slot) = _ :=
        (if_pos hfree).trans (State.startSupervisor_erase (s := s.owing) hempty)
      have hsettled := Store.settled_eq (st := { s.store with lastOpKind := some .recipeErase, lastOpResult := some .ok }) hnone
        hfree.1
      exact (exec_success .eraseRecipe p [] ht.1 herase (hperformErase.trans (Prod.ext hstart rfl)) rfl).trans
        (congrArg (fun st => Host.Outcome.next ({ s with store := st }.replies 0x99 [])) hsettled)
    · exact hanswer hfree (by rw [hempty]; decide) (if_pos hempty)
    · exact hanswer hfree (by rw [hdamaged]; decide) (if_neg (by rw [hdamaged]; decide))
    · have hheld := State.acceptOp_holds (s := s.owing) (op := .recipeRead slot) fun hfree =>
        State.startSupervisor_occupies (fun _ h => nomatch h) fun _ h => SupervisorOp.recipeRead.inj h ▸
          hholds.resolve_left (not_not_intro hfree)
      rw [hheld] at hperformRead
      exact exec_forming .readRecipe p ht.1 hread hperformRead
  case writeCal =>
    have hgate := gateFailure_started ht (k := .writeCal) (p := p) (beq_iff_eq.mpr hlength) rfl
    refine ⟨fun hslot => ?_, fun h hh => ⟨fun hactive => ?_, fun field hidle hfail => ?_, fun hidle hpass => ?_⟩⟩
    · exact exec_refused_unchanged (k := .writeCal) (r := .invalid) ht.1 hgate (performWriteCal_no_head (s := s.owing) hnone hslot)
    · exact exec_refused_unchanged (k := .writeCal) (r := .inUse) ht.1 hgate
        (performWriteCal_active (s := s.owing) hnone hh hactive)
    · exact exec_refused_unchanged (k := .writeCal) (r := .invalid) ht.1 hgate
        (performWriteCal_invalid (s := s.owing) hnone hh hidle hfail)
    · exact exec_holds (s.fronts.set h { s.fronts.get h with calValid := false }) (k := .writeCal) ht.1 hgate
        (performWriteCal_accepted (s := s.owing) hnone hh hidle hpass) fun _ => rfl
  case writeSettings =>
    have hgate : gateFailure .writeSettings p.length s.sup.mode = none := by
      refine gateFailure_started ht (beq_iff_eq.mpr hlength) ?_
      rcases hmode with hmode | hmode <;> rw [hmode] <;> rfl
    refine ⟨fun h hactive hlow => ?_, fun field hidle hfail => ?_, fun hidle hpass => ?_⟩
    · exact exec_refused_unchanged (k := .writeSettings) (r := .inUse) ht.1 hgate
        (performWriteSettings_active (s := s.owing) hnone (sixInOrder_find_some hactive hlow))
    · exact exec_refused_unchanged (k := .writeSettings) (r := .invalid) ht.1 hgate
        (performWriteSettings_invalid (s := s.owing) hnone (sixInOrder_find_none hidle) hfail)
    · exact exec_holds s.fronts (k := .writeSettings) ht.1 hgate
        (performWriteSettings_accepted (s := s.owing) hnone (sixInOrder_find_none hidle) hpass) fun _ => rfl

end Sys2Proof.Machine
end

section
/-! PROOFS. The timers of the line, the end of a reply, and single characters at the receivers (O50). -/

namespace Sys2Proof.Machine

variable {s : State}

/-! ## A character on the line (R159, R161, R17) -/

theorem exec_lineCharacter_lost {c : LineCharacter} (h : s.line.hears c = false) : exec (.lineCharacter c) s = .next s := by
  simp only [exec, execLineCharacter, h, Bool.false_eq_true, if_false]

theorem exec_lineCharacter_heard (htx : s.line.txEnable = false) (c : Character) :
    exec (.lineCharacter (heard c)) s = .next (s.lineCharacter c) := by
  simp only [exec, execLineCharacter, LineLink.hears_heard, htx, Bool.not_false, if_true]
  rfl

/-- The character that new settings came into force during has a framing error (R17). -/
theorem State.lineCharacter_spoiled (hspoiled : s.line.spoiled = true) (c : Character) :
    s.lineCharacter c = s.modLine LineLink.loseFrame := by
  simp only [State.lineCharacter, State.takeLineCharacter, taken, hspoiled, Bool.or_true, if_true]
  rfl

theorem State.unspoiled_eq (hspoiled : s.line.spoiled = false) : (s.modLine fun k => { k with spoiled := false }) = s := by
  unfold State.modLine
  rw [← hspoiled]

theorem State.lineCharacter_clean (hspoiled : s.line.spoiled = false) (c : Character) :
    s.lineCharacter c = s.takeLineCharacter c := by
  have htaken : taken c false = c := by simp only [taken, Bool.or_false]
  rw [State.lineCharacter, State.unspoiled_eq hspoiled, hspoiled, htaken]

theorem State.takeLineCharacter_outside (hrx : s.line.rx = none) (b : Byte) :
    s.takeLineCharacter { data := b, mark := false, framing := false } = s := by
  simp only [State.takeLineCharacter, Bool.false_eq_true, if_false, hrx]

/-- The characters that the line takes, one by one. -/
theorem exec_lineCharacter_clean (htx : s.line.txEnable = false) (hspoiled : s.line.spoiled = false) (c : Character) :
    exec (.lineCharacter (heard c)) s = .next (s.takeLineCharacter c) := by
  rw [exec_lineCharacter_heard htx, State.lineCharacter_clean hspoiled]

/-! ## The line's timers and the end of a reply (R161, R163) -/

theorem exec_turnaroundExpiry (hrun : s.line.turnaround ≠ none) :
    exec .turnaroundExpiry s = .next (s.modLine LineLink.turnaroundUp) := by
  obtain ⟨t, ht⟩ := Option.ne_none_iff_exists'.mp hrun
  simp only [exec, execTurnaroundExpiry, ht]

theorem LineLink.turnaroundUp_waiting {k : LineLink} (hk : k.reply = .waiting) :
    k.turnaroundUp = { k with turnaround := none, reply := .sending, txEnable := true, spoiled := false } := if_pos hk

theorem LineLink.turnaroundUp_forming {k : LineLink} (hk : k.reply = .forming) :
    k.turnaroundUp = { k with turnaround := none } := if_neg (by rw [hk]; decide)

theorem exec_frameTimerExpiry (hrun : s.line.frameTimer ≠ none) :
    exec .frameTimerExpiry s = .next (s.modLine LineLink.dropFrame) := by
  obtain ⟨t, ht⟩ := Option.ne_none_iff_exists'.mp hrun
  simp only [exec, execFrameTimerExpiry, ht]

/-! ## Sensor and drive inputs (R184) -/

theorem exec_sensorCharacter_lead {c : Character} (hc : c.mark = true) (h : HeadId) :
    exec (.sensorCharacter h c) s = .next (s.modFront h fun fe => { fe with rx := some [c] }) := if_pos hc

theorem exec_sensorCharacter_outside {c : Character} {h : HeadId} (hc : c.mark = false) (hrx : (s.fronts.get h).rx = none) :
    exec (.sensorCharacter h c) s = .next s := by
  simp only [exec, execSensorCharacter, hc, Bool.false_eq_true, if_false, hrx]

theorem exec_driveStatusCharacter_lead {c : Character} (hc : c.mark = true) (h : HeadId) :
    exec (.driveStatusCharacter h c) s = .next (s.modDrive h fun u => { u with rx := some [c] }) := if_pos hc

theorem exec_driveStatusCharacter_outside {c : Character} {h : HeadId} (hc : c.mark = false)
    (hrx : (s.drives.get h).rx = none) : exec (.driveStatusCharacter h c) s = .next s := by
  simp only [exec, execDriveStatusCharacter, hc, Bool.false_eq_true, if_false, hrx]

/-- Settles O50. -/
theorem receiversAndLineTimers : Obligations.ReceiversAndLineTimers := by
  refine ⟨fun s => ⟨exec_frameTimerExpiry, fun hrun hw => ?_, fun hrun hf => ?_, fun r hr => ?_, fun hr => if_pos hr,
    fun hr => if_neg hr⟩, fun h b s => ⟨fun c htx => ?_, fun c => ?_, fun c htx hsp => ?_, fun htx hsp => ?_, fun m htx hsp => ?_,
    fun htx hsp hrx => ?_, fun c hc => ⟨exec_sensorCharacter_lead hc h, exec_driveStatusCharacter_lead hc h⟩,
    fun c hc => ⟨exec_sensorCharacter_outside hc, exec_driveStatusCharacter_outside hc⟩⟩⟩
  · rw [exec_turnaroundExpiry hrun, State.modLine, LineLink.turnaroundUp_waiting hw]
  · rw [exec_turnaroundExpiry hrun, State.modLine, LineLink.turnaroundUp_forming hf]
  · simp only [LineLink.form, hr]
    rfl
  · exact exec_lineCharacter_lost (by simp [LineLink.hears, htx])
  · exact exec_lineCharacter_lost (LineLink.hears_started ..)
  · rw [exec_lineCharacter_heard htx, State.lineCharacter_spoiled hsp]
    rfl
  · rw [exec_lineCharacter_clean htx hsp]
    rfl
  · rw [exec_lineCharacter_clean htx hsp]
    rfl
  · rw [exec_lineCharacter_clean htx hsp, State.takeLineCharacter_outside hrx]

end Sys2Proof.Machine
end

section
/-! PROOFS. The characters of a frame do what the whole frame does, on the line and on the sensor and drive inputs (O51). -/

namespace Sys2Proof.Machine

variable {s t : State}

/-! ## Commands taken one after another -/

theorem runAll_cons {c : Instr} (h : exec c s = .next t) (cs : List Instr) : runAll (c :: cs) s = runAll cs t := by
  simp only [runAll, h]

theorem runAll_append {cs : List Instr} (h : runAll cs s = .next t) (ds : List Instr) : runAll (cs ++ ds) s = runAll ds t := by
  induction cs generalizing s with
  | nil => cases h; rfl
  | cons c cs ih =>
    cases hc : exec c s with
    | next u =>
      rw [List.cons_append, runAll_cons hc]
      rw [runAll_cons hc] at h
      exact ih h
    | fault r => simp only [runAll, hc] at h; cases h
    | refused r => simp only [runAll, hc] at h; cases h

theorem runAll_single (c : Instr) (s : State) : runAll [c] s = exec c s := by
  simp only [runAll]
  cases exec c s <;> rfl

/-! ## A frame on the line (R161) -/

/-- The characters of a frame from its second on, as commands. -/
def lineCommands (bs : List Byte) : List Instr :=
  bs.map fun b => .lineCharacter (heard { data := b, mark := false, framing := false })

/-- A frame in reception, its frame timer at its full length (R161). -/
def State.receiving (s : State) (cs : List Byte) : State :=
  s.modLine fun k => { k with rx := some cs, frameTimer := some (lineGapTimer s.store.settings) }

theorem asCharacters_commands (b : Byte) (bs : List Byte) :
    ((asCharacters (b :: bs)).map fun c => Instr.lineCharacter (heard c)) =
      .lineCharacter (heard { data := b, mark := true, framing := false }) :: lineCommands bs := by
  simp only [asCharacters, List.map_cons, List.map_map, lineCommands]
  rfl

theorem lineCommands_append (as bs : List Byte) : lineCommands (as ++ bs) = lineCommands as ++ lineCommands bs := List.map_append

/-- Characters outside a frame leave the line as it is (R161). -/
theorem runAll_outside (htx : s.line.txEnable = false) (hspoiled : s.line.spoiled = false) (hrx : s.line.rx = none)
    (bs : List Byte) : runAll (lineCommands bs) s = .next s := by
  induction bs with
  | nil => rfl
  | cons b bs ih =>
    have hfirst : exec (.lineCharacter (heard { data := b, mark := false, framing := false })) s = .next s := by
      rw [exec_lineCharacter_clean htx hspoiled, State.takeLineCharacter_outside hrx]
    exact (runAll_cons hfirst _).trans ih

/-- The characters behind a spoiled first one are outside a frame: the frame is lost (R17). -/
theorem runAll_spoiled (htx : s.line.txEnable = false) (hspoiled : s.line.spoiled = true) (b : Byte) (bs : List Byte) :
    runAll ((asCharacters (b :: bs)).map fun c => .lineCharacter (heard c)) s = .next (s.modLine LineLink.loseFrame) := by
  have hfirst : exec (.lineCharacter (heard { data := b, mark := true, framing := false })) s =
      .next (s.modLine LineLink.loseFrame) := by
    rw [exec_lineCharacter_heard htx, State.lineCharacter_spoiled hspoiled]
  rw [asCharacters_commands, runAll_cons hfirst]
  exact runAll_outside (s := s.modLine LineLink.loseFrame) htx rfl rfl bs

section clean
variable (htx : s.line.txEnable = false) (hspoiled : s.line.spoiled = false)
include htx hspoiled

/-- A character behind the first of a frame is stored (R161 case 3). -/
theorem exec_receiving (cs : List Byte) (b : Byte) :
    exec (.lineCharacter (heard { data := b, mark := false, framing := false })) (s.receiving cs) =
      .next ((s.receiving cs).storeLine (cs ++ [b])) :=
  exec_lineCharacter_clean (s := s.receiving cs) htx hspoiled _

/-- Characters that neither complete the frame nor make it bad. -/
theorem runAll_receives (cs bs : List Byte)
    (hopen : ∀ n, n < bs.length →
      lineLengthBad (cs ++ bs.take (n + 1)) = false ∧ lineFrameFull (cs ++ bs.take (n + 1)) = false) :
    runAll (lineCommands bs) (s.receiving cs) = .next (s.receiving (cs ++ bs)) := by
  induction bs generalizing cs with
  | nil => rw [List.append_nil]; rfl
  | cons b bs ih =>
    obtain ⟨hgood, hmore⟩ := hopen 0 (Nat.zero_lt_succ _)
    have hfirst : exec (.lineCharacter (heard { data := b, mark := false, framing := false })) (s.receiving cs) =
        .next (s.receiving (cs ++ [b])) := by
      rw [exec_receiving htx hspoiled]
      simp only [List.take_succ_cons, List.take_zero] at hgood hmore
      simp only [State.storeLine, hgood, hmore, Bool.false_eq_true, if_false]
      rfl
    rw [lineCommands, List.map_cons, runAll_cons hfirst, ← lineCommands, ih (cs ++ [b]), List.append_assoc, List.singleton_append]
    intro n hn
    have := hopen (n + 1) (Nat.succ_lt_succ hn)
    rwa [List.take_succ_cons, ← List.singleton_append, ← List.append_assoc] at this

theorem exec_address (b : Byte) :
    exec (.lineCharacter (heard { data := b, mark := true, framing := false })) s = .next (s.receiving [b]) :=
  exec_lineCharacter_clean htx hspoiled _

/-- A length character above 128 drops the frame, and what follows is outside one (R161). -/
theorem runAll_long {size : Byte} (hsize : 128 < size.toNat) (address kind : Byte) (p : List Byte) :
    runAll ((asCharacters ([address, kind, size] ++ p)).map fun c => .lineCharacter (heard c)) s =
      .next (s.modLine LineLink.dropFrame) := by
  have hkind := runAll_receives htx hspoiled [address] [kind] fun n hn => by
    obtain rfl : n = 0 := by simpa using hn
    exact ⟨rfl, rfl⟩
  have hbad : lineLengthBad [address, kind, size] = true := by simpa [lineLengthBad, byteAt] using hsize
  have hlength : exec (.lineCharacter (heard { data := size, mark := false, framing := false })) (s.receiving [address, kind]) =
      .next (s.modLine LineLink.dropFrame) := by
    rw [exec_receiving htx hspoiled]
    exact congrArg Host.Outcome.next (if_pos hbad)
  rw [List.cons_append, asCharacters_commands, runAll_cons (exec_address htx hspoiled address)]
  rw [show ([kind, size] ++ p) = [kind] ++ (size :: p) from rfl, lineCommands_append, runAll_append hkind]
  exact (runAll_cons hlength _).trans (runAll_outside (s := s.modLine LineLink.dropFrame) htx hspoiled rfl p)

/-- A frame of its full size completes with its last character (R161). -/
theorem runAll_complete {size : Byte} {p : List Byte} (hp : p.length = size.toNat) (hsize : size.toNat ≤ 128)
    (address kind check : Byte) :
    runAll ((asCharacters ([address, kind, size] ++ p ++ [check])).map fun c => .lineCharacter (heard c)) s =
      .next ((s.modLine LineLink.dropFrame).completeLine ([address, kind, size] ++ p ++ [check])) := by
  have hbody : runAll (lineCommands ([kind, size] ++ p)) (s.receiving [address]) =
      .next (s.receiving ([address, kind, size] ++ p)) := by
    refine runAll_receives htx hspoiled [address] ([kind, size] ++ p) fun n hn => ?_
    cases n with
    | zero => exact ⟨rfl, rfl⟩
    | succ n =>
      have hprefix : [address] ++ ([kind, size] ++ p).take (n + 1 + 1) = [address, kind, size] ++ p.take n := rfl
      rw [hprefix]
      simp only [List.length_append, List.length_cons, List.length_nil] at hn
      constructor
      · exact Bool.and_eq_false_iff.mpr (.inr (decide_eq_false (Nat.not_lt.mpr hsize)))
      · refine Bool.and_eq_false_iff.mpr (.inr (beq_eq_false_iff_ne.mpr ?_))
        simp only [List.length_append, List.length_cons, List.length_nil, List.length_take, byteAt, List.cons_append,
          List.getD_cons_succ, List.getD_cons_zero]
        omega
  have hgood : lineLengthBad ([address, kind, size] ++ p ++ [check]) = false := by
    simp [lineLengthBad]
  have hfull : lineFrameFull ([address, kind, size] ++ p ++ [check]) = true := by
    simp [lineFrameFull, byteAt, hp]
    omega
  have hlast : exec (.lineCharacter (heard { data := check, mark := false, framing := false }))
      (s.receiving ([address, kind, size] ++ p)) =
        .next ((s.modLine LineLink.dropFrame).completeLine ([address, kind, size] ++ p ++ [check])) := by
    rw [exec_receiving htx hspoiled, State.storeLine, hgood, hfull]
    rfl
  rw [show [address, kind, size] ++ p ++ [check] = address :: ([kind, size] ++ p ++ [check]) from rfl, asCharacters_commands,
    runAll_cons (exec_address htx hspoiled address), lineCommands_append, runAll_append hbody]
  exact runAll_cons hlast []

end clean

/-! ## The frame as a whole (R162) -/

theorem byteSum_with_check (body : List Byte) : byteSum (body ++ [checkByte body]) = 0 :=
  BitVec.eq_of_toNat_eq ((byteSum_toNat _).trans (sum_with_check body))

/-- The frame on the line, character by character, is the whole frame (log entry 4). -/
theorem runAll_lineFrame (htx : s.line.txEnable = false) {address : Nat} (haddress : address < 256) (kind : Byte) {p : List Byte}
    (hp : p.length ≤ 128) :
    runAll ((asCharacters (lineFrame address kind p)).map fun c => .lineCharacter (heard c)) s =
      .next (s.wholeFrame address kind p) := by
  cases hspoiled : s.line.spoiled with
  | true =>
    refine (runAll_spoiled htx hspoiled _ _).trans (congrArg Host.Outcome.next ?_)
    rw [State.wholeFrame, htx, hspoiled]
    rfl
  | false =>
    have hsize : (BitVec.ofNat 8 p.length).toNat = p.length := by
      rw [BitVec.toNat_ofNat]; omega
    refine (runAll_complete htx hspoiled hsize.symm (hsize.trans_le hp) (BitVec.ofNat 8 address) kind _).trans
      (congrArg Host.Outcome.next ?_)
    rw [State.wholeFrame_taken htx hspoiled, State.completeLine, if_pos (byteSum_with_check _)]
    have haddr : (BitVec.ofNat 8 address).toNat = address := by
      rw [BitVec.toNat_ofNat]; omega
    have hpayload : (p ++ [checkByte ([BitVec.ofNat 8 address, kind, BitVec.ofNat 8 p.length] ++ p)]).dropLast = p :=
      List.dropLast_concat
    exact congrArg₂ ((s.modLine LineLink.dropFrame).routeFrame · kind ·) haddr hpayload

/-- A frame routed nowhere (R162). -/
theorem State.routeFrame_nowhere {address : Nat} (hsnoop : ¬(s.snoopOn = true ∧ address = s.store.settings.indexer))
    (hstrap : ¬(s.line.strap ≠ 0 ∧ address = s.line.strap.toNat)) (kind : Byte) (p : List Byte) :
    s.routeFrame address kind p = s := by
  rw [State.routeFrame, if_neg hsnoop, if_neg hstrap]

/-- A frame the snoop takes no notice of (R175). -/
theorem State.snoop_ignored {kind : Byte} {p : List Byte} (h : kind ≠ 0x51 ∨ p.length ≠ 4) : s.snoop kind p = s :=
  if_neg fun hboth => h.elim (· hboth.1) (· hboth.2)

/-- A frame that is routed to nothing, or lost with its first character, leaves no frame in reception. -/
theorem State.wholeFrame_dropped (htx : s.line.txEnable = false) {address : Nat} {kind : Byte} {p : List Byte}
    (hroute : (s.modLine LineLink.dropFrame).routeFrame address kind p = s.modLine LineLink.dropFrame) :
    s.wholeFrame address kind p = s.modLine LineLink.loseFrame := by
  cases hspoiled : s.line.spoiled with
  | true =>
    rw [State.wholeFrame, htx, hspoiled]
    rfl
  | false =>
    rw [State.wholeFrame_taken htx hspoiled, hroute]
    exact (State.unspoiled_eq (s := s.modLine LineLink.dropFrame) hspoiled).symm

/-- A frame that is not routed at all: its check fails, or its length is out of range (R161). -/
theorem runAll_dropped (htx : s.line.txEnable = false) {address kind size : Byte} {p : List Byte}
    (hbad : 128 < size.toNat ∨ (p.length = size.toNat + 1 ∧ (([address, kind, size] ++ p).map BitVec.toNat).sum % 256 ≠ 0)) :
    runAll ((asCharacters ([address, kind, size] ++ p)).map fun c => .lineCharacter (heard c)) s =
      .next (s.modLine LineLink.loseFrame) := by
  cases hspoiled : s.line.spoiled with
  | true => exact runAll_spoiled htx hspoiled _ _
  | false =>
    have hlost : s.modLine LineLink.loseFrame = s.modLine LineLink.dropFrame :=
      State.unspoiled_eq (s := s.modLine LineLink.dropFrame) hspoiled
    rw [hlost]
    by_cases hsize : 128 < size.toNat
    · exact runAll_long htx hspoiled hsize address kind p
    · obtain ⟨hlength, hsum⟩ := hbad.resolve_left hsize
      obtain ⟨body, check, rfl⟩ : ∃ body check, p = body ++ [check] :=
        ⟨_, _, (List.dropLast_append_getLast (List.ne_nil_of_length_pos (by omega))).symm⟩
      have hbody : body.length = size.toNat := by simpa using hlength
      have hcheck : byteSum ([address, kind, size] ++ body ++ [check]) ≠ 0 := by
        rw [List.append_assoc]
        exact bne_iff_ne.mp ((byteSum_ne_zero_iff _).mpr hsum)
      rw [← List.append_assoc]
      refine (runAll_complete htx hspoiled hbody (Nat.le_of_not_lt hsize) address kind check).trans (congrArg Host.Outcome.next ?_)
      exact if_neg hcheck

/-! ## Sensor and drive inputs (R184) -/

section inputs
variable {h : HeadId} {c : Character} {cs : List Character}

theorem exec_sensorCharacter_stored (hc : c.mark = false) (hrx : (s.fronts.get h).rx = some cs) (hlength : cs.length < 3) :
    exec (.sensorCharacter h c) s = .next (s.modFront h fun fe => { fe with rx := some (cs ++ [c]) }) := by
  simp only [exec, execSensorCharacter, hc, Bool.false_eq_true, if_false, hrx, if_neg (show ¬4 ≤ cs.length + 1 by omega)]

theorem exec_sensorCharacter_last (hc : c.mark = false) (hrx : (s.fronts.get h).rx = some cs) (hlength : cs.length = 3) :
    exec (.sensorCharacter h c) s = exec (.sample h (sampleOf (cs ++ [c]))) s := by
  simp only [exec, execSensorCharacter, hc, Bool.false_eq_true, if_false, hrx, hlength, le_refl, if_true]
  rfl

theorem exec_driveStatusCharacter_stored (hc : c.mark = false) (hrx : (s.drives.get h).rx = some cs) (hlength : cs.length < 2) :
    exec (.driveStatusCharacter h c) s = .next (s.modDrive h fun u => { u with rx := some (cs ++ [c]) }) := by
  simp only [exec, execDriveStatusCharacter, hc, Bool.false_eq_true, if_false, hrx, if_neg (show ¬3 ≤ cs.length + 1 by omega)]

theorem exec_driveStatusCharacter_last (hc : c.mark = false) (hrx : (s.drives.get h).rx = some cs) (hlength : cs.length = 2) :
    exec (.driveStatusCharacter h c) s = exec (.driveStatus h (statusOf (cs ++ [c]))) s := by
  simp only [exec, execDriveStatusCharacter, hc, Bool.false_eq_true, if_false, hrx, hlength, le_refl, if_true]
  rfl

/-- The frame in reception is all that a sensor's characters have changed when its whole frame is taken. -/
theorem exec_sample_received (rx : Option (List Character)) (frame : SampleFrame) :
    exec (.sample h frame) (s.modFront h fun fe => { fe with rx := rx }) = exec (.sample h frame) s := by
  have hsame : ((s.modFront h fun fe => { fe with rx := rx }).modFront h fun fe => { fe with rx := none }) =
      s.modFront h fun fe => { fe with rx := none } := by
    simp only [State.modFront, PerSix.modify, PerSix.get_set_same, PerSix.set_set]
  simp only [exec, execSample, hsame]

theorem exec_driveStatus_received (rx : Option (List Character)) (frame : StatusFrame) :
    exec (.driveStatus h frame) (s.modDrive h fun u => { u with rx := rx }) = exec (.driveStatus h frame) s := by
  have hsame : ((s.modDrive h fun u => { u with rx := rx }).modDrive h fun u => { u with rx := none }) =
      s.modDrive h fun u => { u with rx := none } := by
    simp only [State.modDrive, PerSix.modify, PerSix.get_set_same, PerSix.set_set]
  simp only [exec, execDriveStatus, hsame]

/-- The four characters of a sample frame, one by one, hand on the frame they make up. -/
theorem runAll_sensorFrame {c0 c1 c2 c3 : Character} (h0 : c0.mark = true) (h1 : c1.mark = false) (h2 : c2.mark = false)
    (h3 : c3.mark = false) :
    runAll ([c0, c1, c2, c3].map (.sensorCharacter h)) s = exec (.sample h (sampleOf [c0, c1, c2, c3])) s := by
  rw [List.map_cons, runAll_cons (exec_sensorCharacter_lead h0 h), List.map_cons,
    runAll_cons (exec_sensorCharacter_stored h1 (congrArg FrontEnd.rx (State.modFront_fronts_same ..)) (by simp)), List.map_cons,
    runAll_cons (exec_sensorCharacter_stored h2 (congrArg FrontEnd.rx (State.modFront_fronts_same ..)) (by simp)),
    List.map_singleton, runAll_single, exec_sensorCharacter_last h3 (congrArg FrontEnd.rx (State.modFront_fronts_same ..)) rfl,
    exec_sample_received, exec_sample_received, exec_sample_received]
  rfl

theorem runAll_driveFrame {c0 c1 c2 : Character} (h0 : c0.mark = true) (h1 : c1.mark = false) (h2 : c2.mark = false) :
    runAll ([c0, c1, c2].map (.driveStatusCharacter h)) s = exec (.driveStatus h (statusOf [c0, c1, c2])) s := by
  rw [List.map_cons, runAll_cons (exec_driveStatusCharacter_lead h0 h), List.map_cons,
    runAll_cons (exec_driveStatusCharacter_stored h1 (congrArg DriveUnit.rx (State.modDrive_drives_same ..)) (by simp)),
    List.map_singleton, runAll_single,
    exec_driveStatusCharacter_last h2 (congrArg DriveUnit.rx (State.modDrive_drives_same ..)) rfl,
    exec_driveStatus_received, exec_driveStatus_received]
  rfl

/-- A frame with no framing error and a good check (7.3, R184). -/
theorem clean_iff (cs : List Character) : (cs.any (·.framing) || byteSum (cs.map (·.data)) != 0) = false ↔
    (∀ c ∈ cs, c.framing = false) ∧ (cs.map fun c => c.data.toNat).sum % 256 = 0 := by
  rw [Bool.or_eq_false_iff, List.any_eq_false, Bool.eq_false_iff, Ne, byteSum_ne_zero_iff, not_not, List.map_map]
  simp only [Bool.not_eq_true, Function.comp_def]

theorem word_of_bytes (lead lo hi check : Byte) : BitVec.ofNat 16 (u16At [lead, lo, hi, check] 1) = hi ++ lo := by
  refine BitVec.eq_of_toNat_eq ?_
  rw [BitVec.toNat_append, ← Nat.shiftLeft_add_eq_or_of_lt lo.isLt, Nat.shiftLeft_eq, BitVec.toNat_ofNat]
  have := lo.isLt
  have := hi.isLt
  simp only [u16At, byteAt, List.getD_cons_succ, List.getD_cons_zero]
  omega

end inputs

/-! ### What a frame's characters say (Table 11.10) -/

theorem sampleStatusOf_eq_none {n : Nat} (h : 3 < n) : sampleStatusOf n = none := by
  unfold sampleStatusOf
  split
  iterate 4 omega
  rfl

theorem driveStatusCodeOf_eq_none {n : Nat} (h : 2 < n) : driveStatusCodeOf n = none := by
  unfold driveStatusCodeOf
  split
  iterate 3 omega
  rfl

theorem sampleOf_dirty {cs : List Character}
    (hcs : ¬((∀ c ∈ cs, c.framing = false) ∧ (cs.map fun c => c.data.toNat).sum % 256 = 0)) :
    sampleOf cs = .bad := if_pos (Bool.not_eq_false _ ▸ mt (clean_iff cs).mp hcs)

/-- The lead of a clean sample frame gives its status (Table 11.10). -/
theorem sampleOf_clean {c0 c1 c2 c3 : Character}
    (hcs : (∀ c ∈ [c0, c1, c2, c3], c.framing = false) ∧ ([c0, c1, c2, c3].map fun c => c.data.toNat).sum % 256 = 0) :
    sampleOf [c0, c1, c2, c3] =
      if c0.data = 0x50 then .good .ok (c2.data ++ c1.data) else if c0.data = 0x51 then .good .low (c2.data ++ c1.data)
      else if c0.data = 0x52 then .good .high (c2.data ++ c1.data) else if c0.data = 0x53 then .good .weak (c2.data ++ c1.data)
      else .bad := by
  have hword : BitVec.ofNat 16 (u16At ([c0, c1, c2, c3].map (·.data)) 1) = c2.data ++ c1.data := word_of_bytes ..
  have hlead : byteAt ([c0, c1, c2, c3].map (·.data)) 0 = c0.data.toNat := rfl
  unfold sampleOf
  simp only [(clean_iff _).mpr hcs, Bool.false_eq_true, if_false, hword, hlead]
  generalize c0.data = lead
  by_cases h0 : lead = 0x50
  · subst h0; rfl
  by_cases h1 : lead = 0x51
  · subst h1; rfl
  by_cases h2 : lead = 0x52
  · subst h2; rfl
  by_cases h3 : lead = 0x53
  · subst h3; rfl
  rw [if_neg h0, if_neg h1, if_neg h2, if_neg h3]
  by_cases hlow : 0x50 ≤ lead.toNat
  · have hnone : sampleStatusOf (lead.toNat - 0x50) = none := sampleStatusOf_eq_none (by bv_omega)
    rw [hnone]
  · rw [decide_eq_false hlow]
    cases sampleStatusOf (lead.toNat - 0x50) <;> rfl

theorem statusOf_dirty {cs : List Character} (hcs : ¬(byteAt (cs.map (·.data)) 0 = 0x70 ∧ (∀ c ∈ cs, c.framing = false) ∧
    (cs.map fun c => c.data.toNat).sum % 256 = 0)) : statusOf cs = .bad := by
  refine if_pos (Bool.not_eq_false _ ▸ fun h => hcs ?_)
  obtain ⟨hclean, hlead⟩ := Bool.or_eq_false_iff.mp h
  exact ⟨bne_eq_false_iff_eq.mp hlead, (clean_iff cs).mp hclean⟩

/-- The middle character of a clean drive status frame gives the status (Table 11.10). -/
theorem statusOf_clean {c0 c1 c2 : Character} (hlead : c0.data = 0x70)
    (hcs : (∀ c ∈ [c0, c1, c2], c.framing = false) ∧ ([c0, c1, c2].map fun c => c.data.toNat).sum % 256 = 0) :
    statusOf [c0, c1, c2] =
      if c1.data = 0 then .good .ready else if c1.data = 1 then .good .notReady else if c1.data = 2 then .good .tripped
      else .bad := by
  have hfirst : (byteAt ([c0, c1, c2].map (·.data)) 0 != 0x70) = false :=
    bne_eq_false_iff_eq.mpr (congrArg BitVec.toNat hlead)
  have hstatus : byteAt ([c0, c1, c2].map (·.data)) 1 = c1.data.toNat := rfl
  unfold statusOf
  simp only [(clean_iff _).mpr hcs, hfirst, Bool.or_false, Bool.false_eq_true, if_false, hstatus]
  generalize c1.data = status
  by_cases h0 : status = 0
  · subst h0; rfl
  by_cases h1 : status = 1
  · subst h1; rfl
  by_cases h2 : status = 2
  · subst h2; rfl
  have hnone : driveStatusCodeOf status.toNat = none := driveStatusCodeOf_eq_none (by bv_omega)
  rw [hnone, if_neg h0, if_neg h1, if_neg h2]

/-- Settles O51. -/
theorem charactersMakeUpTheirFrame : Obligations.CharactersMakeUpTheirFrame := by
  refine ⟨fun address kind p s ha hp htx => runAll_lineFrame htx ha kind hp, fun address kind size p s htx => runAll_dropped htx,
    fun address kind p s ha hp htx => ?routed, fun kind p s => rfl, fun k p s hstrap => ?_,
    fun h lead lo hi check f0 f1 f2 f3 s => ?sensor,
    fun h lead status check f0 f1 f2 s => ?drive⟩
  case routed =>
    intro snooped commanded dropped arrives
    have harrives : arrives = .next (s.wholeFrame address kind p) := runAll_lineFrame htx ha kind hp
    have hsnooped : (s.modLine LineLink.dropFrame).snoopOn = true ∧
        address = (s.modLine LineLink.dropFrame).store.settings.indexer ↔ snooped := by
      rw [State.snoopOn_iff]
      exact ⟨fun ⟨⟨hother, hmode⟩, hindexer⟩ => ⟨hindexer, hindexer ▸ hother, hmode⟩,
        fun ⟨hindexer, hother, hmode⟩ => ⟨⟨hindexer ▸ hother, hmode⟩, hindexer⟩⟩
    refine ⟨fun hsnoop hcommand => ?_, fun hsnoop hkind => ?_, fun serial hsnoop hkind hserial => ?_⟩
    · rw [harrives, State.wholeFrame_dropped htx
        (State.routeFrame_nowhere (mt hsnooped.mp hsnoop) (fun h => hcommand ⟨h.2, h.1⟩) kind p)]
      rfl
    · rw [harrives, State.wholeFrame_dropped htx ((if_pos (hsnooped.mpr hsnoop)).trans (State.snoop_ignored hkind))]
      rfl
    · rw [harrives, hkind, hserial, hsnoop.1]
      rfl
  case sensor =>
    intro cs clean good
    refine (runAll_sensorFrame rfl rfl rfl rfl).trans (congrArg (fun frame => exec (.sample h frame) s) ?_)
    by_cases hclean : clean
    · have hgood : good = fun status => .good status (hi ++ lo) := funext fun _ => if_pos hclean
      rw [hgood]
      exact sampleOf_clean hclean
    · have hgood : good = fun _ => .bad := funext fun _ => if_neg hclean
      rw [hgood, ite_self, ite_self, ite_self, ite_self]
      exact sampleOf_dirty hclean
  case drive =>
    intro cs clean good
    refine (runAll_driveFrame rfl rfl rfl).trans (congrArg (fun frame => exec (.driveStatus h frame) s) ?_)
    by_cases hclean : clean
    · have hgood : good = .good := funext fun _ => if_pos hclean
      rw [hgood]
      exact statusOf_clean hclean.1 hclean.2
    · have hgood : good = fun _ => .bad := funext fun _ => if_neg hclean
      rw [hgood, ite_self, ite_self, ite_self]
      exact statusOf_dirty fun h => hclean ⟨BitVec.eq_of_toNat_eq h.1, h.2⟩
  · rw [exec_instr, wholeFrame_command s k p hstrap]

end Sys2Proof.Machine
end
